-- ==== Sys2Proof/Word.lean ====
section
/-! DEFINITION. The byte of a frame, the qualification set, and the two arithmetic words of section 1.5.2 that
every block uses. Quantities of the manual are integers in stated units, so they are Nat or Int; only what the
manual itself carries as bits (frame bytes, masks, event values) is a bit vector. -/

namespace Sys2Proof

/-- One byte of a frame (R166). -/
abbrev Byte := BitVec 8

/-- A set of Q0 to Q15 (section 1.5.3), bit n standing for Qn as R188 carries it. -/
abbrev QualSet := BitVec 16

/-- A mask of arms (section 1.5.3), bit n standing for An; bits 4 to 7 name no arm. -/
abbrev ArmMask := BitVec 8

/-- A quantity that saturates at a limit (section 1.5.2): the increase stops at the limit. -/
def satAdd (limit x d : Nat) : Nat := min limit (x + d)

/-- To clamp an integer to a range (section 1.5.2). -/
def clampInt (lo hi x : Int) : Int := if x < lo then lo else if hi < x then hi else x

end Sys2Proof
end

