-- ==== Sys2Proof/Syntax.lean ====
section
/-! DEFINITION. The commands of the ZK480: one constructor of `Instr` for each row of spec/opcode_table.json.
A request row carries the select window that brought it (port, tag, the bytes clocked in) and its arguments as the
master gave them, in range or not: judging them is the owner's work (R1 and the rest). An event row carries the
index of the unit concerned and the input that the event brings. -/

namespace Sys2Proof

/-- The three master ports (chapter 9). -/
inductive Port where
  | tp
  | pp
  | sp
  deriving DecidableEq, Repr

/-- What a select window brings beside the request as read (R165, R166): its port, the request's tag, the payload bytes of
the request's frame, and the bytes that the master clocked after the frame. The frame's length, code and CRC follow from
the request and these; a window whose bytes hold no frame carries no request (R167), so it is no request row but a
SELECT_WINDOW. -/
structure Win where
  port : Port
  tag : Byte
  payload : List Byte
  after : List Byte
  deriving DecidableEq, Repr

/-- The value given for a field whose range is yes, no: `defined` of PRODUCT-PUT and RECIPE-PUT and a component's `mandatory`
(R1, R98). No layout says how it is carried, so a value that is neither can be given (assumption log 34). -/
inductive YesNo where
  | yes
  | no
  | other
  deriving DecidableEq, Repr

/-- The arguments of PRODUCT-PUT beside the code (R1). The pump is a number 0 to 3, or 255 (FF hex) for NONE (R188). -/
structure ProductArg where
  shortName : List Byte
  alpha : Nat
  required : QualSet
  pump : Nat
  defined : YesNo
  deriving DecidableEq, Repr

/-- The fields of one order line as ORDER-LINE carries them (R4, section 11.5); the basis is 0 GROSS, 1 NET. -/
structure LineArg where
  compartment : Nat
  arm : Nat
  product : Nat
  preset : Nat
  basis : Nat
  recipe : Nat
  deriving DecidableEq, Repr

/-- The entry that PERMIT-PUT carries (R28, section 11.5); the state is 0 ACTIVE, 1 BLOCKED. -/
structure PermitArg where
  card : Nat
  carrier : Option Nat
  quals : QualSet
  expiry : Nat
  loads : Nat
  state : Nat
  deriving DecidableEq, Repr

/-- The values of ARM-CONFIG in the units of table 4.1.1: litres, and seconds for the close timeout (R69). -/
structure ArmArg where
  lowStart : Nat
  slowdown : Nat
  maxAnt : Nat
  ant : Nat
  closeTimeout : Nat
  strayLimit : Nat
  progress : Nat
  deriving DecidableEq, Repr

/-- The three values of PUMP-CONFIG in seconds (R88). -/
structure PumpArg where
  startTimeout : Nat
  settle : Nat
  runOn : Nat
  deriving DecidableEq, Repr

/-- One component as RECIPE-PUT carries it (R98); how `mandatory` is carried is assumption log 34. -/
structure ComponentArg where
  additive : Nat
  ratio : Nat
  tolerance : Nat
  mandatory : YesNo
  deriving DecidableEq, Repr

/-- The value part of CAL-WRITE (R143, section 11.5), under its item kind. `other` is a kind that is none of the four. -/
inductive CalValueArg where
  | meterConstant (k : Nat)
  | factorCurve (count : Nat) (points : List (Nat × Nat))
  | probeOffset (offset : Int)
  | strokeVolume (s : Nat)
  | other (kind : Nat)
  deriving DecidableEq, Repr

/-- The object of TOTALS-READ (R135); `other` is any object that is neither a meter nor an injector. -/
inductive TotalsObject where
  | meter (n : Nat)
  | injector (n : Nat)
  | other
  deriving DecidableEq, Repr

/-- The value given for one permissive in PERMISSIVE-REPORT (R117). -/
inductive FlagValue where
  | present
  | absent
  | other
  deriving DecidableEq, Repr

/-- The two pulse inputs of a meter (section 3.2). -/
inductive PulseInput where
  | chA
  | chB
  deriving DecidableEq, Repr

/-- The four bytes of a converter answer, in the order they are clocked in (R187). -/
structure ConverterAnswer where
  status : Byte
  tempHigh : Byte
  tempLow : Byte
  check : Byte
  deriving DecidableEq, Repr

/-- The levels that the blocks first sample at a start-up: the decoder positions of M0 to M3 (R68), the pump
feedback levels (R95), the injector feedback levels (R106), and whether the SEAL input is active (R141). -/
structure SampledInputs where
  position : Vector (Fin 4) 4
  pumpFeedback : Vector Bool 4
  injectorFeedback : Vector Bool 8
  sealActive : Bool
  deriving DecidableEq, Repr

/-- The request codes of R188, by name. -/
inductive ReqCode where
  | nop | statusRead | totalsRead | eventRead
  | productPut | productRead | orderBegin | orderLine | orderCancel | orderAmend
  | compartmentStart | compartmentStop | loadFinish | loadResume | loadAbort
  | timeSet | permitPut | permitDelete | permitBlock | permitUnblock | permitRead | careMaskSet
  | cardPresent | cardWithdraw | orderList | orderSelect
  | armConfig | armClear | armBlock | armUnblock | pumpConfig | pumpReset
  | injectorAssign | injectorReset | recipePut | recipeRead
  | deadmanConfig | deadman | permissiveReport | stopAll | resume | esdReset
  | meterErrors | meterClearDebt | calWrite | calRead
  | noteConfig | noteRelease | notePrinted | noteOpen | noteRead
  deriving DecidableEq, Repr

/-- The commands, in the order of spec/opcode_table.json. STATUS-READ carries an index or two only where its section needs one
(R178); an index that is not carried stands as 0. -/
inductive Instr where
  | nop (w : Win)
  | statusRead (w : Win) (sect : Nat) (index : Nat) (position : Nat)
  | totalsRead (w : Win) (object : TotalsObject)
  | eventRead (w : Win)
  | productPut (w : Win) (code : Nat) (entry : ProductArg)
  | productRead (w : Win) (code : Nat)
  | orderBegin (w : Win) (number : Nat) (binding : Option Nat) (carrier : Option Nat) (count : Nat)
  | orderLine (w : Win) (index : Nat) (line : LineArg)
  | orderCancel (w : Win) (number : Nat)
  | orderAmend (w : Win) (number : Nat) (compartment : Nat) (preset : Nat)
  | compartmentStart (w : Win) (compartment : Nat)
  | compartmentStop (w : Win) (compartment : Nat)
  | loadFinish (w : Win)
  | loadResume (w : Win)
  | loadAbort (w : Win)
  | timeSet (w : Win) (day : Nat) (second : Nat)
  | permitPut (w : Win) (entry : PermitArg)
  | permitDelete (w : Win) (card : Nat)
  | permitBlock (w : Win) (card : Nat)
  | permitUnblock (w : Win) (card : Nat)
  | permitRead (w : Win) (card : Nat)
  | careMaskSet (w : Win) (mask : QualSet)
  | cardPresent (w : Win) (card : Nat)
  | cardWithdraw (w : Win)
  | orderList (w : Win) (start : Nat)
  | orderSelect (w : Win) (number : Nat)
  | armConfig (w : Win) (arm : Nat) (config : ArmArg)
  | armClear (w : Win) (mask : ArmMask)
  | armBlock (w : Win) (mask : ArmMask)
  | armUnblock (w : Win) (mask : ArmMask)
  | pumpConfig (w : Win) (pump : Nat) (config : PumpArg)
  | pumpReset (w : Win) (pump : Nat)
  | injectorAssign (w : Win) (injector : Nat) (arm : Nat) (additive : Nat) (timeout : Nat)
  | injectorReset (w : Win) (injector : Nat)
  | recipePut (w : Win) (number : Nat) (defined : YesNo) (components : List ComponentArg)
  | recipeRead (w : Win) (number : Nat)
  | deadmanConfig (w : Win) (period : Nat) (warning : Nat)
  | deadman (w : Win) (kind : Nat)
  | permissiveReport (w : Win) (ground : FlagValue) (overfillOk : FlagValue) (vapour : FlagValue)
  | stopAll (w : Win) (mask : ArmMask)
  | resume (w : Win)
  | esdReset (w : Win)
  | meterErrors (w : Win) (meter : Nat)
  | meterClearDebt (w : Win) (meter : Nat)
  | calWrite (w : Win) (index : Nat) (value : CalValueArg)
  | calRead (w : Win) (kind : Nat) (index : Nat)
  | noteConfig (w : Win) (minutes : Nat)
  | noteRelease (w : Win) (serial : Nat)
  | notePrinted (w : Win) (serial : Nat)
  | noteOpen (w : Win) (serial : Nat) (first : Nat) (last : Nat) (direction : Nat)
  | noteRead (w : Win)
  | selectWindow (port : Port) (bytes : List Byte)
  | quadratureStep (meter : Fin 4) (input : PulseInput)
  | integrityError (meter : Fin 4)
  | gateExpiry (meter : Fin 4)
  | pollSlot (answer : ConverterAnswer)
  | settleTimerExpiry (arm : Fin 4)
  | closeTimerExpiry (arm : Fin 4)
  | pumpFeedback (pump : Fin 4) (on : Bool)
  | startTimerExpiry (pump : Fin 4)
  | runOnTimerExpiry (pump : Fin 4)
  | injectorFeedback (injector : Fin 8) (on : Bool)
  | feedbackTimerExpiry (injector : Fin 8)
  | esdInputChange (active : Bool)
  | validityTimerExpiry
  | firstExpiry
  | secondExpiry
  | contextTimerExpiry
  | holdTimerExpiry (slot : Fin 8)
  | sealInputChange (active : Bool)
  | bayClockSecond
  | recordWriteComplete
  | saveWriteComplete
  | pfailAssertion
  | resetAssertion (firstCopyWhole : Bool)
  | startUp (inputs : SampledInputs)
  | start
  | lossOfPower (firstCopyWhole : Bool)
  deriving DecidableEq, Repr

end Sys2Proof
end

