-- ==== Sys2Proof/Config.lean ====
section
/-! DEFINITION. What the manual leaves to a layout it does not print: two constants with no body. Nothing in Lean can
evaluate them, so a claim that mentions them holds whatever they are (assumption logs 3 and 4). -/

namespace Sys2Proof

/-- FREE VALUE (assumption log 3). The layout of a response payload that section 11.5 does not print: from the kind of
payload and the numbers its fields carry (R188), in the order in which their rule lists them, the bytes. R166 bounds a
payload to 60 bytes; the reader of this constant keeps the first 60. -/
opaque Config.layout : Nat → List Int → List Byte

/-- FREE VALUE (assumption log 4). How the part reads the payload of a request whose layout section 11.5 does not
print: from the request code (R188) and the payload bytes, the request they spell, or none where the payload length
is not one that the code allows (R168). -/
opaque Config.readPayload : Nat → List Byte → Option Instr

end Sys2Proof
end

