-- ==== Sys2Proof/Decode.lean ====
section
/-! DEFINITION. The word of a table row. No row of spec/opcode_table.json has fixed bits or fields ("n_rows_with_fixed":
0), so no word spells a command: a request reaches the block as the bytes of a select window, which SELECT_WINDOW
reads (Machine/Window.lean), and an event reaches it on a field input. -/

namespace Sys2Proof

/-- The command that a table word spells: none, since no row gives bits. -/
def decodeTableWord (_nbits _w : Nat) : Option Instr := none

end Sys2Proof
end

