-- ==== Sys2Proof/Machine/State.lean ====
section
/-! DEFINITION. The state of the ZK480 as plain data: every record that chapters 1 to 11 give its blocks, the audit
memory beneath them, the outputs that are not functions of a record, and the queue of commands waiting. A timer is
`none` while it is idle and `some ms`, its time left in milliseconds, while it runs. -/

namespace Sys2Proof.Machine

/-- A timer: idle, or running with its time left in milliseconds (assumption log 2). -/
abbrev Timer := Option Nat

/-! ### Chapter 1: products, orders, the load record -/

inductive Basis where
  | gross
  | net
  deriving DecidableEq, Repr

/-- An entry of the product table (section 1.1.1). The pump `none` is NONE. -/
structure ProductEntry where
  shortName : List Byte
  alpha : Nat
  required : QualSet
  pump : Option (Fin 4)
  defined : Bool
  deriving DecidableEq, Repr

/-- An order line (section 1.2.1); its index is its place in the order. The preset is in litres, and the recipe is 0
for none. -/
structure OrderLine where
  compartment : Nat
  arm : Fin 4
  product : Fin 16
  preset : Nat
  basis : Basis
  recipe : Nat
  deriving DecidableEq, Repr

/-- An order of the queue (section 1.2.1). The binding `none` is ANY. -/
structure Order where
  number : Nat
  binding : Option Nat
  carrier : Option Nat
  lines : List OrderLine
  deriving DecidableEq, Repr

/-- The staging buffer's order: for each index 1 to c a received line or nothing (section 1.2.1). -/
structure Staging where
  number : Nat
  binding : Option Nat
  carrier : Option Nat
  lines : List (Option OrderLine)
  deriving DecidableEq, Repr

/-- The halt causes of R14, in the order of their numbers (R188). -/
inductive HaltCause where
  | driver | abort | esd | permissive | deadman | stopAll | power | safety | pump | temp | additive | pulseFault
  | reverseLimit
  deriving DecidableEq, Repr

/-- Why the latest close drive began (section 1.3.1). -/
inductive CloseReason where
  | preset
  | amend
  | halt (cause : HaltCause)
  deriving DecidableEq, Repr

/-- The compartment states of section 1.4.1. -/
inductive CompState where
  | pending | starting | lowStart | full | slowdown | closing | halted | done
  deriving DecidableEq, Repr

/-- The marks of a compartment record that are carried to the note (section 1.3.1). -/
structure CompFlags where
  short : Bool := false
  amended : Bool := false
  notLoaded : Bool := false
  reverseFlow : Bool := false
  tempHeld : Bool := false
  tempFault : Bool := false
  valveLeak : Bool := false
  deriving DecidableEq, Repr

/-- One component of a recipe (section 5.2.1). -/
structure Component where
  additive : Nat
  ratio : Nat
  tolerance : Nat
  mandatory : Bool
  deriving DecidableEq, Repr

inductive Judgement where
  | pending | within | out | notJudged
  deriving DecidableEq, Repr

/-- A component result of a compartment (section 5.3.1). -/
structure ComponentResult where
  position : Nat
  recipe : Nat
  component : Component
  injector : Option (Fin 8)
  stroke : Option Nat
  index : Nat
  confirmed : Nat
  missed : Nat
  skipped : Nat
  delivered : Nat
  expected : Option Nat
  deviation : Option Int
  judgement : Judgement
  markSkipped : Bool
  markOut : Bool
  deriving DecidableEq, Repr

/-- A gross and a net totalizer reading of one meter, in mL. -/
structure Readings where
  gross : Nat
  net : Nat
  deriving DecidableEq, Repr

/-- A compartment record (section 1.3.1) together with the order line it belongs to. -/
structure CompRecord where
  line : OrderLine
  state : CompState
  gross : Nat
  net : Nat
  sumGT : Int
  sumG : Nat
  maxFlow : Nat
  antUsed : Option Nat
  opening : Option Readings
  closing : Option Readings
  closeReason : Option CloseReason
  haltCause : Option HaltCause
  additives : List ComponentResult
  flags : CompFlags
  deriving DecidableEq, Repr

/-- The suspension causes of section 1.6. -/
inductive Cause where
  | esd | permissive | deadman | stopAll | power
  deriving DecidableEq, Repr

/-- The suspension cause set: each cause at most once. -/
structure CauseSet where
  esd : Bool := false
  permissive : Bool := false
  deadman : Bool := false
  stopAll : Bool := false
  power : Bool := false
  deriving DecidableEq, Repr

inductive LoadState where
  | opened | active | suspended | closing
  deriving DecidableEq, Repr

/-- A day number and a second of day. -/
structure Stamp where
  day : Nat
  second : Nat
  deriving DecidableEq, Repr

/-- The close time of the load record once the close hand-off has recorded it (R19). -/
inductive CloseTime where
  | notSet
  | taken (stamp : Stamp)
  deriving DecidableEq, Repr

/-- The load record (section 1.3.1), all but `image owed`, which no image holds (R11) and which stands in `State`.
The order is held as its number, binding and carrier here and its lines in the compartment records, in index order. -/
structure LoadRecord where
  state : LoadState
  card : Nat
  carrier : Option Nat
  number : Nat
  binding : Option Nat
  orderCarrier : Option Nat
  comps : List CompRecord
  openTime : Stamp
  closeTime : Option CloseTime
  cecAtOpen : Nat
  slot : Fin 8
  causes : CauseSet
  totalsUncertain : Bool
  deriving DecidableEq, Repr

/-! ### Chapter 2: the permit unit -/

/-- The bay clock (section 2.1). -/
structure Clock where
  day : Nat
  second : Nat
  isSet : Bool
  deriving DecidableEq, Repr

inductive PermitState where
  | active
  | blocked
  deriving DecidableEq, Repr

/-- The fields card number through state of a permit entry (section 2.2.1). -/
structure PermitContent where
  card : Nat
  carrier : Option Nat
  quals : QualSet
  expiry : Nat
  loads : Nat
  state : PermitState
  deriving DecidableEq, Repr

inductive PendingAction where
  | none
  | replace (content : PermitContent)
  | delete
  deriving DecidableEq, Repr

structure PermitEntry where
  content : PermitContent
  inUse : Bool
  action : PendingAction
  deriving DecidableEq, Repr

/-- The authorisation context (section 2.4.1). -/
structure Context where
  card : Nat
  eligible : List Nat
  timer : Timer
  deriving DecidableEq, Repr

/-! ### Chapter 3: meters and the temperature scanner -/

/-- The figures of a gate (R55). -/
structure GateFigures where
  pulses : Nat
  indicated : Nat
  flow : Nat
  factor : Nat
  temp : Int
  vcf : Nat
  gross : Nat
  net : Nat
  deriving DecidableEq, Repr

/-- A meter channel's record (section 3.1.1). `decoding` is whether the quadrature decoder counts (R42, R44). -/
structure Meter where
  position : Fin 4
  forward : Nat
  backward : Nat
  errors : Nat
  errorCounter : Nat
  debt : Nat
  remI : Nat
  remG : Nat
  remN : Nat
  gross : Nat
  net : Nat
  last : Option GateFigures
  gateTimer : Timer
  decoding : Bool
  deriving DecidableEq, Repr

/-- What the scanner holds for a probe (section 3.7.1). -/
structure Probe where
  held : Int
  invalidRun : Nat
  deriving DecidableEq, Repr

/-- The poll slot in progress: its channel, the request byte last clocked out on TMO (R187), and the slot timer. -/
structure Scanner where
  channel : Fin 4
  request : Byte
  slotTimer : Timer
  deriving DecidableEq, Repr

/-! ### Chapter 4: arms and pumps -/

/-- An arm's configuration record (section 4.1.1). Volumes are held in mL, the close timeout in seconds. -/
structure ArmConfig where
  lowStart : Nat
  slowdown : Nat
  maxAnt : Nat
  ant : Nat
  closeTimeout : Nat
  strayLimit : Nat
  progress : Nat
  deriving DecidableEq, Repr

inductive ArmState where
  | idle | priming | low | full | slowdown | closing | fault
  deriving DecidableEq, Repr

inductive Valve where
  | closed | low | full
  deriving DecidableEq, Repr

inductive FaultCause where
  | pulseFault | reverseLimit | strayFlow | valveLeak
  deriving DecidableEq, Repr

/-- An arm's configuration and volatile record (sections 4.1.1 and 4.2.1). -/
structure Arm where
  config : ArmConfig
  state : ArmState
  valve : Valve
  served : Option Nat
  settleTimer : Timer
  closeTimer : Timer
  zeroRun : Nat
  learnable : Bool
  faultCause : Option FaultCause
  faultDuringClose : Bool
  hold : Bool
  stray : Nat
  blocked : Bool
  antOwed : Bool
  deriving DecidableEq, Repr

/-- A pump's configuration, in seconds (section 4.7.1). -/
structure PumpConfig where
  startTimeout : Nat
  settle : Nat
  runOn : Nat
  deriving DecidableEq, Repr

inductive PumpState where
  | stopped | starting | running | runOn | failed
  deriving DecidableEq, Repr

inductive FailKind where
  | start
  | lost
  deriving DecidableEq, Repr

/-- A pump's configuration and volatile record (section 4.7.1). -/
structure Pump where
  config : PumpConfig
  state : PumpState
  run : Bool
  feedback : Bool
  demand : Nat
  timer : Timer
  failKind : Option FailKind
  deriving DecidableEq, Repr

/-! ### Chapter 5: injectors and recipes -/

/-- The assignment fields of an injector, kept in audit memory; the timeout is in ms (section 5.1.1). -/
structure InjectorAssign where
  arm : Option (Fin 4)
  additive : Nat
  timeout : Nat
  deriving DecidableEq, Repr

inductive InjectorState where
  | idle | armed | stroking | fault | disabled
  deriving DecidableEq, Repr

/-- The component that an injector serves: a compartment number and a position. -/
structure Binding where
  compartment : Nat
  position : Nat
  deriving DecidableEq, Repr

/-- An injector's record (section 5.1.1) but for its stroke volume, which stands in the calibration set; `feedback` is
the feedback input as last seen (R105). -/
structure Injector where
  assign : InjectorAssign
  state : InjectorState
  binding : Option Binding
  output : Bool
  feedback : Bool
  timer : Timer
  owed : Nat
  consecutive : Nat
  total : Nat
  deriving DecidableEq, Repr

/-- A recipe table entry (section 5.2.1). -/
structure Recipe where
  defined : Bool
  components : List Component
  deriving DecidableEq, Repr

/-! ### Chapter 6: the safety unit -/

/-- A set of the three permissives (R116). -/
structure Permissives where
  ground : Bool
  overfillOk : Bool
  vapour : Bool
  deriving DecidableEq, Repr

inductive DeadmanStage where
  | normal | warning | expired
  deriving DecidableEq, Repr

/-- The safety unit record (section 6.1). `esdInput` is `none` until the ESD input has its first filtered level after a
start-up (R123); D and W are in seconds, the deadman timer in ms. -/
structure Safety where
  reported : Permissives
  stale : Bool
  validity : Timer
  esdInput : Option Bool
  esdLatch : Bool
  stopAllLatch : Bool
  period : Nat
  warning : Nat
  armed : Bool
  stage : DeadmanStage
  timer : Nat
  horn : Bool
  deriving DecidableEq, Repr

/-! ### Chapter 7: calibration -/

/-- A factor curve of one to four points (q, f): its first point and the others (section 7.5.1). -/
structure Curve where
  first : Nat × Nat
  rest : List (Nat × Nat)
  deriving DecidableEq, Repr

/-- The volatile calibration set with the CEC (section 7.5.1). -/
structure Calibration where
  meterK : Vector Nat 4
  curve : Vector Curve 4
  offset : Vector Int 4
  stroke : Vector Nat 8
  cec : Nat
  deriving DecidableEq, Repr

inductive SealState where
  | isSealed
  | isOpen
  deriving DecidableEq, Repr

/-- One item of the calibration set with its value (R142). -/
inductive CalItem where
  | meterConstant (meter : Fin 4) (k : Nat)
  | factorCurve (meter : Fin 4) (curve : Curve)
  | probeOffset (probe : Fin 4) (offset : Int)
  | strokeVolume (injector : Fin 8) (s : Nat)
  deriving DecidableEq, Repr

/-! ### Chapter 8: delivery notes -/

inductive NoteStatus where
  | complete | short | void
  deriving DecidableEq, Repr

/-- The header line (R150) but for its serial, which the commit assigns and the slot holds. -/
structure NoteHeader where
  status : NoteStatus
  order : Nat
  card : Nat
  carrier : Option Nat
  openTime : Stamp
  closeTime : Option Stamp
  cec : Nat
  totalsUncertain : Bool
  lines : Nat
  deriving DecidableEq, Repr

/-- A compartment line (R152). -/
structure NoteComp where
  index : Nat
  compartment : Nat
  arm : Fin 4
  shortName : List Byte
  preset : Nat
  basis : Basis
  gross : Nat
  net : Nat
  average : Option Int
  maxFlow : Nat
  opening : Option Readings
  closing : Option Readings
  flags : CompFlags
  additiveOut : Bool
  additiveSkipped : Bool
  haltCause : Option HaltCause
  deriving DecidableEq, Repr

/-- An additive line (R153): the compartment number and the component result it prints. -/
structure NoteAdditive where
  compartment : Nat
  result : ComponentResult
  deriving DecidableEq, Repr

/-- The trailer line (R154). -/
structure NoteTrailer where
  gross : Nat
  net : Nat
  lines : Nat
  deriving DecidableEq, Repr

/-- A composed note: its lines in their order (R149). -/
structure Note where
  header : NoteHeader
  comps : List NoteComp
  additives : List NoteAdditive
  trailer : NoteTrailer
  deriving DecidableEq, Repr

/-- One line of a note, with the serial that the header prints. -/
inductive NoteLine where
  | header (serial : Nat) (line : NoteHeader)
  | comp (line : NoteComp)
  | additive (line : NoteAdditive)
  | trailer (line : NoteTrailer)
  deriving DecidableEq, Repr

inductive SlotState where
  | free | reserved | composing | committing | stored
  deriving DecidableEq, Repr

/-- A note slot (section 8.1.1). -/
structure Slot where
  state : SlotState
  note : Option Note
  serial : Option Nat
  printed : Bool
  holdTimer : Timer
  holdExpired : Bool
  deriving DecidableEq, Repr

inductive Direction where
  | up
  | down
  deriving DecidableEq, Repr

/-- A note reader (R160). -/
structure Reader where
  serial : Nat
  first : Nat
  last : Nat
  direction : Direction
  cursor : Nat
  headerOwed : Bool
  lost : Bool
  deriving DecidableEq, Repr

/-! ### Chapter 9: ports, responses, events -/

/-- The status codes of section 9.2, in the order of their numbers. -/
inductive Status where
  | ok | accepted | clamped | none | badFrame | unknownRequest | notPermitted | badArgument | busy | state | full
  | notFound | duplicate | inUse | loadOpen | isSealed | counterFull | timeNotSet | bayBusy | qualification | noInjector
  | blocked | suspended | heldForPrint
  deriving DecidableEq, Repr

/-- The reasons of R188, in the order of their numbers. -/
inductive Reason where
  | timeNotSet | bayBusy | esd | unknown | blocked | expired | noLoads | notesFull | noOrder | withdrawn | timeout
  | deleted
  deriving DecidableEq, Repr

/-- The event codes of R174, in the order of their numbers. -/
inductive EventCode where
  | orderPosted | loadOpened | loadState | compartmentState | causeRaised | causeCleared | progress | authGranted
  | authDenied | authDropped | nvDone | sealChanged | pulseFault | reverseLimit | tempFault | valveLeak | strayFlow
  | pumpFail | injectorFault | permissiveStale | permissive | deadmanWarning | esd | noteReady | noteReleased | start
  deriving DecidableEq, Repr

/-- The object kinds of R188, in the order of their numbers. -/
inductive ObjectKind where
  | none | arm | compartment | injector | pump | noteSlot | product | recipe | reason | permitRecord | armRecord
  | blockRecord | pumpRecord | injectorRecord | deadmanRecord | noteConfigRecord | meterConstant | factorCurve
  | probeOffset | strokeVolume | productRecord | recipeRecord
  deriving DecidableEq, Repr

/-- An event record (R174). -/
structure Event where
  code : EventCode
  kind : ObjectKind
  number : Nat
  value : BitVec 32
  second : Nat
  deriving DecidableEq, Repr

/-- One entry of an ORDER-LIST response (R36): order number, and per line compartment number and product code. -/
structure ListedOrder where
  number : Nat
  lines : List (Nat × Fin 16)
  deriving DecidableEq, Repr

/-- The load fields of the BAY part of STATUS-READ (R178). -/
structure BayLoad where
  state : LoadState
  card : Nat
  number : Nat
  slot : Fin 8
  carrier : Option Nat
  openTime : Stamp
  causes : CauseSet
  totalsUncertain : Bool
  deriving DecidableEq, Repr

/-- The context fields of the BAY part of STATUS-READ (R178). -/
structure BayContext where
  card : Nat
  eligible : Nat
  timeLeft : Timer
  deriving DecidableEq, Repr

/-- BAY of STATUS-READ (R178); the staging is its order number and its count of lines received. -/
structure BayStatus where
  clock : Clock
  load : Option BayLoad
  context : Option BayContext
  queued : Nat
  staging : Option (Nat × Nat)
  deriving DecidableEq, Repr

/-- COMPARTMENT of STATUS-READ (R178). -/
structure CompStatus where
  index : Nat
  line : OrderLine
  state : CompState
  gross : Nat
  net : Nat
  average : Option Int
  maxFlow : Nat
  antUsed : Option Nat
  closeReason : Option CloseReason
  haltCause : Option HaltCause
  flags : CompFlags
  deriving DecidableEq, Repr

/-- ARM of STATUS-READ (R179). -/
structure ArmStatus where
  state : ArmState
  valve : Valve
  main : Bool
  trim : Bool
  served : Option Nat
  faultCause : Option FaultCause
  blocked : Bool
  hold : Bool
  stray : Nat
  ant : Nat
  debt : Nat
  held : Int
  invalidRun : Nat
  deriving DecidableEq, Repr

/-- One pump of PUMPS of STATUS-READ (R179). -/
structure PumpStatus where
  state : PumpState
  run : Bool
  feedback : Bool
  demand : Nat
  failKind : Option FailKind
  deriving DecidableEq, Repr

/-- INJECTOR of STATUS-READ (R179). -/
structure InjectorStatus where
  state : InjectorState
  arm : Option (Fin 4)
  additive : Nat
  binding : Option Binding
  owed : Nat
  consecutive : Nat
  output : Bool
  feedback : Bool
  deriving DecidableEq, Repr

/-- SAFETY of STATUS-READ (R179): the whole safety record with the effective flags, the seal state and the CEC. -/
structure SafetyStatus where
  record : Safety
  effective : Permissives
  sealState : SealState
  cec : Nat
  deriving DecidableEq, Repr

/-- One slot of NOTES of STATUS-READ (R179). -/
structure SlotStatus where
  state : SlotState
  serial : Option Nat
  printed : Bool
  holdExpired : Bool
  deriving DecidableEq, Repr

/-- What a response carries beside its status. Where section 11.5 prints a layout, Machine/Operands.lean gives the
bytes; for the others the content stands here and the bytes are free (assumption log 3). -/
inductive Payload where
  | none
  | lineIndex (index : Nat)
  | product (entry : ProductEntry)
  | amendJudged (delivered : Nat) (ant : Nat)
  | permit (entry : PermitEntry)
  | quals (set : QualSet)
  | reason (reason : Reason)
  | granted (eligible : Nat) (carrier : Option Nat)
  | orders (count : Nat) (entries : List ListedOrder) (next : Option Nat)
  | selected (order : Nat) (slot : Fin 8)
  | arms (mask : ArmMask)
  | recipe (entry : Recipe)
  | permissives (effective : Permissives)
  | stopForm (bay : Bool)
  | deadman (armed : Bool) (stage : DeadmanStage) (timeLeft : Nat)
  | meterTotals (gross : Nat) (net : Nat) (last : Option GateFigures) (debt : Nat) (cec : Nat) (sealState : SealState)
  | injectorTotals (total : Nat) (stroke : Nat) (cec : Nat) (sealState : SealState)
  | meterErrors (counter : Nat)
  | debt (before : Nat)
  | cec (count : Nat)
  | calibration (item : CalItem) (cec : Nat) (sealState : SealState)
  | events (records : List Event) (overflow : Bool)
  | noteOpened (lines : Nat) (status : NoteStatus)
  | noteLine (number : Nat) (wrapped : Bool) (line : NoteLine)
  | bay (status : BayStatus)
  | compartment (status : CompStatus)
  | additive (result : ComponentResult)
  | arm (status : ArmStatus)
  | pumps (statuses : List PumpStatus)
  | injector (status : InjectorStatus)
  | safety (status : SafetyStatus)
  | notes (slots : List SlotStatus) (counter : Nat) (minutes : Nat)
  deriving DecidableEq, Repr

/-- A response frame by content: the tag echoed, the status and the payload (R166). -/
structure Response where
  tag : Byte
  status : Status
  payload : Payload
  deriving DecidableEq, Repr

/-- A port controller's record (section 9.1) but for the note reader, which the note unit holds, and with the bytes
that data out carried in the last window (R165). -/
structure PortState where
  pending : Option Response
  inbound : List Byte
  outPosition : Nat
  shifted : List Byte
  events : List Event
  overflow : Bool
  deriving DecidableEq, Repr

structure Ports where
  tp : PortState
  pp : PortState
  sp : PortState
  deriving DecidableEq, Repr

/-! ### Chapter 10: audit memory -/

/-- Every meter totalizer and every injector totalizer (section 7.2.1). -/
structure Totals where
  meters : Vector Readings 4
  injectors : Vector Nat 8
  deriving DecidableEq, Repr

/-- A record of the write queue (section 10.1). `answers` of a permit record says that it answered a request with
ACCEPTED (R181); `learned` of an arm record says that learning produced it (R70). -/
inductive Record where
  | product (code : Fin 16) (entry : ProductEntry)
  | permit (card : Nat) (entry : Option PermitEntry) (answers : Bool)
  | arm (arm : Fin 4) (config : ArmConfig) (learned : Bool)
  | block (flags : Vector Bool 4)
  | pump (pump : Fin 4) (config : PumpConfig)
  | injector (injector : Fin 8) (assign : InjectorAssign)
  | recipe (index : Fin 16) (entry : Recipe)
  | deadman (period : Nat) (warning : Nat)
  | calibration (item : CalItem) (cec : Nat)
  | checkpoint (totals : Totals)
  | image (record : LoadRecord)
  | commit (slot : Fin 8) (note : Note) (serial : Nat)
  | release (slot : Fin 8)
  | noteConfig (minutes : Nat)
  | saveInvalid
  deriving DecidableEq, Repr

/-- A calibration item's record: its value and the CEC that its write produced (R142). -/
structure CalNat where
  value : Nat
  cec : Nat
  deriving DecidableEq, Repr

structure CalCurve where
  value : Curve
  cec : Nat
  deriving DecidableEq, Repr

structure CalInt where
  value : Int
  cec : Nat
  deriving DecidableEq, Repr

/-- The meter figures of the power-fail save (R184). -/
structure SavedMeter where
  gross : Nat
  net : Nat
  remI : Nat
  remG : Nat
  remN : Nat
  debt : Nat
  deriving DecidableEq, Repr

/-- The values that a power-fail save takes (R184). -/
structure SaveData where
  meters : Vector SavedMeter 4
  injectors : Vector Nat 8
  load : Option LoadRecord
  deriving DecidableEq, Repr

/-- The power-fail save area: whether its check holds, its validity field, and its values (R184, R185). -/
structure SaveArea where
  checkHolds : Bool
  valid : Bool
  data : SaveData
  deriving DecidableEq, Repr

/-- A stored note of a slot record (section 8.1.1). -/
structure StoredNote where
  note : Note
  serial : Nat
  deriving DecidableEq, Repr

/-- The audit memory (section 10.1): of each record the content that its first whole copy holds (assumption log 5). -/
structure Audit where
  products : Vector ProductEntry 16
  permits : List PermitEntry
  arms : Vector ArmConfig 4
  blocked : Vector Bool 4
  pumps : Vector PumpConfig 4
  injectors : Vector InjectorAssign 8
  recipes : Vector Recipe 16
  period : Nat
  warning : Nat
  meterK : Vector CalNat 4
  curve : Vector CalCurve 4
  offset : Vector CalInt 4
  stroke : Vector CalNat 8
  checkpoint : Totals
  image : Option LoadRecord
  slots : Vector (Option StoredNote) 8
  serial : Nat
  holdMinutes : Nat
  save : SaveArea
  deriving DecidableEq, Repr

/-! ### The part -/

/-- Where the part is in its life: held (RESET active or no power, R189), in start-up (section 10.3), running, or in
POWER_DOWN (R183). -/
inductive Phase where
  | held | startUp | running | powerDown
  deriving DecidableEq, Repr

inductive StartMark where
  | orderly
  | abrupt
  deriving DecidableEq, Repr

/-- Why a step stops: no command of this block stops it, since the manual answers every request and gives every event
its effect. The type has no constructor, so no claim can rest on a stop (safe). -/
inductive Fault where
  deriving DecidableEq, Repr

/-- Why a command has no meaning. -/
inductive Refusal where
  /-- Raised by an arm of `exec` whose command is not modelled yet; no arm raises it now. Stopping there is safe. -/
  | notModelled (mnemonic : String)
  deriving DecidableEq, Repr

/-- The whole state. `started` is whether START has been posted since the part was last held (R171, R186).
`pending` is the model's queue of commands waiting, first in first out; every other field is the manual's. -/
structure State where
  phase : Phase
  started : Bool
  pfail : Bool
  startMark : StartMark
  clock : Clock
  permits : List PermitEntry
  careMask : QualSet
  context : Option Context
  chargeOwed : Option Record
  products : Vector ProductEntry 16
  staging : Option Staging
  orders : List Order
  load : Option LoadRecord
  imageOwed : Bool
  arms : Vector Arm 4
  pumps : Vector Pump 4
  meters : Vector Meter 4
  probes : Vector Probe 4
  scanner : Scanner
  checkpointOwed : Bool
  injectors : Vector Injector 8
  recipes : Vector Recipe 16
  safety : Safety
  cal : Calibration
  sealState : SealState
  slots : Vector Slot 8
  serial : Nat
  holdMinutes : Nat
  tpReader : Option Reader
  ppReader : Option Reader
  ports : Ports
  queue : List Record
  writing : Bool
  backlog : List Record
  startRecords : Nat
  saving : Option SaveData
  audit : Audit
  pending : List Instr
  deriving DecidableEq, Repr

/-! ### Start-up values and reset -/

/-- An idle port controller (R171). -/
def PortState.idle : PortState :=
  { pending := none, inbound := [], outPosition := 0, shifted := [], events := [], overflow := false }

/-- An arm as R72 sets it, with its configuration and blocked flag. -/
def Arm.initial (config : ArmConfig) (blocked : Bool) : Arm :=
  { config, state := .idle, valve := .closed, served := none, settleTimer := none, closeTimer := none, zeroRun := 0,
    learnable := false, faultCause := none, faultDuringClose := false, hold := false, stray := 0, blocked,
    antOwed := false }

/-- A pump as R95 sets it, with its configuration and first sampled feedback. -/
def Pump.initial (config : PumpConfig) (feedback : Bool) : Pump :=
  { config, state := .stopped, run := false, feedback, demand := 0, timer := none, failKind := none }

/-- A meter channel as R68 sets it, with its totalizers, remainders and debt, before START. -/
def Meter.initial (saved : SavedMeter) (position : Fin 4) : Meter :=
  { position, forward := 0, backward := 0, errors := 0, errorCounter := 0, debt := saved.debt, remI := saved.remI,
    remG := saved.remG, remN := saved.remN, gross := saved.gross, net := saved.net, last := none, gateTimer := none,
    decoding := true }

/-- A probe as R65 sets it. -/
def Probe.initial : Probe := { held := 1500, invalidRun := 10 }

/-- An injector as R97 sets it, with its assignment, first seen feedback and totalizer. -/
def Injector.initial (assign : InjectorAssign) (feedback : Bool) (total : Nat) : Injector :=
  { assign, state := if assign.arm = none then .disabled else .idle, binding := none, output := false, feedback,
    timer := none, owed := 0, consecutive := 0, total }

/-- The safety unit as R132 sets it, with D and W. -/
def Safety.initial (period warning : Nat) : Safety :=
  { reported := { ground := false, overfillOk := false, vapour := false }, stale := true, validity := none,
    esdInput := none, esdLatch := false, stopAllLatch := false, period, warning, armed := false, stage := .normal,
    timer := period * 1000, horn := false }

/-- A slot as R163 sets it: STORED with its note, held for print once more, or FREE. -/
def Slot.initial (minutes : Nat) : Option StoredNote → Slot
  | none => { state := .free, note := none, serial := none, printed := false, holdTimer := none, holdExpired := false }
  | some n =>
    { state := .stored, note := some n.note, serial := some n.serial, printed := false,
      holdTimer := some (minutes * 60000), holdExpired := false }

/-- The CEC at start-up: the highest that any calibration record carries (R142). -/
def Audit.cec (a : Audit) : Nat :=
  (a.meterK.toList.map CalNat.cec ++ a.curve.toList.map CalCurve.cec ++ a.offset.toList.map CalInt.cec
    ++ a.stroke.toList.map CalNat.cec).foldl max 0

/-- The meter figures that an abrupt start-up takes from the checkpoint, remainders and debt 0 (R68, R185). -/
def SavedMeter.ofCheckpoint (r : Readings) : SavedMeter :=
  { gross := r.gross, net := r.net, remI := 0, remG := 0, remN := 0, debt := 0 }

/-- The volatile state that a start-up gives every block from audit memory `a`, with the meter figures `m`, the
injector totals `t` and the first sampled inputs `i`, before any load is restored. The phase is still `held`. -/
def State.fresh (a : Audit) (m : Vector SavedMeter 4) (t : Vector Nat 8) (i : SampledInputs) : State :=
  { phase := .held, started := false, pfail := false, startMark := .abrupt,
    clock := { day := 0, second := 0, isSet := false },
    permits := a.permits, careMask := 0xFFFF, context := none, chargeOwed := none,
    products := a.products, staging := none, orders := [], load := none, imageOwed := false,
    arms := #v[Arm.initial a.arms[0] a.blocked[0], Arm.initial a.arms[1] a.blocked[1],
      Arm.initial a.arms[2] a.blocked[2], Arm.initial a.arms[3] a.blocked[3]],
    pumps := #v[Pump.initial a.pumps[0] i.pumpFeedback[0], Pump.initial a.pumps[1] i.pumpFeedback[1],
      Pump.initial a.pumps[2] i.pumpFeedback[2], Pump.initial a.pumps[3] i.pumpFeedback[3]],
    meters := #v[Meter.initial m[0] i.position[0], Meter.initial m[1] i.position[1],
      Meter.initial m[2] i.position[2], Meter.initial m[3] i.position[3]],
    probes := #v[Probe.initial, Probe.initial, Probe.initial, Probe.initial],
    scanner := { channel := 0, request := 0, slotTimer := none }, checkpointOwed := false,
    injectors := #v[Injector.initial a.injectors[0] i.injectorFeedback[0] t[0],
      Injector.initial a.injectors[1] i.injectorFeedback[1] t[1],
      Injector.initial a.injectors[2] i.injectorFeedback[2] t[2],
      Injector.initial a.injectors[3] i.injectorFeedback[3] t[3],
      Injector.initial a.injectors[4] i.injectorFeedback[4] t[4],
      Injector.initial a.injectors[5] i.injectorFeedback[5] t[5],
      Injector.initial a.injectors[6] i.injectorFeedback[6] t[6],
      Injector.initial a.injectors[7] i.injectorFeedback[7] t[7]],
    recipes := a.recipes, safety := Safety.initial a.period a.warning,
    cal := { meterK := #v[a.meterK[0].value, a.meterK[1].value, a.meterK[2].value, a.meterK[3].value],
             curve := #v[a.curve[0].value, a.curve[1].value, a.curve[2].value, a.curve[3].value],
             offset := #v[a.offset[0].value, a.offset[1].value, a.offset[2].value, a.offset[3].value],
             stroke := #v[a.stroke[0].value, a.stroke[1].value, a.stroke[2].value, a.stroke[3].value,
               a.stroke[4].value, a.stroke[5].value, a.stroke[6].value, a.stroke[7].value],
             cec := a.cec },
    sealState := if i.sealActive then .isSealed else .isOpen,
    slots := #v[Slot.initial a.holdMinutes a.slots[0], Slot.initial a.holdMinutes a.slots[1],
      Slot.initial a.holdMinutes a.slots[2], Slot.initial a.holdMinutes a.slots[3],
      Slot.initial a.holdMinutes a.slots[4], Slot.initial a.holdMinutes a.slots[5],
      Slot.initial a.holdMinutes a.slots[6], Slot.initial a.holdMinutes a.slots[7]],
    serial := a.serial, holdMinutes := a.holdMinutes, tpReader := none, ppReader := none,
    ports := { tp := .idle, pp := .idle, sp := .idle },
    queue := [], writing := false, backlog := [], startRecords := 0, saving := none, audit := a, pending := [] }

/-- Inputs before the part has sampled any (assumption log 6): every pulse pair low, every feedback off, the seal
active. -/
def unsampledInputs : SampledInputs :=
  { position := #v[0, 0, 0, 0], pumpFeedback := Vector.replicate 4 false,
    injectorFeedback := Vector.replicate 8 false, sealActive := true }

/-- The part held by RESET or by the absence of power, with audit memory `a` (R189): every output off, every volatile
record at its start-up value. -/
def State.held (a : Audit) : State :=
  State.fresh a
    #v[.ofCheckpoint a.checkpoint.meters[0], .ofCheckpoint a.checkpoint.meters[1],
       .ofCheckpoint a.checkpoint.meters[2], .ofCheckpoint a.checkpoint.meters[3]]
    a.checkpoint.injectors unsampledInputs

/-- An undefined product of a part as delivered (section 1.1.1): short name "-" (2D hex). -/
def ProductEntry.factory : ProductEntry :=
  { shortName := [0x2D], alpha := 0, required := 0, pump := none, defined := false }

/-- The default arm configuration of table 4.1.1, in mL and seconds. -/
def ArmConfig.factory : ArmConfig :=
  { lowStart := 50000, slowdown := 200000, maxAnt := 100000, ant := 40000, closeTimeout := 10, strayLimit := 5000,
    progress := 100000 }

/-- The default pump configuration of table 4.7.1. -/
def PumpConfig.factory : PumpConfig := { startTimeout := 15, settle := 2, runOn := 30 }

/-- An injector of a part as delivered (section 5.1.1). -/
def InjectorAssign.factory : InjectorAssign := { arm := none, additive := 0, timeout := 500 }

/-- An undefined recipe of a part as delivered (section 5.2.1). -/
def Recipe.factory : Recipe :=
  { defined := false, components := [{ additive := 0, ratio := 10, tolerance := 1, mandatory := false }] }

/-- Totals of zeros (section 7.1.1). -/
def Totals.zero : Totals :=
  { meters := Vector.replicate 4 { gross := 0, net := 0 }, injectors := Vector.replicate 8 0 }

/-- Save values of zeros; the save area of a part as delivered is not valid (assumption log 6). -/
def SaveData.zero : SaveData :=
  { meters := Vector.replicate 4 (.ofCheckpoint { gross := 0, net := 0 }), injectors := Vector.replicate 8 0,
    load := none }

/-- The audit memory of a part as delivered from the factory (sections 1.1.1, 2.2.1, 4.1.1, 4.7.1, 5.1.1, 5.2.1, 7.1.1,
7.5.1, 8.1.1 and R126). -/
def Audit.factory : Audit :=
  { products := Vector.replicate 16 .factory, permits := [], arms := Vector.replicate 4 .factory,
    blocked := Vector.replicate 4 false, pumps := Vector.replicate 4 .factory,
    injectors := Vector.replicate 8 .factory, recipes := Vector.replicate 16 .factory, period := 90, warning := 30,
    meterK := Vector.replicate 4 { value := 100000, cec := 0 },
    curve := Vector.replicate 4 { value := { first := (0, 100000), rest := [] }, cec := 0 },
    offset := Vector.replicate 4 { value := 0, cec := 0 }, stroke := Vector.replicate 8 { value := 1000, cec := 0 },
    checkpoint := .zero, image := none, slots := Vector.replicate 8 none, serial := 0, holdMinutes := 10,
    save := { checkHolds := false, valid := false, data := .zero } }

/-- The machine right after reset: a part as delivered from the factory, RESET active, start-up not yet begun (R189).
START_UP and then START bring it to where its ports take windows (assumption log 1). -/
def State.reset : State := State.held Audit.factory

end Sys2Proof.Machine
end

