-- ==== Sys2Proof/Machine/Flags.lean ====
section
/-! DEFINITION. Sets, marks and the numbers of enumerations: the cause set, the permissive set, the compartment
classes of section 1.4.1, and the numbers that R188 gives the names a frame or an event value carries. -/

namespace Sys2Proof.Machine

/-! ### Sets -/

/-- Whether the set holds a cause (section 1.6). -/
def CauseSet.has (c : CauseSet) : Cause → Bool
  | .esd => c.esd
  | .permissive => c.permissive
  | .deadman => c.deadman
  | .stopAll => c.stopAll
  | .power => c.power

/-- The set with a cause put in or taken out (R21, R22). -/
def CauseSet.put (c : CauseSet) (held : Bool) : Cause → CauseSet
  | .esd => { c with esd := held }
  | .permissive => { c with permissive := held }
  | .deadman => { c with deadman := held }
  | .stopAll => { c with stopAll := held }
  | .power => { c with power := held }

/-- The set holds no cause. -/
def CauseSet.isEmpty (c : CauseSet) : Bool := !(c.esd || c.permissive || c.deadman || c.stopAll || c.power)

/-- The halt cause of the same name as a suspension cause (R14, R21). -/
def Cause.haltCause : Cause → HaltCause
  | .esd => .esd
  | .permissive => .permissive
  | .deadman => .deadman
  | .stopAll => .stopAll
  | .power => .power

/-- The full set of permissives (R116). -/
def Permissives.isFull (p : Permissives) : Bool := p.ground && p.overfillOk && p.vapour

/-- The effective flags: the reported flags, or the empty set while stale (R116). -/
def Safety.effective (y : Safety) : Permissives :=
  if y.stale then { ground := false, overfillOk := false, vapour := false } else y.reported

/-- Whether a mask names an arm (section 1.5.3). -/
def maskHas (mask : ArmMask) (a : Fin 4) : Bool := mask.getLsbD a.val

/-- Whether a mask names no arm but A0 to A3. -/
def maskInRange (mask : ArmMask) : Bool := mask.toNat < 16

/-! ### Compartment and arm classes -/

/-- Active compartments (section 1.4.1). -/
def CompState.isActive : CompState → Bool
  | .starting | .lowStart | .full | .slowdown | .closing => true
  | .pending | .halted | .done => false

/-- Flowing compartments (section 1.4.1). -/
def CompState.isFlowing : CompState → Bool
  | .lowStart | .full | .slowdown => true
  | .pending | .starting | .closing | .halted | .done => false

/-- The states that a drive to close reaches (R14). -/
def CompState.isDrivable : CompState → Bool
  | .starting | .lowStart | .full | .slowdown => true
  | .pending | .closing | .halted | .done => false

/-- The flowing states of an arm (R103). -/
def ArmState.isFlowing : ArmState → Bool
  | .low | .full | .slowdown => true
  | .idle | .priming | .closing | .fault => false

/-- The staging states of an arm, which a close drive takes to CLOSING (R80). -/
def ArmState.isStaging : ArmState → Bool
  | .priming | .low | .full | .slowdown => true
  | .idle | .closing | .fault => false

/-- The states in which an arm demands its pump (R89). -/
def ArmState.isDemanding : ArmState → Bool
  | .priming | .low | .full | .slowdown | .closing => true
  | .idle | .fault => false

/-- The MAIN output of a valve command (R71). -/
def Valve.main : Valve → Bool
  | .full => true
  | .closed | .low => false

/-- The TRIM output of a valve command (R71). -/
def Valve.trim : Valve → Bool
  | .full | .low => true
  | .closed => false

/-! ### Numbers of R188 -/

def HaltCause.number : HaltCause → Nat
  | .driver => 0 | .abort => 1 | .esd => 2 | .permissive => 3 | .deadman => 4 | .stopAll => 5 | .power => 6
  | .safety => 7 | .pump => 8 | .temp => 9 | .additive => 10 | .pulseFault => 11 | .reverseLimit => 12

def CompState.number : CompState → Nat
  | .pending => 0 | .starting => 1 | .lowStart => 2 | .full => 3 | .slowdown => 4 | .closing => 5 | .halted => 6
  | .done => 7

def Cause.number : Cause → Nat
  | .esd => 0 | .permissive => 1 | .deadman => 2 | .stopAll => 3 | .power => 4

/-- Load states in LOAD_STATE values; NONE is 4. -/
def LoadState.number : LoadState → Nat
  | .opened => 0 | .active => 1 | .suspended => 2 | .closing => 3

def FailKind.number : FailKind → Nat
  | .start => 0 | .lost => 1

/-- SEALED is 0 and OPEN is 1, in the order in which R141 and R174 list them. -/
def SealState.number : SealState → Nat
  | .isSealed => 0 | .isOpen => 1

def Reason.number : Reason → Nat
  | .timeNotSet => 0 | .bayBusy => 1 | .esd => 2 | .unknown => 3 | .blocked => 4 | .expired => 5 | .noLoads => 6
  | .notesFull => 7 | .noOrder => 8 | .withdrawn => 9 | .timeout => 10 | .deleted => 11

def Status.number : Status → Nat
  | .ok => 0 | .accepted => 1 | .clamped => 2 | .none => 3 | .badFrame => 4 | .unknownRequest => 5
  | .notPermitted => 6 | .badArgument => 7 | .busy => 8 | .state => 9 | .full => 10 | .notFound => 11
  | .duplicate => 12 | .inUse => 13 | .loadOpen => 14 | .isSealed => 15 | .counterFull => 16 | .timeNotSet => 17
  | .bayBusy => 18 | .qualification => 19 | .noInjector => 20 | .blocked => 21 | .suspended => 22
  | .heldForPrint => 23

def EventCode.number : EventCode → Nat
  | .orderPosted => 1 | .loadOpened => 2 | .loadState => 3 | .compartmentState => 4 | .causeRaised => 5
  | .causeCleared => 6 | .progress => 7 | .authGranted => 8 | .authDenied => 9 | .authDropped => 10 | .nvDone => 11
  | .sealChanged => 12 | .pulseFault => 13 | .reverseLimit => 14 | .tempFault => 15 | .valveLeak => 16
  | .strayFlow => 17 | .pumpFail => 18 | .injectorFault => 19 | .permissiveStale => 20 | .permissive => 21
  | .deadmanWarning => 22 | .esd => 23 | .noteReady => 24 | .noteReleased => 25 | .start => 26

def ObjectKind.number : ObjectKind → Nat
  | .none => 0 | .arm => 1 | .compartment => 2 | .injector => 3 | .pump => 4 | .noteSlot => 5 | .product => 6
  | .recipe => 7 | .reason => 8 | .permitRecord => 9 | .armRecord => 10 | .blockRecord => 11 | .pumpRecord => 12
  | .injectorRecord => 13 | .deadmanRecord => 14 | .noteConfigRecord => 15 | .meterConstant => 16
  | .factorCurve => 17 | .probeOffset => 18 | .strokeVolume => 19 | .productRecord => 20 | .recipeRecord => 21

/-- Close reasons: 0 PRESET, 1 AMEND, and each halt cause at its own number plus 2. -/
def CloseReason.number : CloseReason → Nat
  | .preset => 0 | .amend => 1 | .halt cause => cause.number + 2

def Basis.number : Basis → Nat
  | .gross => 0 | .net => 1

def PermitState.number : PermitState → Nat
  | .active => 0 | .blocked => 1

def ArmState.number : ArmState → Nat
  | .idle => 0 | .priming => 1 | .low => 2 | .full => 3 | .slowdown => 4 | .closing => 5 | .fault => 6

def Valve.number : Valve → Nat
  | .closed => 0 | .low => 1 | .full => 2

def FaultCause.number : FaultCause → Nat
  | .pulseFault => 0 | .reverseLimit => 1 | .strayFlow => 2 | .valveLeak => 3

def PumpState.number : PumpState → Nat
  | .stopped => 0 | .starting => 1 | .running => 2 | .runOn => 3 | .failed => 4

/-- IDLE 0 to DISABLED 4, in the order of the field table of section 5.1.1 (assumption log 31). -/
def InjectorState.number : InjectorState → Nat
  | .idle => 0 | .armed => 1 | .stroking => 2 | .fault => 3 | .disabled => 4

def DeadmanStage.number : DeadmanStage → Nat
  | .normal => 0 | .warning => 1 | .expired => 2

def SlotState.number : SlotState → Nat
  | .free => 0 | .reserved => 1 | .composing => 2 | .committing => 3 | .stored => 4

/-- The status of a note, in the order in which R150 lists its values: 0 COMPLETE, 1 SHORT, 2 VOID (assumption log 19). -/
def NoteStatus.number : NoteStatus → Nat
  | .complete => 0 | .short => 1 | .void => 2

def Judgement.number : Judgement → Nat
  | .pending => 0 | .within => 1 | .out => 2 | .notJudged => 3

/-- The value of a PERMISSIVE event: effective flags in bits 0 to 2, the stale mark in bit 3 (R188). -/
def Safety.permissiveValue (y : Safety) : BitVec 32 :=
  BitVec.ofNat 32 ((y.effective.ground.toNat + 2 * y.effective.overfillOk.toNat) + 4 * y.effective.vapour.toNat
    + 8 * y.stale.toNat)

/-- The value of a START event: bit 0 set for ABRUPT, bit 1 set when a load was restored (R188). -/
def startValue (mark : StartMark) (restored : Bool) : BitVec 32 :=
  BitVec.ofNat 32 ((if mark = .abrupt then 1 else 0) + 2 * restored.toNat)

/-- The ports that receive an event of a code (R173): TP, PP and SP in turn. -/
def EventCode.receivers : EventCode → Bool × Bool × Bool
  | .pulseFault | .reverseLimit | .tempFault | .valveLeak | .strayFlow | .pumpFail | .injectorFault
  | .permissiveStale => (true, true, true)
  | .loadOpened | .loadState | .compartmentState | .causeRaised | .causeCleared | .progress => (true, true, false)
  | .authGranted | .authDenied | .authDropped => (true, true, false)
  | .orderPosted | .nvDone | .sealChanged => (true, false, false)
  | .permissive | .deadmanWarning | .esd => (true, true, true)
  | .noteReady | .noteReleased => (true, true, false)
  | .start => (true, true, true)

end Sys2Proof.Machine
end

