-- ==== Sys2Proof/Machine/Ops.lean ====
section
/-! DEFINITION. The named operations that the meanings share: posting events, the write queue and its refreshes,
image points and checkpoints, compartment changes, close drives, injector releases, arm faults, pump demand, and the
adding and removing of suspension causes. Each is a function from state to state that a rule describes. -/

namespace Sys2Proof.Machine

/-- The arms, pumps, meters and probes by number. -/
def fours : List (Fin 4) := [0, 1, 2, 3]

/-- The injectors and note slots by number. -/
def eights : List (Fin 8) := [0, 1, 2, 3, 4, 5, 6, 7]

/-- A number below 4 as an arm, pump, meter or probe. -/
def four? (n : Nat) : Option (Fin 4) := if h : n < 4 then some ⟨n, h⟩ else none

/-- A number below 8 as an injector. -/
def eight? (n : Nat) : Option (Fin 8) := if h : n < 8 then some ⟨n, h⟩ else none

/-- A number below 16 as a product code. -/
def sixteen? (n : Nat) : Option (Fin 16) := if h : n < 16 then some ⟨n, h⟩ else none

/-- A recipe number 1 to 16 as a place of the recipe table (section 5.2.1). -/
def recipeIndex? (n : Nat) : Option (Fin 16) := if h : 0 < n ∧ n ≤ 16 then some ⟨n - 1, by omega⟩ else none

/-- A natural number as an event value of 32 bits (R174). -/
def w32 (n : Nat) : BitVec 32 := BitVec.ofNat 32 n

/-! ### Ports and events -/

def Ports.get (ps : Ports) : Port → PortState
  | .tp => ps.tp
  | .pp => ps.pp
  | .sp => ps.sp

def Ports.set (ps : Ports) (x : PortState) : Port → Ports
  | .tp => { ps with tp := x }
  | .pp => { ps with pp := x }
  | .sp => { ps with sp := x }

def State.modifyPort (p : Port) (f : PortState → PortState) (s : State) : State :=
  { s with ports := s.ports.set (f (s.ports.get p)) p }

/-- An event offered to a port's queue joins its tail, or is discarded from a full queue, setting the mark (R175). -/
def PortState.offer (e : Event) (p : PortState) : PortState :=
  if p.events.length < 16 then { p with events := p.events ++ [e] } else { p with overflow := true }

/-- The ATTN output: asserted while the queue holds a record (R177). -/
def PortState.attn (p : PortState) : Bool := !p.events.isEmpty

/-- An event is offered to the queue of each port that receives its class (R173). -/
def Ports.offer (e : Event) (ps : Ports) : Ports :=
  { tp := if e.code.receivers.1 then ps.tp.offer e else ps.tp
    pp := if e.code.receivers.2.1 then ps.pp.offer e else ps.pp
    sp := if e.code.receivers.2.2 then ps.sp.offer e else ps.sp }

/-- A block posts an event, stamped with the second of day of the bay clock (R173). -/
def State.post (code : EventCode) (kind : ObjectKind) (number : Nat) (value : BitVec 32) (s : State) : State :=
  { s with ports := s.ports.offer { code, kind, number, value, second := s.clock.second } }

/-- Timers run from START on, in POWER_DOWN those that no rule stops; none runs before START, nor while RESET is active (R185,
R189). -/
def State.timersRun (s : State) : Bool := s.phase == .running || s.phase == .powerDown

/-! ### The write queue (R181) -/

/-- The records whose write has not started: all but the head while a write is in progress. -/
def State.waiting (s : State) : List Record := if s.writing then s.queue.tail else s.queue

/-- Refresh waiting records in place, leaving a record whose write has started. -/
def State.mapWaiting (f : List Record → List Record) (s : State) : State :=
  if s.writing then { s with queue := s.queue.take 1 ++ f s.queue.tail } else { s with queue := f s.queue }

/-- The queue can take a record: it holds fewer than eight (R181), and not in POWER_DOWN (R183). -/
def State.hasPlace (s : State) : Bool := s.queue.length < 8 && s.phase != .powerDown

/-- A record joins the queue at its tail. -/
def State.enqueue (r : Record) (s : State) : State := { s with queue := s.queue ++ [r] }

/-- A write starts when a record stands at the head and none is in progress (R181); taken at the end of every command
(assumption log 7). -/
def State.startWrite (s : State) : State := { s with writing := !s.queue.isEmpty }

def Record.isImage : Record → Bool
  | .image _ => true
  | _ => false

def Record.isCheckpoint : Record → Bool
  | .checkpoint _ => true
  | _ => false

/-- A waiting image takes the record as it now stands (R11). -/
def Record.refreshImage (l : LoadRecord) : Record → Record
  | .image _ => .image l
  | r => r

/-- A waiting checkpoint takes the values just taken (R136). -/
def Record.refreshCheckpoint (t : Totals) : Record → Record
  | .checkpoint _ => .checkpoint t
  | r => r

/-- Queue the image of the record as it stands, or set image owed (R11). -/
def State.queueImage (l : LoadRecord) (s : State) : State :=
  if s.hasPlace then { s.enqueue (.image l) with imageOwed := false } else { s with imageOwed := true }

/-- An image of the load waits: in the queue unwritten, or among the start-up records that await a place (R186). -/
def State.imageWaits (s : State) : Bool := s.waiting.any Record.isImage || s.backlog.any Record.isImage

/-- A waiting image of the load takes the record as it now stands. -/
def State.refreshImages (l : LoadRecord) (s : State) : State :=
  { s.mapWaiting (List.map (Record.refreshImage l)) with backlog := s.backlog.map (Record.refreshImage l) }

/-- An image point of the load record (R11): a waiting image is refreshed; from the close hand-off on nothing joins;
otherwise an image joins or is owed. In POWER_DOWN it queues nothing (R183). -/
def State.imagePoint (s : State) : State :=
  match s.load with
  | none => s
  | some l =>
    if s.phase = .powerDown then s
    else if s.imageWaits then s.refreshImages l
    else if l.closeTime.isSome then s
    else s.queueImage l

/-- The image of the close hand-off (R19), which joins when none waits. -/
def State.imageHandOff (s : State) : State :=
  match s.load with
  | none => s
  | some l =>
    if s.phase = .powerDown then s
    else if s.imageWaits then s.refreshImages l
    else s.queueImage l

/-- The live values of every totalizer (R136). -/
def State.totals (s : State) : Totals :=
  { meters := #v[⟨s.meters[0].gross, s.meters[0].net⟩, ⟨s.meters[1].gross, s.meters[1].net⟩,
      ⟨s.meters[2].gross, s.meters[2].net⟩, ⟨s.meters[3].gross, s.meters[3].net⟩]
    injectors := #v[s.injectors[0].total, s.injectors[1].total, s.injectors[2].total, s.injectors[3].total,
      s.injectors[4].total, s.injectors[5].total, s.injectors[6].total, s.injectors[7].total] }

/-- The mark checkpoint waiting: a checkpoint stands in the queue unwritten (section 7.2.1). -/
def State.checkpointWaiting (s : State) : Bool := s.queue.any Record.isCheckpoint

/-- A checkpoint is called for (R136). In POWER_DOWN it queues nothing (R183). -/
def State.callCheckpoint (s : State) : State :=
  if s.phase = .powerDown then s
  else if s.waiting.any Record.isCheckpoint then s.mapWaiting (List.map (Record.refreshCheckpoint s.totals))
  else if s.checkpointOwed then s
  else if s.hasPlace then s.enqueue (.checkpoint s.totals)
  else { s with checkpointOwed := true }

/-- An arm record of arm `a` that ARM-CONFIG queued. -/
def Record.isConfigOf (a : Fin 4) : Record → Bool
  | .arm b _ learned => b == a && !learned
  | _ => false

/-- The waiting records with the learned record of arm `a` refreshed, where one stands with no ARM-CONFIG record of the
arm behind it (R70). -/
def refreshLearned (a : Fin 4) (c : ArmConfig) : List Record → Option (List Record)
  | [] => none
  | .arm b d true :: rest =>
    if b = a ∧ rest.any (Record.isConfigOf a) = false then some (.arm b c true :: rest)
    else (refreshLearned a c rest).map (.arm b d true :: ·)
  | r :: rest => (refreshLearned a c rest).map (r :: ·)

def State.modifyArm (a : Fin 4) (f : Arm → Arm) (s : State) : State :=
  { s with arms := s.arms.set a (f s.arms[a]) }

/-- A learning change queues, refreshes or owes the arm record (R70). -/
def State.queueLearned (a : Fin 4) (s : State) : State :=
  if s.phase = .powerDown then s
  else match refreshLearned a s.arms[a].config s.waiting with
    | some w => s.mapWaiting fun _ => w
    | none =>
      if s.hasPlace then (s.enqueue (.arm a s.arms[a].config true)).modifyArm a fun x => { x with antOwed := false }
      else s.modifyArm a fun x => { x with antOwed := true }

/-! ### The load record and its compartments -/

def LoadRecord.comp? (n : Nat) (l : LoadRecord) : Option CompRecord := l.comps.find? fun c => c.line.compartment == n

/-- The compartment record of a compartment number of the open load. -/
def State.comp? (n : Nat) (s : State) : Option CompRecord := s.load.bind (LoadRecord.comp? n)

def LoadRecord.modifyComp (n : Nat) (f : CompRecord → CompRecord) (l : LoadRecord) : LoadRecord :=
  { l with comps := l.comps.map fun c => if c.line.compartment = n then f c else c }

def State.modifyLoad (f : LoadRecord → LoadRecord) (s : State) : State := { s with load := s.load.map f }

def State.modifyComp (n : Nat) (f : CompRecord → CompRecord) (s : State) : State :=
  s.modifyLoad (LoadRecord.modifyComp n f)

/-- The delivered figure of a compartment: gross or net by the basis of its line (R9, R75). -/
def CompRecord.delivered (c : CompRecord) : Nat :=
  match c.line.basis with
  | .gross => c.gross
  | .net => c.net

/-- The load state by the table of R12. -/
def LoadRecord.evaluated (l : LoadRecord) : LoadState :=
  if l.state = .closing then .closing
  else if !l.causes.isEmpty then .suspended
  else if l.comps.any fun c => c.state.isActive then .active
  else .opened

/-- Re-evaluate the load state; a change posts LOAD_STATE (R12). -/
def State.evalLoad (s : State) : State :=
  match s.load with
  | none => s
  | some l =>
    if l.evaluated = l.state then s
    else ({ s with load := some { l with state := l.evaluated } }).post .loadState .none 0 (w32 l.evaluated.number)

/-- Every compartment is DONE and the load has not entered CLOSING; it enters CLOSING in this same event (R17). -/
def LoadRecord.finishing (l : LoadRecord) : Bool := l.state != .closing && l.comps.all fun c => c.state == .done

/-- The load state once a compartment has changed (R12). Where the last compartment has reached DONE, the load enters
CLOSING in this event (R17), so CLOSING is the state that the event yields; `State.enterClosing` posts it, and no state
between is taken or posted (assumption log 15). -/
def State.evalComps (s : State) : State := if s.load.any LoadRecord.finishing then s else s.evalLoad

/-- What each change of a compartment's state brings: COMPARTMENT_STATE, the load state, the image point (R13, R12,
R11). -/
def State.compChanged (n : Nat) (s : State) : State :=
  match s.comp? n with
  | none => s
  | some c => (s.post .compartmentState .compartment n (w32 c.state.number)).evalComps.imagePoint

/-- A compartment of the load is flowing, so the deadman timer counts (R127). -/
def State.flowing (s : State) : Bool :=
  match s.load with
  | none => false
  | some l => l.comps.any fun c => c.state.isFlowing

/-- The current readings of the meter of an arm (R13). -/
def State.readings (a : Fin 4) (s : State) : Readings := { gross := s.meters[a].gross, net := s.meters[a].net }

/-! ### Injectors -/

def State.modifyInjector (j : Fin 8) (f : Injector → Injector) (s : State) : State :=
  { s with injectors := s.injectors.set j (f s.injectors[j]) }

def CompRecord.modifyResult (p : Nat) (f : ComponentResult → ComponentResult) (c : CompRecord) : CompRecord :=
  { c with additives := c.additives.map fun r => if r.position = p then f r else r }

/-- Change the component result that a binding names. -/
def State.modifyResult (b : Binding) (f : ComponentResult → ComponentResult) (s : State) : State :=
  s.modifyComp b.compartment (CompRecord.modifyResult b.position f)

/-- Change the component result that an injector is bound to, if any. -/
def State.modifyBound (j : Fin 8) (f : ComponentResult → ComponentResult) (s : State) : State :=
  match s.injectors[j].binding with
  | none => s
  | some b => s.modifyResult b f

/-- Whether an injector is bound to a compartment. -/
def Injector.boundTo (n : Nat) (x : Injector) : Bool :=
  match x.binding with
  | none => false
  | some b => b.compartment == n

/-- The owed count is added to the component's skipped and set to 0 (R109, R111, R112, R114). -/
def State.discardOwed (j : Fin 8) (s : State) : State :=
  (s.modifyBound j fun r => { r with skipped := r.skipped + s.injectors[j].owed }).modifyInjector j
    fun x => { x with owed := 0 }

/-- A stroke in flight is ended by force: output off, timer cancelled, counted missed without raising the
consecutive-missed count, owed strokes skipped, the injector ARMED (R112, R114). -/
def State.cutStroke (j : Fin 8) (s : State) : State :=
  if s.injectors[j].state = .stroking then
    ((s.discardOwed j).modifyBound j fun r => { r with missed := r.missed + 1 }).modifyInjector j
      fun x => { x with output := false, timer := none, state := .armed }
  else s

/-- The arm of a compartment leaves the flowing states: owed strokes become skipped, a stroke in flight runs on (R111). -/
def State.flowStops (n : Nat) (s : State) : State :=
  eights.foldl (fun s j =>
    if s.injectors[j].boundTo n && s.injectors[j].state == .stroking then s.discardOwed j else s) s

/-- A DONE compartment releases an injector bound to it (R112). -/
def State.releaseInjector (j : Fin 8) (s : State) : State :=
  ((s.cutStroke j).discardOwed j).modifyInjector j fun x =>
    { x with
      consecutive := if x.state = .fault then 0 else x.consecutive
      state := .idle, binding := none }

/-- A DONE compartment releases every injector bound to it (R112). -/
def State.releaseInjectors (n : Nat) (s : State) : State :=
  eights.foldl (fun s j => if s.injectors[j].boundTo n then s.releaseInjector j else s) s

/-- The stroke point P_k of stroke volume `v` at ratio `r` (R102), in mL of compartment gross. -/
def strokePoint (v r k : Nat) : Nat := (2 * k + 1) * v * 1000 / (2 * r)

/-- The dosing judgement of one component result on the final gross (R113). -/
def ComponentResult.judged (gross : Nat) (r : ComponentResult) : ComponentResult :=
  let expected := gross * r.component.ratio / 1000
  match r.injector, r.stroke with
  | some _, some v =>
    if 2 * strokePoint v r.component.ratio 0 ≤ gross then
      let diff : Int := (r.delivered : Int) - expected
      let out : Bool := r.component.tolerance * expected < diff.natAbs * 100
      { r with
        expected := some expected
        deviation := some ((diff * 100).tdiv expected)
        judgement := if out then .out else .within
        markOut := r.markOut || out }
    else { r with expected := some expected, deviation := none, judgement := .notJudged }
  | _, _ => { r with expected := some expected, deviation := none, judgement := .notJudged }

/-- Every component result of a compartment is judged (R113). -/
def CompRecord.judged (c : CompRecord) : CompRecord := { c with additives := c.additives.map (·.judged c.gross) }

/-- A compartment reaches DONE, its record changed by `f` in the same event: injectors released (R112), results judged
(R113), the change posted and imaged (R13), and a checkpoint called for behind the image (R137). -/
def State.compDone (n : Nat) (f : CompRecord → CompRecord) (s : State) : State :=
  ((((s.modifyComp n fun c => { f c with state := .done }).releaseInjectors n).modifyComp n
    CompRecord.judged).compChanged n).callCheckpoint

/-- A HALTED compartment of a load that is CLOSING or finishing becomes DONE with SHORT (R17, R18). -/
def CompRecord.short (c : CompRecord) : CompRecord := { c with flags := { c.flags with short := true } }

/-- A PENDING compartment becomes DONE with NOT_LOADED (R17, R18). -/
def CompRecord.notLoaded (c : CompRecord) : CompRecord := { c with flags := { c.flags with notLoaded := true } }

/-! ### Drives and faults at the arm -/

/-- What a close drive does at the arm (R80). -/
def Arm.driven (x : Arm) : Arm :=
  if x.state.isStaging then
    { x with
      state := .closing, valve := .closed, settleTimer := none, hold := false
      closeTimer := some (x.config.closeTimeout * 1000), zeroRun := 0, learnable := false }
  else x

/-- Drive a compartment to close (R14): from a drivable state it goes to CLOSING with the close reason, its arm acts as
R80 states and its injectors as R111 states; from any other state it is left unchanged. -/
def State.driveClose (n : Nat) (reason : CloseReason) (s : State) : State :=
  match s.comp? n with
  | none => s
  | some c =>
    if c.state.isDrivable then
      (((s.modifyComp n fun c => { c with state := .closing, closeReason := some reason }).modifyArm c.line.arm
        Arm.driven).flowStops n).compChanged n
    else s

/-- The compartment numbers of the open load, in index order. -/
def State.compNumbers (s : State) : List Nat :=
  match s.load with
  | none => []
  | some l => l.comps.map fun c => c.line.compartment

/-- Drive every compartment of the load that the drive can reach (R18, R21). -/
def State.driveAll (reason : CloseReason) (s : State) : State :=
  s.compNumbers.foldl (fun s n => s.driveClose n reason) s

/-! ### Pumps -/

def State.modifyPump (p : Fin 4) (f : Pump → Pump) (s : State) : State :=
  { s with pumps := s.pumps.set p (f s.pumps[p]) }

/-- The pump of the product of the compartment that an arm serves (R2, R73). -/
def State.armPump (a : Fin 4) (s : State) : Option (Fin 4) :=
  match s.arms[a].served with
  | none => none
  | some n => (s.comp? n).bind fun c => s.products[c.line.product].pump

/-- The settle timer expires in PRIMING: valve and arm to LOW, compartment to LOW_START (R74). -/
def State.settleExpired (a : Fin 4) (s : State) : State :=
  if s.arms[a].state = .priming then
    let s' := s.modifyArm a fun x => { x with state := .low, valve := .low, settleTimer := none }
    match s.arms[a].served with
    | none => s'
    | some n => (s'.modifyComp n fun c => { c with state := .lowStart }).compChanged n
  else s

/-- An arm starts its settle timer; a settle time of 0 expires in the same event (R73). -/
def State.startSettle (a : Fin 4) (seconds : Nat) (s : State) : State :=
  if seconds = 0 then s.settleExpired a
  else s.modifyArm a fun x => { x with settleTimer := some (seconds * 1000) }

/-- Every arm waiting in PRIMING on a pump starts its settle timer (R73). -/
def State.startSettles (p : Fin 4) (s : State) : State :=
  fours.foldl (fun s a =>
    if s.arms[a].state = .priming ∧ s.armPump a = some p ∧ s.arms[a].settleTimer = none then
      s.startSettle a s.pumps[p].config.settle
    else s) s

/-- The run output goes off and the pump is STOPPED with its timer cancelled (R91, R94). -/
def Pump.stop (x : Pump) : Pump := { x with state := .stopped, run := false, timer := none }

/-- The run-on begins; a run-on time of 0 stops the pump in the same event (R91). -/
def Pump.startRunOn (x : Pump) : Pump :=
  if x.config.runOn = 0 then x.stop else { x with state := .runOn, timer := some (x.config.runOn * 1000) }

/-- A pump goes to RUNNING: timers of its arms start, and with no demand it goes at once to RUN_ON (R90). -/
def State.pumpRunning (p : Fin 4) (s : State) : State :=
  ((s.modifyPump p fun x => { x with state := .running, timer := none }).startSettles p).modifyPump p fun x =>
    if x.demand = 0 then x.startRunOn else x

/-- A pump is started through STARTING; a feedback already on takes it to RUNNING (R90). -/
def State.startPump (p : Fin 4) (s : State) : State :=
  let s' := s.modifyPump p fun x =>
    { x with state := .starting, run := true, timer := some (x.config.startTimeout * 1000) }
  if s.pumps[p].feedback then s'.pumpRunning p else s'

/-- The demand count of a pump (R89). -/
def State.demandCount (p : Fin 4) (s : State) : Nat :=
  (fours.filter fun a => s.arms[a].state.isDemanding && s.armPump a == some p).length

/-- A demand rising from 0 (R90, R94). -/
def State.demandRises (p : Fin 4) (s : State) : State :=
  match s.pumps[p].state with
  | .stopped => if s.safety.esdLatch then s else s.startPump p
  | .runOn => s.pumpRunning p
  | .starting | .running | .failed => s

/-- A demand falling to 0 (R90, R91). -/
def State.demandFalls (p : Fin 4) (s : State) : State :=
  match s.pumps[p].state with
  | .running => s.modifyPump p Pump.startRunOn
  | .stopped | .starting | .runOn | .failed => s

/-- The demand of one pump is counted afresh and its rise or fall acted on (R89). -/
def State.recountPump (p : Fin 4) (s : State) : State :=
  let s' := s.modifyPump p fun x => { x with demand := s.demandCount p }
  if s.pumps[p].demand = 0 ∧ 0 < s.demandCount p then s'.demandRises p
  else if 0 < s.pumps[p].demand ∧ s.demandCount p = 0 then s'.demandFalls p
  else s'

/-- The demand of every pump is counted afresh (R89). -/
def State.recount (s : State) : State := fours.foldl (fun s p => s.recountPump p) s

/-- A pump fails (R92): output off, timer cancelled, alarm posted, and every staging arm of the pump driven to close with
halt cause PUMP. -/
def State.failPump (p : Fin 4) (kind : FailKind) (s : State) : State :=
  let s' := (s.modifyPump p fun x =>
    { x with state := .failed, run := false, timer := none, failKind := some kind }).post .pumpFail .pump p.val
      (w32 kind.number)
  fours.foldl (fun s a =>
    if s.arms[a].state.isStaging && s.armPump a == some p then
      match s.arms[a].served with
      | none => s
      | some n => s.driveClose n (.halt .pump)
    else s) s'

/-! ### Arm faults (R84) -/

/-- The halt cause of a meter fault (R14). The other two faults drive no compartment: STRAY_FLOW finds the arm IDLE and
VALVE_LEAK finds its compartment DONE. -/
def FaultCause.haltCause : FaultCause → HaltCause
  | .reverseLimit => .reverseLimit
  | .pulseFault | .strayFlow | .valveLeak => .pulseFault

/-- What entering FAULT does at the arm (R84). -/
def Arm.faulted (cause : FaultCause) (x : Arm) : Arm :=
  match x.state with
  | .fault => x
  | .idle => { x with state := .fault, faultCause := some cause }
  | .closing => { x with state := .fault, faultCause := some cause, faultDuringClose := true }
  | .priming | .low | .full | .slowdown =>
    { x with
      state := .fault, faultCause := some cause, faultDuringClose := true, valve := .closed, settleTimer := none
      hold := false, learnable := false, closeTimer := some (x.config.closeTimeout * 1000), zeroRun := 0 }

/-- A fault is handed to an arm controller (R84). In POWER_DOWN it takes no action (R72). -/
def State.armFault (a : Fin 4) (cause : FaultCause) (s : State) : State :=
  if s.phase = .powerDown then s
  else if s.arms[a].state = .fault then s
  else
    let s' := s.modifyArm a (Arm.faulted cause)
    (match s.arms[a].served with
     | none => s'
     | some n => s'.driveClose n (.halt cause.haltCause)).recount

/-! ### Suspension causes -/

/-- Post a cause event, unless the change is one that start-up makes (R24, R132). -/
def State.postCause (code : EventCode) (c : Cause) (s : State) : State :=
  if s.phase = .startUp then s else s.post code .none 0 (w32 c.number)

/-- A cause is put into the set of the load (R21). -/
def State.addCause (c : Cause) (s : State) : State :=
  match s.load with
  | none => s
  | some l =>
    if l.causes.has c then s
    else
      ((((s.driveAll (.halt c.haltCause)).modifyLoad fun l => { l with causes := l.causes.put true c }).evalLoad).imagePoint).postCause
        .causeRaised c

/-- A cause is taken out of the set of the load (R22). -/
def State.removeCause (c : Cause) (s : State) : State :=
  match s.load with
  | none => s
  | some l =>
    if l.causes.has c then
      (((s.modifyLoad fun l => { l with causes := l.causes.put false c }).postCause .causeCleared c).imagePoint).evalLoad
    else s

/-- The cause PERMISSIVE stands (R119). -/
def State.permissiveStands (s : State) : Bool :=
  match s.load with
  | none => false
  | some l => l.state != .closing && !s.safety.effective.isFull

/-- The cause PERMISSIVE is judged (R119). -/
def State.judgePermissive (s : State) : State :=
  if s.permissiveStands then s.addCause .permissive else s.removeCause .permissive

/-! ### Answers -/

/-- What an owner replies to a request. -/
structure Reply where
  status : Status
  payload : Payload
  deriving DecidableEq, Repr

/-- A refusal leaves the state as it was (section 1.5.2). -/
def refuse (status : Status) (s : State) : State × Reply := (s, { status, payload := .none })

/-- A refusal that carries a payload. -/
def refuseWith (status : Status) (payload : Payload) (s : State) : State × Reply := (s, { status, payload })

/-- A request acted on. -/
def reply (status : Status) (payload : Payload) (s : State) : State × Reply := (s, { status, payload })

end Sys2Proof.Machine
end

