-- ==== Sys2Proof/Machine/Closing.lean ====
section
/-! DEFINITION. How a load ends: entry into CLOSING (R17, R18), the close hand-off (R19), the permit's charge (R40), the
composition of the note (R149 to R154), the commit record (R155) and the release of the record (R20). -/

namespace Sys2Proof.Machine

/-! ### Figures of the note -/

/-- A quotient rounded half away from zero (section 1.5.2). -/
def roundHalfAway (n : Int) (d : Nat) : Int := n.sign * ((2 * n.natAbs + d) / (2 * d) : Nat)

/-- The average temperature of a compartment, absent when no gross weighted it (R66). -/
def CompRecord.average (c : CompRecord) : Option Int :=
  if c.sumG = 0 then none else some (roundHalfAway c.sumGT c.sumG)

/-- The total gross of a load (R40, R154). -/
def LoadRecord.totalGross (l : LoadRecord) : Nat := (l.comps.map CompRecord.gross).sum

/-- The total net of a load (R154). -/
def LoadRecord.totalNet (l : LoadRecord) : Nat := (l.comps.map CompRecord.net).sum

/-- The status of a note by the tests of R151. -/
def LoadRecord.noteStatus (l : LoadRecord) : NoteStatus :=
  if l.totalGross = 0 then .void
  else if l.comps.all fun c => c.state == .done && !c.flags.notLoaded && !c.flags.short then .complete
  else .short

/-- The compartment line of the order line at an index (R152). -/
def CompRecord.noteLine (products : Vector ProductEntry 16) (index : Nat) (c : CompRecord) : NoteComp :=
  { index, compartment := c.line.compartment, arm := c.line.arm, shortName := products[c.line.product].shortName,
    preset := c.line.preset, basis := c.line.basis, gross := c.gross, net := c.net, average := c.average,
    maxFlow := c.maxFlow, opening := c.opening, closing := c.closing, flags := c.flags,
    additiveOut := c.additives.any ComponentResult.markOut,
    additiveSkipped := c.additives.any ComponentResult.markSkipped, haltCause := c.haltCause }

/-- The compartment lines, numbered from `index`. -/
def noteLines (products : Vector ProductEntry 16) : Nat → List CompRecord → List NoteComp
  | _, [] => []
  | index, c :: rest => c.noteLine products index :: noteLines products (index + 1) rest

/-- The additive lines, by index and then by position (R153). -/
def LoadRecord.noteAdditives (l : LoadRecord) : List NoteAdditive :=
  l.comps.flatMap fun c => c.additives.map fun r => { compartment := c.line.compartment, result := r }

/-- The number of lines of a load's note: 1 + c + a + 1 (R149). -/
def LoadRecord.lineCount (l : LoadRecord) : Nat := 1 + l.comps.length + l.noteAdditives.length + 1

/-- The close time that the header prints, absent when recorded as NOT_SET (R150). -/
def CloseTime.stamp? : CloseTime → Option Stamp
  | .notSet => none
  | .taken t => some t

/-- The note of a load (R149). -/
def LoadRecord.note (products : Vector ProductEntry 16) (l : LoadRecord) : Note :=
  { header :=
      { status := l.noteStatus, order := l.number, card := l.card, carrier := l.carrier, openTime := l.openTime,
        closeTime := l.closeTime.bind CloseTime.stamp?, cec := l.cecAtOpen, totalsUncertain := l.totalsUncertain,
        lines := l.lineCount }
    comps := noteLines products 1 l.comps
    additives := l.noteAdditives
    trailer := { gross := l.totalGross, net := l.totalNet, lines := l.lineCount } }

/-- The line count of a note. -/
def Note.lineCount (n : Note) : Nat := 1 + n.comps.length + n.additives.length + 1

/-- The line of a note at a number (R149): header, compartment lines, additive lines, trailer. -/
def Note.line? (serial : Nat) (k : Nat) (n : Note) : Option NoteLine :=
  if k = 0 then some (.header serial n.header)
  else if k ≤ n.comps.length then n.comps[k - 1]?.map .comp
  else if k ≤ n.comps.length + n.additives.length then n.additives[k - 1 - n.comps.length]?.map .additive
  else if k = n.comps.length + n.additives.length + 1 then some (.trailer n.trailer)
  else none

def State.modifySlot (i : Fin 8) (f : Slot → Slot) (s : State) : State :=
  { s with slots := s.slots.set i (f s.slots[i]) }

/-! ### The permit's charge (R40) -/

/-- The permit entry of a card. -/
def State.permit? (card : Nat) (s : State) : Option PermitEntry := s.permits.find? fun e => e.content.card == card

/-- The table with a card's entry replaced, or removed for `none`. -/
def withPermit (card : Nat) (new : Option PermitEntry) (permits : List PermitEntry) : List PermitEntry :=
  match new with
  | some e => permits.map fun x => if x.content.card = card then e else x
  | none => permits.filter fun x => x.content.card != card

/-- The entry without its charge: the pending action applied and in use cleared (R40, R41). -/
def PermitEntry.settled (e : PermitEntry) : Option PermitEntry :=
  match e.action with
  | .none => some { content := e.content, inUse := false, action := .none }
  | .replace c => some { content := c, inUse := false, action := .none }
  | .delete => none

/-- Loads remaining after a load of a total gross (R40). -/
def chargedLoads (totalGross loads : Nat) : Nat := if 0 < totalGross ∧ loads ≠ 255 then loads - 1 else loads

/-- The entry charged, its pending action applied, in use cleared (R40). -/
def PermitEntry.charged (totalGross : Nat) (e : PermitEntry) : Option PermitEntry :=
  PermitEntry.settled { e with content := { e.content with loads := chargedLoads totalGross e.content.loads } }

/-- The charged permit record joins behind the close image, or is held until a place is free (R40). -/
def State.queueCharge (r : Record) (s : State) : State :=
  if s.imageOwed || !s.hasPlace then { s with chargeOwed := some r } else s.enqueue r

/-- The permit of a closing load is charged, if its entry is still in use (R40, R41). -/
def State.chargePermit (l : LoadRecord) (s : State) : State :=
  match s.permit? l.card with
  | none => s
  | some e =>
    if e.inUse then
      ({ s with permits := withPermit l.card (e.charged l.totalGross) s.permits }).queueCharge
        (.permit l.card (e.charged l.totalGross) false)
    else s

/-! ### Commit (R155) -/

/-- The commit record that the note unit may queue now: the slot COMPOSING, the close image and the charged permit
record entered (R155). -/
def State.commitRecord? (s : State) : Option (Fin 8 × Record) :=
  match s.load with
  | none => none
  | some l =>
    match s.slots[l.slot].state, s.slots[l.slot].note with
    | .composing, some n =>
      if s.imageOwed || s.chargeOwed.isSome then none else some (l.slot, .commit l.slot n (s.serial + 1))
    | _, _ => none

/-- The commit record joins the queue and the slot goes to COMMITTING. -/
def State.queueCommit (i : Fin 8) (r : Record) (s : State) : State :=
  (s.enqueue r).modifySlot i fun x => { x with state := .committing }

/-- The note unit queues the commit record at the first moment at which R155 allows it. -/
def State.tryCommit (s : State) : State :=
  match s.commitRecord? with
  | none => s
  | some (i, r) => if s.hasPlace then s.queueCommit i r else s

/-! ### The close hand-off -/

/-- The close time is taken from the bay clock, or recorded as NOT_SET; one already held is kept (R19, R186). -/
def State.closeTimeNow (s : State) : CloseTime :=
  if s.clock.isSet then .taken { day := s.clock.day, second := s.clock.second } else .notSet

/-- The close hand-off (R19): close time, image, charge, composition, commit. -/
def State.handOff (s : State) : State :=
  match s.load with
  | none => s
  | some l =>
    let l' := { l with closeTime := some (l.closeTime.getD s.closeTimeNow) }
    ((({ s with load := some l' }).imageHandOff.chargePermit l').modifySlot l'.slot fun x =>
      { x with state := .composing, note := some (l'.note s.products) }).tryCommit

/-- The deadman at the entry into CLOSING (R131): stage NORMAL, horn off, timer D, the pointer left. -/
def Safety.endLoad (y : Safety) : Safety := { y with stage := .normal, horn := false, timer := y.period * 1000 }

/-- The deadman at the opening of a load (R131). -/
def Safety.beginLoad (y : Safety) : Safety := { y.endLoad with armed := false }

/-- The load enters CLOSING (R17, R18): LOAD_STATE and the image point, the PERMISSIVE cause removed (R119), the deadman
reset (R131). -/
def State.enterClosing (s : State) : State :=
  let s1 := ((s.modifyLoad fun l => { l with state := .closing }).post .loadState .none 0
    (w32 LoadState.closing.number)).imagePoint.removeCause .permissive
  { s1 with safety := s1.safety.endLoad }

/-- When every compartment is DONE the load enters CLOSING, if it has not, and the close hand-off is taken, if it has not
been (R17, R18, R19). -/
def State.closeIfDone (s : State) : State :=
  match s.load with
  | none => s
  | some l =>
    if l.comps.all fun c => c.state == .done then
      let s1 := if l.state = .closing then s else s.enterClosing
      if l.closeTime.isSome then s1 else s1.handOff
    else s

/-- A compartment reaches HALTED with its cause (R14), its record changed by `f`: posted, imaged, a checkpoint called for
(R137); in a load that is CLOSING it goes on at once to DONE with SHORT (R18). -/
def State.compHalted (n : Nat) (cause : HaltCause) (f : CompRecord → CompRecord) (s : State) : State :=
  let s1 := ((s.modifyComp n fun c => { f c with state := .halted, haltCause := some cause }).compChanged n).callCheckpoint
  match s1.load with
  | none => s1
  | some l => if l.state = .closing then s1.compDone n CompRecord.short else s1

/-- The load record is released (R20). -/
def State.releaseLoad (s : State) : State :=
  ({ s with load := none, imageOwed := false }).post .loadState .none 0 (w32 4)

/-- Every PENDING compartment goes to DONE with NOT_LOADED and every HALTED one to DONE with SHORT (R17, R18). -/
def State.finishIdle (s : State) : State :=
  s.compNumbers.foldl (fun s n =>
    match s.comp? n with
    | none => s
    | some c =>
      match c.state with
      | .pending => s.compDone n CompRecord.notLoaded
      | .halted => s.compDone n CompRecord.short
      | .starting | .lowStart | .full | .slowdown | .closing | .done => s) s

end Sys2Proof.Machine
end

