-- ==== Sys2Proof/Machine/Operands.lean ====
section
/-! DEFINITION. The forms that operands take on the wire: the request codes (R188), the CRC and the frame (R166), the
judgement of a window's bytes (R167), the printed payload layouts of section 11.5 in both directions, the event record
(section 11.4) and the note lines (section 11.6). -/

namespace Sys2Proof.Machine

/-! ### Request codes (R188) -/

/-- The number of a request code. -/
def reqNumber : ReqCode → Nat
  | .nop => 0x00 | .statusRead => 0x01 | .totalsRead => 0x02 | .eventRead => 0x03
  | .productPut => 0x10 | .productRead => 0x11 | .orderBegin => 0x12 | .orderLine => 0x13 | .orderCancel => 0x14 | .orderAmend => 0x15
  | .compartmentStart => 0x20 | .compartmentStop => 0x21 | .loadFinish => 0x22 | .loadResume => 0x23 | .loadAbort => 0x24
  | .timeSet => 0x30 | .permitPut => 0x31 | .permitDelete => 0x32 | .permitBlock => 0x33 | .permitUnblock => 0x34 | .permitRead => 0x35 | .careMaskSet => 0x36 | .cardPresent => 0x37 | .cardWithdraw => 0x38 | .orderList => 0x39 | .orderSelect => 0x3A
  | .armConfig => 0x40 | .armClear => 0x41 | .armBlock => 0x42 | .armUnblock => 0x43 | .pumpConfig => 0x44 | .pumpReset => 0x45
  | .injectorAssign => 0x50 | .injectorReset => 0x51 | .recipePut => 0x52 | .recipeRead => 0x53
  | .deadmanConfig => 0x60 | .deadman => 0x61 | .permissiveReport => 0x62 | .stopAll => 0x63 | .resume => 0x64 | .esdReset => 0x65
  | .meterErrors => 0x70 | .meterClearDebt => 0x71 | .calWrite => 0x72 | .calRead => 0x73
  | .noteConfig => 0x80 | .noteRelease => 0x81 | .notePrinted => 0x82 | .noteOpen => 0x83 | .noteRead => 0x84

/-- Every request code, in code order. -/
def allReqCodes : List ReqCode :=
  [.nop, .statusRead, .totalsRead, .eventRead,
  .productPut, .productRead, .orderBegin, .orderLine, .orderCancel, .orderAmend,
  .compartmentStart, .compartmentStop, .loadFinish, .loadResume, .loadAbort,
  .timeSet, .permitPut, .permitDelete, .permitBlock, .permitUnblock, .permitRead, .careMaskSet, .cardPresent, .cardWithdraw, .orderList, .orderSelect,
  .armConfig, .armClear, .armBlock, .armUnblock, .pumpConfig, .pumpReset,
  .injectorAssign, .injectorReset, .recipePut, .recipeRead,
  .deadmanConfig, .deadman, .permissiveReport, .stopAll, .resume, .esdReset,
  .meterErrors, .meterClearDebt, .calWrite, .calRead,
  .noteConfig, .noteRelease, .notePrinted, .noteOpen, .noteRead]

/-- The request that a code names, if any; a code not listed names none (R168). -/
def reqCodeOf (n : Nat) : Option ReqCode := allReqCodes.find? fun c => reqNumber c == n

/-- The code of a command that is a request. -/
def reqCode? : Instr → Option ReqCode
  | .nop _ => some .nop
  | .statusRead _ _ _ _ => some .statusRead
  | .totalsRead _ _ => some .totalsRead
  | .eventRead _ => some .eventRead
  | .productPut _ _ _ => some .productPut
  | .productRead _ _ => some .productRead
  | .orderBegin _ _ _ _ _ => some .orderBegin
  | .orderLine _ _ _ => some .orderLine
  | .orderCancel _ _ => some .orderCancel
  | .orderAmend _ _ _ _ => some .orderAmend
  | .compartmentStart _ _ => some .compartmentStart
  | .compartmentStop _ _ => some .compartmentStop
  | .loadFinish _ => some .loadFinish
  | .loadResume _ => some .loadResume
  | .loadAbort _ => some .loadAbort
  | .timeSet _ _ _ => some .timeSet
  | .permitPut _ _ => some .permitPut
  | .permitDelete _ _ => some .permitDelete
  | .permitBlock _ _ => some .permitBlock
  | .permitUnblock _ _ => some .permitUnblock
  | .permitRead _ _ => some .permitRead
  | .careMaskSet _ _ => some .careMaskSet
  | .cardPresent _ _ => some .cardPresent
  | .cardWithdraw _ => some .cardWithdraw
  | .orderList _ _ => some .orderList
  | .orderSelect _ _ => some .orderSelect
  | .armConfig _ _ _ => some .armConfig
  | .armClear _ _ => some .armClear
  | .armBlock _ _ => some .armBlock
  | .armUnblock _ _ => some .armUnblock
  | .pumpConfig _ _ _ => some .pumpConfig
  | .pumpReset _ _ => some .pumpReset
  | .injectorAssign _ _ _ _ _ => some .injectorAssign
  | .injectorReset _ _ => some .injectorReset
  | .recipePut _ _ _ _ => some .recipePut
  | .recipeRead _ _ => some .recipeRead
  | .deadmanConfig _ _ _ => some .deadmanConfig
  | .deadman _ _ => some .deadman
  | .permissiveReport _ _ _ _ => some .permissiveReport
  | .stopAll _ _ => some .stopAll
  | .resume _ => some .resume
  | .esdReset _ => some .esdReset
  | .meterErrors _ _ => some .meterErrors
  | .meterClearDebt _ _ => some .meterClearDebt
  | .calWrite _ _ _ => some .calWrite
  | .calRead _ _ _ => some .calRead
  | .noteConfig _ _ => some .noteConfig
  | .noteRelease _ _ => some .noteRelease
  | .notePrinted _ _ => some .notePrinted
  | .noteOpen _ _ _ _ _ => some .noteOpen
  | .noteRead _ => some .noteRead
  | .selectWindow _ _ => none
  | .quadratureStep _ _ => none
  | .integrityError _ => none
  | .gateExpiry _ => none
  | .pollSlot _ => none
  | .settleTimerExpiry _ => none
  | .closeTimerExpiry _ => none
  | .pumpFeedback _ _ => none
  | .startTimerExpiry _ => none
  | .runOnTimerExpiry _ => none
  | .injectorFeedback _ _ => none
  | .feedbackTimerExpiry _ => none
  | .esdInputChange _ => none
  | .validityTimerExpiry => none
  | .firstExpiry => none
  | .secondExpiry => none
  | .contextTimerExpiry => none
  | .holdTimerExpiry _ => none
  | .sealInputChange _ => none
  | .bayClockSecond => none
  | .recordWriteComplete => none
  | .saveWriteComplete => none
  | .pfailAssertion => none
  | .resetAssertion _ => none
  | .startUp _ => none
  | .start => none
  | .lossOfPower _ => none

/-- The request with the window that brought it. -/
def withWin (w : Win) : Instr → Instr
  | .nop _ => .nop w
  | .statusRead _ x1 x2 x3 => .statusRead w x1 x2 x3
  | .totalsRead _ x1 => .totalsRead w x1
  | .eventRead _ => .eventRead w
  | .productPut _ x1 x2 => .productPut w x1 x2
  | .productRead _ x1 => .productRead w x1
  | .orderBegin _ x1 x2 x3 x4 => .orderBegin w x1 x2 x3 x4
  | .orderLine _ x1 x2 => .orderLine w x1 x2
  | .orderCancel _ x1 => .orderCancel w x1
  | .orderAmend _ x1 x2 x3 => .orderAmend w x1 x2 x3
  | .compartmentStart _ x1 => .compartmentStart w x1
  | .compartmentStop _ x1 => .compartmentStop w x1
  | .loadFinish _ => .loadFinish w
  | .loadResume _ => .loadResume w
  | .loadAbort _ => .loadAbort w
  | .timeSet _ x1 x2 => .timeSet w x1 x2
  | .permitPut _ x1 => .permitPut w x1
  | .permitDelete _ x1 => .permitDelete w x1
  | .permitBlock _ x1 => .permitBlock w x1
  | .permitUnblock _ x1 => .permitUnblock w x1
  | .permitRead _ x1 => .permitRead w x1
  | .careMaskSet _ x1 => .careMaskSet w x1
  | .cardPresent _ x1 => .cardPresent w x1
  | .cardWithdraw _ => .cardWithdraw w
  | .orderList _ x1 => .orderList w x1
  | .orderSelect _ x1 => .orderSelect w x1
  | .armConfig _ x1 x2 => .armConfig w x1 x2
  | .armClear _ x1 => .armClear w x1
  | .armBlock _ x1 => .armBlock w x1
  | .armUnblock _ x1 => .armUnblock w x1
  | .pumpConfig _ x1 x2 => .pumpConfig w x1 x2
  | .pumpReset _ x1 => .pumpReset w x1
  | .injectorAssign _ x1 x2 x3 x4 => .injectorAssign w x1 x2 x3 x4
  | .injectorReset _ x1 => .injectorReset w x1
  | .recipePut _ x1 x2 x3 => .recipePut w x1 x2 x3
  | .recipeRead _ x1 => .recipeRead w x1
  | .deadmanConfig _ x1 x2 => .deadmanConfig w x1 x2
  | .deadman _ x1 => .deadman w x1
  | .permissiveReport _ x1 x2 x3 => .permissiveReport w x1 x2 x3
  | .stopAll _ x1 => .stopAll w x1
  | .resume _ => .resume w
  | .esdReset _ => .esdReset w
  | .meterErrors _ x1 => .meterErrors w x1
  | .meterClearDebt _ x1 => .meterClearDebt w x1
  | .calWrite _ x1 x2 => .calWrite w x1 x2
  | .calRead _ x1 x2 => .calRead w x1 x2
  | .noteConfig _ x1 => .noteConfig w x1
  | .noteRelease _ x1 => .noteRelease w x1
  | .notePrinted _ x1 => .notePrinted w x1
  | .noteOpen _ x1 x2 x3 x4 => .noteOpen w x1 x2 x3 x4
  | .noteRead _ => .noteRead w
  | .selectWindow x1 x2 => .selectWindow x1 x2
  | .quadratureStep x1 x2 => .quadratureStep x1 x2
  | .integrityError x1 => .integrityError x1
  | .gateExpiry x1 => .gateExpiry x1
  | .pollSlot x1 => .pollSlot x1
  | .settleTimerExpiry x1 => .settleTimerExpiry x1
  | .closeTimerExpiry x1 => .closeTimerExpiry x1
  | .pumpFeedback x1 x2 => .pumpFeedback x1 x2
  | .startTimerExpiry x1 => .startTimerExpiry x1
  | .runOnTimerExpiry x1 => .runOnTimerExpiry x1
  | .injectorFeedback x1 x2 => .injectorFeedback x1 x2
  | .feedbackTimerExpiry x1 => .feedbackTimerExpiry x1
  | .esdInputChange x1 => .esdInputChange x1
  | .validityTimerExpiry => .validityTimerExpiry
  | .firstExpiry => .firstExpiry
  | .secondExpiry => .secondExpiry
  | .contextTimerExpiry => .contextTimerExpiry
  | .holdTimerExpiry x1 => .holdTimerExpiry x1
  | .sealInputChange x1 => .sealInputChange x1
  | .bayClockSecond => .bayClockSecond
  | .recordWriteComplete => .recordWriteComplete
  | .saveWriteComplete => .saveWriteComplete
  | .pfailAssertion => .pfailAssertion
  | .resetAssertion x1 => .resetAssertion x1
  | .startUp x1 => .startUp x1
  | .start => .start
  | .lossOfPower x1 => .lossOfPower x1

/-- The window of a request. -/
def win? : Instr → Option Win
  | .nop w => some w
  | .statusRead w _ _ _ => some w
  | .totalsRead w _ => some w
  | .eventRead w => some w
  | .productPut w _ _ => some w
  | .productRead w _ => some w
  | .orderBegin w _ _ _ _ => some w
  | .orderLine w _ _ => some w
  | .orderCancel w _ => some w
  | .orderAmend w _ _ _ => some w
  | .compartmentStart w _ => some w
  | .compartmentStop w _ => some w
  | .loadFinish w => some w
  | .loadResume w => some w
  | .loadAbort w => some w
  | .timeSet w _ _ => some w
  | .permitPut w _ => some w
  | .permitDelete w _ => some w
  | .permitBlock w _ => some w
  | .permitUnblock w _ => some w
  | .permitRead w _ => some w
  | .careMaskSet w _ => some w
  | .cardPresent w _ => some w
  | .cardWithdraw w => some w
  | .orderList w _ => some w
  | .orderSelect w _ => some w
  | .armConfig w _ _ => some w
  | .armClear w _ => some w
  | .armBlock w _ => some w
  | .armUnblock w _ => some w
  | .pumpConfig w _ _ => some w
  | .pumpReset w _ => some w
  | .injectorAssign w _ _ _ _ => some w
  | .injectorReset w _ => some w
  | .recipePut w _ _ _ => some w
  | .recipeRead w _ => some w
  | .deadmanConfig w _ _ => some w
  | .deadman w _ => some w
  | .permissiveReport w _ _ _ => some w
  | .stopAll w _ => some w
  | .resume w => some w
  | .esdReset w => some w
  | .meterErrors w _ => some w
  | .meterClearDebt w _ => some w
  | .calWrite w _ _ => some w
  | .calRead w _ _ => some w
  | .noteConfig w _ => some w
  | .noteRelease w _ => some w
  | .notePrinted w _ => some w
  | .noteOpen w _ _ _ _ => some w
  | .noteRead w => some w
  | .selectWindow _ _ | .quadratureStep _ _ | .integrityError _ | .gateExpiry _ | .pollSlot _ | .settleTimerExpiry _
  | .closeTimerExpiry _ | .pumpFeedback _ _ | .startTimerExpiry _ | .runOnTimerExpiry _ | .injectorFeedback _ _
  | .feedbackTimerExpiry _ | .esdInputChange _ | .validityTimerExpiry | .firstExpiry | .secondExpiry
  | .contextTimerExpiry | .holdTimerExpiry _ | .sealInputChange _ | .bayClockSecond | .recordWriteComplete
  | .saveWriteComplete | .pfailAssertion | .resetAssertion _ | .startUp _ | .start | .lossOfPower _ => none

/-! ### Integers, the CRC and the frame (R166, R188) -/

/-- An unsigned integer in `n` bytes, the more significant byte first (R188). -/
def beBytes : Nat → Nat → List Byte
  | 0, _ => []
  | n + 1, v => BitVec.ofNat 8 (v / 256 ^ n) :: beBytes n v

/-- A signed integer in `n` bytes, two's complement (R188). -/
def beSigned (n : Nat) (v : Int) : List Byte := beBytes n (v % (256 ^ n : Nat)).toNat

/-- The unsigned integer of bytes, the more significant first. -/
def ofBytes (bs : List Byte) : Nat := bs.foldl (fun acc b => acc * 256 + b.toNat) 0

/-- The signed integer of two bytes. -/
def ofSigned16 (bs : List Byte) : Int := (BitVec.ofNat 16 (ofBytes bs)).toInt

/-- One bit through the CRC register (R166). -/
def crcBit (reg : BitVec 16) (bit : Bool) : BitVec 16 :=
  if reg.msb != bit then (reg <<< 1) ^^^ 0x1021#16 else reg <<< 1

/-- One byte through the CRC register, most significant bit first (R166). -/
def crcByte (reg : BitVec 16) (b : Byte) : BitVec 16 :=
  [7, 6, 5, 4, 3, 2, 1, 0].foldl (fun r i => crcBit r (b.getLsbD i)) reg

/-- The CRC over bytes in the order they are sent; the register starts at all ones (R166). -/
def crc16 (bs : List Byte) : BitVec 16 := bs.foldl crcByte 0xFFFF#16

/-- A frame: length, tag, code, payload, CRC (R166, section 11.4). -/
def frame (tag : Byte) (code : Nat) (payload : List Byte) : List Byte :=
  let body := BitVec.ofNat 8 (payload.length + 2) :: tag :: BitVec.ofNat 8 code :: payload
  body ++ beBytes 2 (crc16 body).toNat

/-- What the bytes of a window are judged to be (R167). -/
inductive Inbound where
  | malformed
  | badCrc (tag : Byte)
  | framed (tag : Byte) (code : Nat) (payload : List Byte)
  deriving DecidableEq, Repr

/-- The judgement of R167. Bytes beyond the length plus 3 are ignored. -/
def judgeInbound (bs : List Byte) : Inbound :=
  match bs with
  | len :: tag :: code :: rest =>
    if len.toNat < 2 ∨ 62 < len.toNat ∨ bs.length < len.toNat + 3 then .malformed
    else if crc16 (bs.take (len.toNat + 1)) = BitVec.ofNat 16 (ofBytes ((bs.drop (len.toNat + 1)).take 2)) then
      .framed tag code.toNat (rest.take (len.toNat - 2))
    else .badCrc tag
  | _ => .malformed

/-! ### Payloads of requests -/

/-- PERMIT-PUT, 13 bytes (section 11.5). Bits 1 to 7 of the presence byte, which the section gives no meaning, are
ignored (assumption log 32). -/
def readPermit (p : List Byte) : PermitArg :=
  { card := ofBytes (p.take 4)
    carrier := if (p.getD 4 0).getLsbD 0 then some (ofBytes ((p.drop 5).take 2)) else none
    quals := BitVec.ofNat 16 (ofBytes ((p.drop 7).take 2)), expiry := ofBytes ((p.drop 9).take 2)
    loads := (p.getD 11 0).toNat, state := (p.getD 12 0).toNat }

/-- ORDER-LINE, 8 bytes (section 11.5): the index and the line. -/
def readLine (p : List Byte) : Nat × LineArg :=
  ((p.getD 0 0).toNat,
    { compartment := (p.getD 1 0).toNat, arm := (p.getD 2 0).toNat, product := (p.getD 3 0).toNat,
      preset := ofBytes ((p.drop 4).take 2), basis := (p.getD 6 0).toNat, recipe := (p.getD 7 0).toNat })

/-- The points of a curve: q in 2 bytes and f in 3 (section 11.5). -/
def readPoints : Nat → List Byte → List (Nat × Nat)
  | 0, _ => []
  | n + 1, p => (ofBytes (p.take 2), ofBytes ((p.drop 2).take 3)) :: readPoints n (p.drop 5)

/-- The lengths that the value of CAL-WRITE may have under the four kinds: 4 bytes for a meter constant or stroke volume, 2
for a probe offset, and a count and 1 to 4 points for a curve (section 11.5). -/
def calibrationLengths : List Nat := [2, 4, 6, 11, 16, 21]

/-- CAL-WRITE (section 11.5): index and value; none where the length does not match the kind and point count. A number
that is no kind is refused at the port at a length that no kind allows, and by its owner otherwise; a curve of a point
count outside 1 to 4 whose length matches that count goes to the owner (assumption log 30). -/
def readCalibration (p : List Byte) : Option (Nat × CalValueArg) :=
  match p with
  | kind :: index :: value =>
    if kind = 0#8 then
      if value.length = 4 then some (index.toNat, .meterConstant (ofBytes value)) else none
    else if kind = 1#8 then
      match value with
      | [] => none
      | count :: points =>
        if points.length = 5 * count.toNat then
          some (index.toNat, .factorCurve count.toNat (readPoints count.toNat points))
        else none
    else if kind = 2#8 then
      if value.length = 2 then some (index.toNat, .probeOffset (ofSigned16 value)) else none
    else if kind = 3#8 then
      if value.length = 4 then some (index.toNat, .strokeVolume (ofBytes value)) else none
    else if calibrationLengths.contains value.length then some (index.toNat, .other kind.toNat)
    else none
  | _ => none

/-- A request with no argument: its payload is empty (assumption log 4). -/
def noArgument (payload : List Byte) (i : Instr) : Option Instr := if payload.isEmpty then some i else none

/-- A request whose layout section 11.5 does not print, as the free reading of Config gives it (assumption log 4). -/
def openRequest (w : Win) (c : ReqCode) (payload : List Byte) : Option Instr :=
  match Config.readPayload (reqNumber c) payload with
  | none => none
  | some i => if reqCode? i = some c then some (withWin w i) else none

/-- The payload layout of a request is printed in section 11.5, or the request carries no argument and its payload is empty. -/
def printed : ReqCode → Bool
  | .nop | .eventRead | .loadFinish | .loadResume | .loadAbort | .cardWithdraw | .resume | .esdReset | .noteRead
  | .permitPut | .orderLine | .orderList | .calWrite => true
  | .statusRead | .totalsRead | .productPut | .productRead | .orderBegin | .orderCancel | .orderAmend | .compartmentStart
  | .compartmentStop | .timeSet | .permitDelete | .permitBlock | .permitUnblock | .permitRead | .careMaskSet | .cardPresent
  | .orderSelect | .armConfig | .armClear | .armBlock | .armUnblock | .pumpConfig | .pumpReset | .injectorAssign
  | .injectorReset | .recipePut | .recipeRead | .deadmanConfig | .deadman | .permissiveReport | .stopAll | .meterErrors
  | .meterClearDebt | .calRead | .noteConfig | .noteRelease | .notePrinted | .noteOpen => false

/-- The request that a code and payload spell, or none where the payload length is not one that the code allows
(R168). -/
def readRequest (w : Win) (c : ReqCode) (payload : List Byte) : Option Instr :=
  match c with
  | .nop => noArgument payload (.nop w)
  | .eventRead => noArgument payload (.eventRead w)
  | .loadFinish => noArgument payload (.loadFinish w)
  | .loadResume => noArgument payload (.loadResume w)
  | .loadAbort => noArgument payload (.loadAbort w)
  | .cardWithdraw => noArgument payload (.cardWithdraw w)
  | .resume => noArgument payload (.resume w)
  | .esdReset => noArgument payload (.esdReset w)
  | .noteRead => noArgument payload (.noteRead w)
  | .permitPut => if payload.length = 13 then some (.permitPut w (readPermit payload)) else none
  | .orderLine => if payload.length = 8 then some (.orderLine w (readLine payload).1 (readLine payload).2) else none
  | .orderList => if payload.length = 1 then some (.orderList w (ofBytes payload)) else none
  | .calWrite => (readCalibration payload).map fun r => .calWrite w r.1 r.2
  | c => openRequest w c payload

/-! ### Payloads of responses -/

/-- An event record, 10 bytes (section 11.4). -/
def Event.bytes (e : Event) : List Byte :=
  beBytes 1 e.code.number ++ beBytes 1 e.kind.number ++ beBytes 1 e.number ++ beBytes 4 e.value.toNat
    ++ beBytes 3 e.second

/-- A permit entry, 13 bytes (section 11.5). -/
def PermitContent.bytes (c : PermitContent) : List Byte :=
  beBytes 4 c.card ++ beBytes 1 c.carrier.isSome.toNat ++ beBytes 2 (c.carrier.getD 0) ++ beBytes 2 c.quals.toNat
    ++ beBytes 2 c.expiry ++ beBytes 1 c.loads ++ beBytes 1 (if c.state = .active then 0 else 1)

/-- The PERMIT-READ response (section 11.5). -/
def PermitEntry.bytes (e : PermitEntry) : List Byte :=
  e.content.bytes ++ beBytes 1 e.inUse.toNat ++
    match e.action with
    | .none => beBytes 1 0
    | .replace c => beBytes 1 1 ++ c.bytes
    | .delete => beBytes 1 2

/-- One entry of an ORDER-LIST response (section 11.5). -/
def ListedOrder.bytes (o : ListedOrder) : List Byte :=
  beBytes 3 o.number ++ beBytes 1 o.lines.length ++ o.lines.flatMap fun l => beBytes 1 ((l.1 - 1) * 16 + l.2.val)

/-- The nine flags of a compartment line with bits 9 to 12 (section 11.6). -/
def NoteComp.flagWord (c : NoteComp) : Nat :=
  c.flags.short.toNat + 2 * c.flags.amended.toNat + 4 * c.flags.notLoaded.toNat + 8 * c.flags.reverseFlow.toNat
    + 16 * c.flags.tempHeld.toNat + 32 * c.flags.tempFault.toNat + 64 * c.flags.valveLeak.toNat
    + 128 * c.additiveOut.toNat + 256 * c.additiveSkipped.toNat + 512 * (if c.basis = .net then 1 else 0)
    + 1024 * c.average.isSome.toNat + 2048 * c.opening.isSome.toNat + 4096 * c.haltCause.isSome.toNat

/-- A short name padded with spaces to 8 bytes (R188). -/
def padName (name : List Byte) : List Byte := (name ++ List.replicate 8 0x20#8).take 8

/-- Two totalizer readings, 8 bytes each, or zeros where absent (R188). -/
def readingBytes : Option Readings → List Byte
  | none => beBytes 16 0
  | some r => beBytes 8 r.gross ++ beBytes 8 r.net

/-- The byte kind and the bytes of a note line (section 11.6). -/
def NoteLine.bytes : NoteLine → List Byte
  | .header serial h =>
    beBytes 1 0 ++ beBytes 4 serial ++ beBytes 1 h.status.number ++ beBytes 3 h.order ++ beBytes 4 h.card
      ++ beBytes 2 (h.carrier.getD 0) ++ beBytes 2 h.openTime.day ++ beBytes 3 h.openTime.second
      ++ beBytes 2 ((h.closeTime.map Stamp.day).getD 0) ++ beBytes 3 ((h.closeTime.map Stamp.second).getD 0)
      ++ beBytes 1 (1 + 2 * h.closeTime.isSome.toNat + 4 * h.carrier.isSome.toNat + 8 * h.totalsUncertain.toNat)
      ++ beBytes 2 h.cec ++ beBytes 1 h.lines
  | .comp c =>
    beBytes 1 1 ++ beBytes 1 ((c.index - 1) * 32 + (c.compartment - 1) * 4 + c.arm.val) ++ padName c.shortName
      ++ beBytes 2 c.preset ++ beBytes 4 c.gross ++ beBytes 4 c.net ++ beSigned 2 (c.average.getD 0)
      ++ beBytes 2 c.maxFlow ++ readingBytes c.opening ++ readingBytes c.closing ++ beBytes 2 c.flagWord
      ++ beBytes 1 ((c.haltCause.map HaltCause.number).getD 0)
  | .additive a =>
    beBytes 1 2 ++ beBytes 1 a.compartment ++ beBytes 1 a.result.position ++ beBytes 1 a.result.recipe
      ++ beBytes 1 a.result.component.additive ++ beBytes 2 a.result.component.ratio
      ++ beBytes 1 ((a.result.injector.map Fin.val).getD 0) ++ beBytes 8 (a.result.expected.getD 0)
      ++ beBytes 8 a.result.delivered ++ beSigned 4 (clampInt (-2147483648) 2147483647 (a.result.deviation.getD 0))
      ++ beBytes 4 a.result.confirmed ++ beBytes 4 a.result.missed ++ beBytes 4 a.result.skipped
      ++ beBytes 1 a.result.judgement.number
      ++ beBytes 1 (a.result.markOut.toNat + 2 * a.result.markSkipped.toNat + 4 * a.result.injector.isSome.toNat
        + 8 * a.result.deviation.isSome.toNat)
  | .trailer t => beBytes 1 3 ++ beBytes 8 t.gross ++ beBytes 8 t.net ++ beBytes 1 t.lines

/-! ### The numbers that fields carry (R188)

The fields of a payload whose layout is not printed, as numbers and in the order in which their rule lists them. The
layout that turns them into bytes is free (assumption log 3). A mark, a yes or no, a level or a latch is 1 for yes, active,
set or on (assumption log 33); an optional field is a presence number and its value, 0 where absent. The form of STOP-ALL is
0 BAY, 1 ARM, in the order in which R120 and R121 name them (R188). -/

/-- A yes or no, or a level or a latch, as a number (assumption log 33). -/
def flagField (b : Bool) : List Int := [b.toNat]

/-- An optional number (R188). -/
def optField (x : Option Int) : List Int := [x.isSome.toNat, x.getD 0]

/-- An optional natural number (R188). -/
def optNat (x : Option Nat) : List Int := optField (x.map Int.ofNat)

/-- An optional group of `n` fields: a presence number and the group's numbers, each 0 where the group is absent (R188,
assumption log 3). -/
def optGroup {α : Type} (n : Nat) (fields : α → List Int) (x : Option α) : List Int :=
  x.elim (List.replicate (n + 1) 0) fun y => 1 :: fields y

/-- An arm or pump, FF hex for none (R188). -/
def fourField (x : Option (Fin 4)) : List Int := [x.elim 255 fun a => (a.val : Int)]

/-- A set of marks as a mask, bit n standing for the member listed nth (R188). -/
def maskField : List Bool → Int
  | [] => 0
  | b :: rest => b.toNat + 2 * maskField rest

def Permissives.field (p : Permissives) : Int := maskField [p.ground, p.overfillOk, p.vapour]

def CauseSet.field (c : CauseSet) : Int := maskField [c.esd, c.permissive, c.deadman, c.stopAll, c.power]

def CompFlags.field (f : CompFlags) : Int :=
  maskField [f.short, f.amended, f.notLoaded, f.reverseFlow, f.tempHeld, f.tempFault, f.valveLeak]

def ProductEntry.fields (e : ProductEntry) : List Int :=
  (padName e.shortName).map (fun b => (b.toNat : Int)) ++ [(e.alpha : Int), (e.required.toNat : Int)] ++ fourField e.pump
    ++ flagField e.defined

def Component.fields (c : Component) : List Int :=
  [(c.additive : Int), (c.ratio : Int), (c.tolerance : Int)] ++ flagField c.mandatory

def GateFigures.fields (g : GateFigures) : List Int :=
  [(g.pulses : Int), (g.indicated : Int), (g.flow : Int), (g.factor : Int), g.temp, (g.vcf : Int), (g.gross : Int),
    (g.net : Int)]

/-- The kind number of a calibration item, its unit and its value (R143). DESIGN CHOICE: the kind and the unit, the meter,
probe or injector, stand before the value, though R146 lists only the item's value, the CEC and the seal state; and a curve has
its point count before its points, as CAL-WRITE has it (assumption log 37). -/
def CalItem.fields : CalItem → List Int
  | .meterConstant m k => [0, (m.val : Int), (k : Int)]
  | .factorCurve m c =>
    [1, (m.val : Int), (c.rest.length + 1 : Int)] ++ (c.first :: c.rest).flatMap fun p => [(p.1 : Int), (p.2 : Int)]
  | .probeOffset p o => [2, (p.val : Int), o]
  | .strokeVolume j v => [3, (j.val : Int), (v : Int)]

def ComponentResult.fields (r : ComponentResult) : List Int :=
  optField (r.injector.map fun j => (j.val : Int)) ++ optNat r.stroke
    ++ [(r.index : Int), (r.confirmed : Int), (r.missed : Int), (r.skipped : Int), (r.delivered : Int)]
    ++ optNat r.expected ++ optField r.deviation
    ++ [(r.judgement.number : Int), maskField [r.markSkipped, r.markOut]]

/-- The load of BAY, ten numbers (R178); with no load the load state is NONE, 4, and the fields behind it are 0 (R188). -/
def bayLoadFields : Option BayLoad → List Int
  | none => 4 :: List.replicate 9 0
  | some l =>
    [(l.state.number : Int), (l.card : Int), (l.number : Int), (l.slot.val : Int)] ++ optNat l.carrier
      ++ [(l.openTime.day : Int), (l.openTime.second : Int), l.causes.field] ++ flagField l.totalsUncertain

/-- BAY (R178). DESIGN CHOICE: the time left of a context that stands has a presence number of its own, though R178 makes
only the context as a whole absent or present (assumption log 37). -/
def BayStatus.fields (b : BayStatus) : List Int :=
  [(b.clock.day : Int), (b.clock.second : Int)] ++ flagField b.clock.isSet ++ bayLoadFields b.load
    ++ optGroup 4 (fun x => [(x.card : Int), (x.eligible : Int)] ++ optNat x.timeLeft) b.context
    ++ (b.queued : Int) :: optGroup 2 (fun g => [(g.1 : Int), (g.2 : Int)]) b.staging

/-- COMPARTMENT (R178). DESIGN CHOICE: the compartment number stands beside the index, though R178, which calls the
contents the index and line, does not list it apart (assumption log 36). -/
def CompStatus.fields (c : CompStatus) : List Int :=
  [(c.index : Int), (c.line.compartment : Int), (c.line.arm.val : Int), (c.line.product.val : Int),
    (c.line.preset : Int), (c.line.basis.number : Int), (c.line.recipe : Int), (c.state.number : Int), (c.gross : Int),
    (c.net : Int)] ++ optField c.average ++ [(c.maxFlow : Int)] ++ optNat c.antUsed
    ++ optNat (c.closeReason.map CloseReason.number) ++ optNat (c.haltCause.map HaltCause.number) ++ [c.flags.field]

/-- ARM (R179). -/
def ArmStatus.fields (a : ArmStatus) : List Int :=
  [(a.state.number : Int), (a.valve.number : Int)] ++ flagField a.main ++ flagField a.trim ++ optNat a.served
    ++ optNat (a.faultCause.map FaultCause.number) ++ flagField a.blocked ++ flagField a.hold
    ++ [(a.stray : Int), (a.ant : Int), (a.debt : Int), a.held, (a.invalidRun : Int)]

/-- One pump of PUMPS (R179). -/
def PumpStatus.fields (p : PumpStatus) : List Int :=
  [(p.state.number : Int)] ++ flagField p.run ++ flagField p.feedback ++ [(p.demand : Int)]
    ++ optNat (p.failKind.map FailKind.number)

/-- INJECTOR (R179). -/
def InjectorStatus.fields (x : InjectorStatus) : List Int :=
  [(x.state.number : Int)] ++ fourField x.arm ++ [(x.additive : Int)]
    ++ optGroup 2 (fun b => [(b.compartment : Int), (b.position : Int)]) x.binding
    ++ [(x.owed : Int), (x.consecutive : Int)] ++ flagField x.output ++ flagField x.feedback

/-- SAFETY (R179); the ESD input is 1 active, the latches 1 set and the horn 1 on (assumption log 33). DESIGN CHOICE: the
ESD input, which table 6.1 and R179 give as a plain level, is a presence number and the level, since it has none before its
first filtered change (R123, assumption log 37). -/
def SafetyStatus.fields (y : SafetyStatus) : List Int :=
  [y.record.reported.field] ++ flagField y.record.stale ++ [y.effective.field] ++ optNat y.record.validity
    ++ optField (y.record.esdInput.map fun b => (b.toNat : Int)) ++ flagField y.record.esdLatch
    ++ flagField y.record.stopAllLatch ++ flagField y.record.armed
    ++ [(y.record.stage.number : Int), (y.record.timer : Int), (y.record.period : Int), (y.record.warning : Int)]
    ++ flagField y.record.horn ++ [(y.sealState.number : Int), (y.cec : Int)]

/-- One slot of NOTES (R179). -/
def SlotStatus.fields (x : SlotStatus) : List Int :=
  [(x.state.number : Int)] ++ optNat x.serial ++ flagField x.printed ++ flagField x.holdExpired

/-- The kind of a payload and the numbers of its fields, in the order in which its rule lists them; a payload whose layout
is printed has no use for them. DESIGN CHOICE: the components of a RECIPE-READ response, one or two, stand behind the mark
defined with no count before them (assumption log 37). -/
def Payload.fields : Payload → Nat × List Int
  | .none | .permit _ | .orders _ _ _ | .events _ _ | .noteLine _ _ _ | .reason _ => (0, [])
  | .lineIndex index => (1, [(index : Int)])
  | .product entry => (2, entry.fields)
  | .amendJudged delivered ant => (3, [(delivered : Int), (ant : Int)])
  | .quals set => (4, [(set.toNat : Int)])
  | .granted eligible carrier => (5, (eligible : Int) :: optNat carrier)
  | .selected order slot => (6, [(order : Int), (slot.val : Int)])
  | .arms mask => (7, [(mask.toNat : Int)])
  | .recipe entry => (8, flagField entry.defined ++ entry.components.flatMap Component.fields)
  | .permissives effective => (9, [effective.field])
  | .stopForm b => (10, flagField !b)
  | .deadman armed stage timeLeft => (11, flagField armed ++ [(stage.number : Int), (timeLeft : Int)])
  | .meterTotals gross net last d k sealState =>
    (12, [(gross : Int), (net : Int)] ++ optGroup 8 GateFigures.fields last
      ++ [(d : Int), (k : Int), (sealState.number : Int)])
  | .injectorTotals total stroke k sealState =>
    (13, [(total : Int), (stroke : Int), (k : Int), (sealState.number : Int)])
  | .meterErrors counter => (14, [(counter : Int)])
  | .debt before => (15, [(before : Int)])
  | .cec count => (16, [(count : Int)])
  | .calibration item k sealState => (17, item.fields ++ [(k : Int), (sealState.number : Int)])
  | .noteOpened lines status => (18, [(lines : Int), (status.number : Int)])
  | .bay status => (19, status.fields)
  | .compartment status => (20, status.fields)
  | .additive result => (21, result.fields)
  | .arm status => (22, status.fields)
  | .pumps statuses => (23, statuses.flatMap PumpStatus.fields)
  | .injector status => (24, status.fields)
  | .safety status => (25, status.fields)
  | .notes slots counter minutes => (26, slots.flatMap SlotStatus.fields ++ [(counter : Int), (minutes : Int)])

/-- The bytes of a payload whose layout section 11.4, 11.5 or 11.6 prints, and of the failure reason alone, one byte of its
number (R188, assumption log 3). -/
def Payload.bytes? : Payload → Option (List Byte)
  | .none => some []
  | .permit e => some e.bytes
  | .orders count entries next =>
    some (beBytes 1 count ++ beBytes 1 (next.getD 255) ++ entries.flatMap ListedOrder.bytes)
  | .events records overflow =>
    some (beBytes 1 records.length ++ beBytes 1 overflow.toNat ++ records.flatMap Event.bytes)
  | .noteLine number wrapped line => some (beBytes 1 (number + 128 * wrapped.toNat) ++ line.bytes)
  | .reason r => some (beBytes 1 r.number)
  | _ => Option.none

/-- The bytes of a payload: as printed, or by the free layout of Config from the numbers of its fields, at most 60 bytes
(R166, assumption log 3). -/
def Payload.bytes (p : Payload) : List Byte := p.bytes?.getD ((Config.layout p.fields.1 p.fields.2).take 60)

/-- The bytes of a response frame (R166). -/
def Response.bytes (r : Response) : List Byte := frame r.tag r.status.number r.payload.bytes

/-- The NULL response: tag 0, status NONE, no payload (R165). -/
def Response.null : Response := { tag := 0, status := .none, payload := .none }

end Sys2Proof.Machine
end

