-- ==== Sys2Proof/Machine/Ports.lean ====
section
/-! DEFINITION. The port controllers (chapter 9): permissions, the window that carries a request in and the previous
response out, and the requests that the port controllers own (NOP, EVENT-READ). -/

namespace Sys2Proof.Machine

/-- The ports from which a request is allowed (R170). -/
def permitted (c : ReqCode) (p : Port) : Bool :=
  match c with
  | .nop | .statusRead | .totalsRead | .eventRead => true
  | .noteOpen | .noteRead => p != .sp
  | .productPut | .productRead | .orderBegin | .orderLine | .orderCancel | .orderAmend | .loadAbort | .timeSet
  | .permitPut | .permitDelete | .permitBlock | .permitUnblock | .permitRead | .careMaskSet | .armConfig | .armClear
  | .armBlock | .armUnblock | .pumpConfig | .pumpReset | .injectorAssign | .injectorReset | .recipePut | .recipeRead
  | .deadmanConfig | .meterErrors | .meterClearDebt | .calWrite | .calRead | .noteConfig | .noteRelease => p == .tp
  | .compartmentStart | .compartmentStop | .loadFinish | .loadResume | .cardPresent | .cardWithdraw | .orderList
  | .orderSelect | .deadman | .notePrinted => p == .pp
  | .permissiveReport | .stopAll | .resume | .esdReset => p == .sp

/-- What a port controller does with its outgoing response in a window of `clocked` bytes (R165): the frame's bytes and
then zeros are shifted out, and the pending response becomes absent, cut short or not. `kept` are the inbound bytes
kept. DESIGN CHOICE: the outbound position, which section 9.1 has count bytes of the pending response, counts those of the
NULL response where no response is pending (assumption log 35). -/
def PortState.window (clocked : Nat) (kept : List Byte) (p : PortState) : PortState :=
  let out := (p.pending.getD Response.null).bytes
  { p with
    pending := none, inbound := kept, outPosition := min clocked out.length
    shifted := out.take clocked ++ List.replicate (clocked - out.length) 0#8 }

/-- A select window passes at a port (R165). -/
def State.window (p : Port) (clocked : Nat) (kept : List Byte) (s : State) : State :=
  s.modifyPort p (PortState.window clocked kept)

/-- The bytes that the master clocks in the window of a request: its frame, and what comes after it (R166). -/
def Win.sent (c : ReqCode) (w : Win) : List Byte := frame w.tag (reqNumber c) w.payload ++ w.after

/-- The window of a request of code `c` passes: the previous response goes out, its bytes come in, of which the first 65 are
kept (R165). -/
def State.seen (c : ReqCode) (w : Win) (s : State) : State :=
  s.window w.port (Win.sent c w).length ((Win.sent c w).take 65)

/-- Windows are taken from START on, POWER_DOWN included, and not before it (R171, R186). -/
def State.takesWindows (s : State) : Bool := s.phase == .running || s.phase == .powerDown && s.started

/-- A select before START opens no window: data out carries 0 (R171, R186, R189). -/
def State.noWindow (p : Port) (clocked : Nat) (s : State) : State :=
  s.modifyPort p fun x => { x with shifted := List.replicate clocked 0#8 }

/-- A reply becomes the pending response of a port, with the tag echoed (R168). -/
def State.respond (p : Port) (tag : Byte) (r : Reply) (s : State) : State :=
  s.modifyPort p fun x => { x with pending := some { tag, status := r.status, payload := r.payload } }

/-- A request is taken: its owner acts on it, waiting writes start, and the reply becomes the pending response (R168). -/
def State.take (w : Win) (owner : State → State × Reply) (s : State) : State :=
  (owner s).1.startWrite.respond w.port w.tag (owner s).2

/-- A request row (R165 to R171): before START no window opens; in a window the previous response goes out, and the
request is refused at the port, answered BUSY in POWER_DOWN, or taken by its owner. -/
def request (c : ReqCode) (w : Win) (owner : State → State × Reply) (s : State) : Host.Outcome State Fault Refusal :=
  if !s.takesWindows then .next (s.noWindow w.port (Win.sent c w).length)
  else if !permitted c w.port then .next ((s.seen c w).respond w.port w.tag { status := .notPermitted, payload := .none })
  else if s.phase = .powerDown then .next ((s.seen c w).respond w.port w.tag { status := .busy, payload := .none })
  else .next ((s.seen c w).take w owner)

/-- NOP changes no state (R169). -/
def ownNop (s : State) : State × Reply := reply .ok .none s

def execNop (w : Win) (s : State) : Host.Outcome State Fault Refusal := request .nop w ownNop s

/-- EVENT-READ takes up to four records from the head of the port's queue with the mark, and clears the mark (R176). -/
def ownEventRead (p : Port) (s : State) : State × Reply :=
  reply .ok (.events ((s.ports.get p).events.take 4) (s.ports.get p).overflow)
    (s.modifyPort p fun x => { x with events := x.events.drop 4, overflow := false })

def execEventRead (w : Win) (s : State) : Host.Outcome State Fault Refusal :=
  request .eventRead w (ownEventRead w.port) s

end Sys2Proof.Machine
end

