-- ==== Sys2Proof/Machine/Orders.lean ====
section
/-! DEFINITION. Products and orders (sections 1.1 and 1.2): PRODUCT-PUT, PRODUCT-READ, ORDER-BEGIN, ORDER-LINE,
ORDER-CANCEL, ORDER-AMEND. -/

namespace Sys2Proof.Machine

/-! ### Products -/

/-- A character of a short name: A to Z, 0 to 9, a space or a hyphen (section 1.1.1). -/
def nameChar (b : Byte) : Bool :=
  (0x41 ≤ b.toNat && b.toNat ≤ 0x5A) || (0x30 ≤ b.toNat && b.toNat ≤ 0x39) || b == 0x20#8 || b == 0x2D#8

/-- A short name of 1 to 8 permitted characters (R1). -/
def validName (name : List Byte) : Bool := 1 ≤ name.length && name.length ≤ 8 && name.all nameChar

/-- A pump or arm number where FF hex stands for none (R188). -/
def fourOrNone? (n : Nat) : Option (Option (Fin 4)) := if n = 255 then some none else (four? n).map some

/-- A value given for a field whose range is yes, no; none where it is neither (R1, R98,
assumption log 34). -/
def YesNo.value? : YesNo → Option Bool
  | .yes => some true
  | .no => some false
  | .other => none

/-- The entry that PRODUCT-PUT gives, where every field lies in its range (R1). -/
def ProductArg.entry? (e : ProductArg) : Option ProductEntry :=
  match fourOrNone? e.pump, YesNo.value? e.defined with
  | some pump, some defined =>
    if validName e.shortName ∧ e.alpha ≤ 20000 then
      some { shortName := e.shortName, alpha := e.alpha, required := e.required, pump, defined }
    else none
  | _, _ => none

/-- A line of a queued order names the product (R1). -/
def State.productQueued (code : Fin 16) (s : State) : Bool :=
  s.orders.any fun o => o.lines.any fun l => l.product == code

/-- PRODUCT-PUT (R1). -/
def ownProductPut (code : Nat) (e : ProductArg) (s : State) : State × Reply :=
  if s.load.isSome then refuse .loadOpen s
  else match sixteen? code, ProductArg.entry? e with
    | some code, some entry =>
      if !entry.defined && s.productQueued code then refuse .inUse s
      else if !s.hasPlace then refuse .busy s
      else reply .accepted .none
        (({ s with products := s.products.set code entry }).enqueue (.product code entry))
    | _, _ => refuse .badArgument s

def execProductPut (w : Win) (code : Nat) (e : ProductArg) (s : State) : Host.Outcome State Fault Refusal :=
  request .productPut w (ownProductPut code e) s

/-- PRODUCT-READ (R2). -/
def ownProductRead (code : Nat) (s : State) : State × Reply :=
  match sixteen? code with
  | some code => reply .ok (.product s.products[code]) s
  | none => refuse .badArgument s

def execProductRead (w : Win) (code : Nat) (s : State) : Host.Outcome State Fault Refusal :=
  request .productRead w (ownProductRead code) s

/-! ### Staging -/

/-- The order number of the load record. -/
def State.loadNumber? (s : State) : Option Nat := s.load.map LoadRecord.number

/-- The number is that of an order of the queue. -/
def State.isQueued (number : Nat) (s : State) : Bool := s.orders.any fun o => o.number == number

/-- ORDER-BEGIN (R3). -/
def ownOrderBegin (number : Nat) (binding carrier : Option Nat) (count : Nat) (s : State) : State × Reply :=
  if number < 1 ∨ 999999 < number ∨ binding = some 0 ∨ binding.any (2 ^ 32 ≤ ·) ∨ carrier = some 0
      ∨ carrier.any (65535 < ·) ∨ count < 1 ∨ 8 < count then
    refuse .badArgument s
  else if s.isQueued number ∨ s.loadNumber? = some number then refuse .duplicate s
  else if 16 ≤ s.orders.length then refuse .full s
  else reply .ok .none
    { s with staging := some { number, binding, carrier, lines := List.replicate count none } }

def execOrderBegin (w : Win) (number : Nat) (binding carrier : Option Nat) (count : Nat) (s : State) :
    Host.Outcome State Fault Refusal :=
  request .orderBegin w (ownOrderBegin number binding carrier count) s

/-- The recipe number is 0 or names a defined entry of the recipe table (R4). -/
def State.recipeUsable (n : Nat) (s : State) : Bool :=
  if n = 0 then true
  else match recipeIndex? n with
    | none => false
    | some i => s.recipes[i].defined

def basisOf? : Nat → Option Basis
  | 0 => some .gross
  | 1 => some .net
  | _ => none

/-- The line that ORDER-LINE gives, where R4 admits its fields. -/
def State.line? (l : LineArg) (s : State) : Option OrderLine :=
  match four? l.arm, sixteen? l.product, basisOf? l.basis with
  | some arm, some product, some basis =>
    if 1 ≤ l.compartment ∧ l.compartment ≤ 8 ∧ 1 ≤ l.preset ∧ l.preset ≤ 50000 ∧ s.products[product].defined
        ∧ s.recipeUsable l.recipe then
      some { compartment := l.compartment, arm, product, preset := l.preset, basis, recipe := l.recipe }
    else none
  | _, _, _ => none

/-- The compartment number is that of a received line other than the one at place `i` (R4). -/
def compartmentTaken (n : Nat) (i : Nat) (lines : List (Option OrderLine)) : Bool :=
  (lines.set i none).any fun x =>
    match x with
    | none => false
    | some l => l.compartment == n

/-- The first index, counted from `i`, whose line names a product or recipe no longer defined (R5). -/
def State.undefinedLine? (s : State) : Nat → List OrderLine → Option Nat
  | _, [] => none
  | i, l :: rest =>
    if s.products[l.product].defined && s.recipeUsable l.recipe then s.undefinedLine? (i + 1) rest else some i

/-- The eligible order list follows an order that joins the queue (R34). -/
def Context.joined (o : Order) (x : Context) : Context :=
  if o.binding = none ∨ o.binding = some x.card then { x with eligible := x.eligible ++ [o.number] } else x

/-- Posting of the complete staging buffer (R5). -/
def State.postStaged (g : Staging) (s : State) : State × Reply :=
  let lines := g.lines.filterMap id
  match s.undefinedLine? 1 lines with
  | some i =>
    refuseWith .badArgument (.lineIndex i) { s with staging := some { g with lines := g.lines.set (i - 1) none } }
  | none =>
    if 16 ≤ s.orders.length then refuse .full { s with staging := some g }
    else
      let o : Order := { number := g.number, binding := g.binding, carrier := g.carrier, lines }
      reply .ok .none
        (({ s with staging := none, orders := s.orders ++ [o], context := s.context.map (Context.joined o) }).post
          .orderPosted .none 0 (w32 g.number))

/-- ORDER-LINE (R4): the line is stored, and the line that completes the staging buffer posts the order. -/
def ownOrderLine (index : Nat) (l : LineArg) (s : State) : State × Reply :=
  match s.staging with
  | none => refuse .state s
  | some g =>
    match s.line? l with
    | none => refuse .badArgument s
    | some line =>
      if index < 1 ∨ g.lines.length < index ∨ compartmentTaken line.compartment (index - 1) g.lines then
        refuse .badArgument s
      else
        let g' := { g with lines := g.lines.set (index - 1) (some line) }
        if g'.lines.all Option.isSome then s.postStaged g' else reply .ok .none { s with staging := some g' }

def execOrderLine (w : Win) (index : Nat) (l : LineArg) (s : State) : Host.Outcome State Fault Refusal :=
  request .orderLine w (ownOrderLine index l) s

/-- The eligible order list follows an order that leaves the queue (R34). -/
def Context.left (number : Nat) (x : Context) : Context :=
  { x with eligible := x.eligible.filter fun k => k != number }

/-- ORDER-CANCEL (R7). -/
def ownOrderCancel (number : Nat) (s : State) : State × Reply :=
  if s.isQueued number then
    reply .ok .none
      { s with
        orders := s.orders.filter fun o => o.number != number
        context := s.context.map (Context.left number) }
  else if s.staging.map Staging.number = some number then reply .ok .none { s with staging := none }
  else if s.loadNumber? = some number then refuse .inUse s
  else refuse .notFound s

def execOrderCancel (w : Win) (number : Nat) (s : State) : Host.Outcome State Fault Refusal :=
  request .orderCancel w (ownOrderCancel number) s

/-! ### Amending a preset -/

/-- A queued order's line takes the new preset (R8). -/
def Order.amended (compartment preset : Nat) (o : Order) : Order :=
  { o with lines := o.lines.map fun l => if l.compartment = compartment then { l with preset } else l }

/-- The line of a compartment record takes the new preset. -/
def CompRecord.withPreset (preset : Nat) (c : CompRecord) : CompRecord := { c with line := { c.line with preset } }

/-- A clamped amend marks the compartment AMENDED (R9). -/
def CompRecord.clampedTo (preset : Nat) (c : CompRecord) : CompRecord :=
  { c.withPreset preset with flags := { c.flags with amended := true } }

/-- An amend on a line of the open load (R8, R9). -/
def State.amendLoad (c : CompRecord) (preset : Nat) (s : State) : State × Reply :=
  let n := c.line.compartment
  let ant := s.arms[c.line.arm].config.ant
  let above : Bool := c.delivered + ant < preset * 1000
  let replaced := (s.modifyComp n (CompRecord.withPreset preset)).imagePoint
  match c.state with
  | .pending => reply .ok .none replaced
  | .starting | .lowStart | .full | .slowdown =>
    if above then reply .ok .none replaced
    else reply .clamped (.amendJudged c.delivered ant)
      ((s.modifyComp n (CompRecord.clampedTo preset)).driveClose n .amend)
  | .halted =>
    if above then reply .ok .none replaced
    else reply .clamped (.amendJudged c.delivered ant) (s.compDone n (CompRecord.clampedTo preset)).closeIfDone
  | .closing | .done => refuse .state s

/-- ORDER-AMEND (R8, R9). -/
def ownOrderAmend (number compartment preset : Nat) (s : State) : State × Reply :=
  if preset < 1 ∨ 50000 < preset then refuse .badArgument s
  else match s.orders.find? fun o => o.number == number with
    | some o =>
      if o.lines.any fun l => l.compartment == compartment then
        reply .ok .none
          { s with orders := s.orders.map fun x => if x.number = number then x.amended compartment preset else x }
      else refuse .notFound s
    | none =>
      if s.loadNumber? = some number then
        match s.comp? compartment with
        | some c => s.amendLoad c preset
        | none => refuse .notFound s
      else refuse .notFound s

def execOrderAmend (w : Win) (number compartment preset : Nat) (s : State) : Host.Outcome State Fault Refusal :=
  request .orderAmend w (ownOrderAmend number compartment preset) s

end Sys2Proof.Machine
end

