-- ==== Sys2Proof/Machine/Injection.lean ====
section
/-! DEFINITION. Additive injection (chapter 5): assignment and recipes, binding at a compartment's start, stroke points
at a gate, the stroke's start and end, injector faults and reset. -/

namespace Sys2Proof.Machine

/-! ### Assignment and recipes -/

/-- INJECTOR-ASSIGN (R96). -/
def ownInjectorAssign (injector arm additive timeout : Nat) (s : State) : State × Reply :=
  match eight? injector, fourOrNone? arm with
  | some j, some a =>
    if 7 < additive ∨ timeout < 100 ∨ 2000 < timeout then refuse .badArgument s
    else if s.injectors[j].state ≠ .idle ∧ s.injectors[j].state ≠ .disabled then refuse .state s
    else if (s.injectors[j].assign.arm.any fun b => s.arms[b].state != .idle) || (a.any fun b => s.arms[b].state != .idle)
      then refuse .state s
    else if !s.hasPlace then refuse .busy s
    else
      let assign : InjectorAssign := { arm := a, additive, timeout }
      reply .accepted .none
        ((s.modifyInjector j fun x =>
          { x with assign, consecutive := 0, state := if a.isNone then .disabled else .idle }).enqueue
          (.injector j assign))
  | _, _ => refuse .badArgument s

def execInjectorAssign (w : Win) (injector arm additive timeout : Nat) (s : State) :
    Host.Outcome State Fault Refusal :=
  request .injectorAssign w (ownInjectorAssign injector arm additive timeout) s

/-- The component that RECIPE-PUT gives, every field in its range (section 5.2.1). -/
def ComponentArg.component? (c : ComponentArg) : Option Component :=
  match YesNo.value? c.mandatory with
  | none => none
  | some mandatory =>
    if c.additive ≤ 7 ∧ 10 ≤ c.ratio ∧ c.ratio ≤ 10000 ∧ 1 ≤ c.tolerance ∧ c.tolerance ≤ 20 then
      some { additive := c.additive, ratio := c.ratio, tolerance := c.tolerance, mandatory }
    else none

/-- The component list that RECIPE-PUT gives, where R98 admits it: one component, or two of different additive codes. -/
def components? : List ComponentArg → Option (List Component)
  | [x] => (ComponentArg.component? x).map fun c => [c]
  | [x, y] =>
    match ComponentArg.component? x, ComponentArg.component? y with
    | some c, some d => if c.additive = d.additive then none else some [c, d]
    | _, _ => none
  | _ => none

/-- A line of a queued order names the recipe (R98). -/
def State.recipeQueued (number : Nat) (s : State) : Bool :=
  s.orders.any fun o => o.lines.any fun l => l.recipe == number

/-- RECIPE-PUT (R98). -/
def ownRecipePut (number : Nat) (defined : YesNo) (components : List ComponentArg) (s : State) : State × Reply :=
  if s.load.isSome then refuse .loadOpen s
  else match recipeIndex? number, YesNo.value? defined, components? components with
    | some i, some defined, some cs =>
      if !defined && s.recipeQueued number then refuse .inUse s
      else if !s.hasPlace then refuse .busy s
      else reply .accepted .none
        (({ s with recipes := s.recipes.set i { defined, components := cs } }).enqueue
          (.recipe i { defined, components := cs }))
    | _, _, _ => refuse .badArgument s

def execRecipePut (w : Win) (number : Nat) (defined : YesNo) (components : List ComponentArg) (s : State) :
    Host.Outcome State Fault Refusal :=
  request .recipePut w (ownRecipePut number defined components) s

/-- RECIPE-READ (R99). -/
def ownRecipeRead (number : Nat) (s : State) : State × Reply :=
  match recipeIndex? number with
  | some i => reply .ok (.recipe s.recipes[i]) s
  | none => refuse .badArgument s

def execRecipeRead (w : Win) (number : Nat) (s : State) : Host.Outcome State Fault Refusal :=
  request .recipeRead w (ownRecipeRead number) s

/-! ### Binding (R100, R101) -/

/-- The lowest-numbered IDLE injector of an arm with an additive code (R100). -/
def State.findInjector (a : Fin 4) (additive : Nat) (s : State) : Option (Fin 8) :=
  eights.find? fun j =>
    s.injectors[j].assign.arm == some a && s.injectors[j].assign.additive == additive && s.injectors[j].state == .idle

/-- The components of a line's recipe (R100); recipe 0 has none. -/
def State.recipeComponents (n : Nat) (s : State) : List Component :=
  match recipeIndex? n with
  | none => []
  | some i => s.recipes[i].components

/-- A component result as a binding creates it (R100). -/
def ComponentResult.initial (position recipe : Nat) (c : Component) (j : Option (Fin 8)) (v : Option Nat) :
    ComponentResult :=
  { position, recipe, component := c, injector := j, stroke := v, index := 0, confirmed := 0, missed := 0, skipped := 0,
    delivered := 0, expected := none, deviation := none, judgement := .pending, markSkipped := j.isNone,
    markOut := false }

/-- The injector takes a binding and is ARMED (R100). -/
def Injector.arm (n position : Nat) (x : Injector) : Injector :=
  { x with state := .armed, binding := some { compartment := n, position }, owed := 0 }

/-- The components of a recipe are bound, from position `p` on (R100). -/
def State.bindFrom (n : Nat) (a : Fin 4) (recipe : Nat) : Nat → List Component → State → State
  | _, [], s => s
  | p, c :: rest, s =>
    let j := s.findInjector a c.additive
    let r := ComponentResult.initial p recipe c j (j.map fun j => s.cal.stroke[j])
    let s1 := s.modifyComp n fun x => { x with additives := x.additives ++ [r] }
    State.bindFrom n a recipe (p + 1) rest
      (match j with
       | none => s1
       | some j => s1.modifyInjector j (Injector.arm n p))

/-- Whether a mandatory component keeps a compartment from starting: at the first start one that finds no injector
(R100), at a later start one whose injector is in FAULT (R101). -/
def State.lacksInjector (c : CompRecord) (s : State) : Bool :=
  if c.state = .pending then
    (s.recipeComponents c.line.recipe).any fun x => x.mandatory && (s.findInjector c.line.arm x.additive).isNone
  else
    c.additives.any fun r => r.component.mandatory && r.injector.any fun j => s.injectors[j].state == .fault

/-! ### Strokes -/

/-- A stroke starts (R105). -/
def Injector.startStroke (x : Injector) : Injector :=
  { x with output := true, state := .stroking, timer := some x.assign.timeout }

/-- One due point of the component bound to an injector (R104). -/
def State.duePoint (j : Fin 8) (s : State) : State :=
  match s.injectors[j].state with
  | .armed => s.modifyInjector j Injector.startStroke
  | .stroking =>
    if s.injectors[j].owed < 3 then s.modifyInjector j fun x => { x with owed := x.owed + 1 }
    else s.modifyBound j fun r => { r with skipped := r.skipped + 1 }
  | .fault => s.modifyBound j fun r => { r with skipped := r.skipped + 1 }
  | .idle | .disabled => s

/-- Several due points, in the order in which they became due (R104). -/
def State.duePoints (j : Fin 8) : Nat → State → State
  | 0, s => s
  | d + 1, s => State.duePoints j d (s.duePoint j)

/-- How many stroke points of volume `v` at ratio `r` lie at or below a gross (R102, R103): P_k ≤ g holds exactly for
the k below this number (Certificates: StrokePointsReached). -/
def pointsReached (v r g : Nat) : Nat := (((g + 1) * (2 * r) - 1) / (v * 1000) + 1) / 2

/-- The points of one component that a gate makes due (R103). -/
def State.dueResult (n : Nat) (gross : Nat) (r : ComponentResult) (s : State) : State :=
  match r.injector, r.stroke with
  | some j, some v =>
    let reached := pointsReached v r.component.ratio gross
    if r.index < reached then
      State.duePoints j (reached - r.index)
        (s.modifyResult { compartment := n, position := r.position } fun x => { x with index := reached })
    else s
  | _, _ => s

/-- The gate's stroke points, while the arm of the compartment is flowing (R103). -/
def State.strokesDue (a : Fin 4) (n : Nat) (s : State) : State :=
  if s.arms[a].state.isFlowing then
    match s.comp? n with
    | none => s
    | some c => c.additives.foldl (fun s r => s.dueResult n c.gross r) s
  else s

/-- The arm of the compartment an injector is bound to is LOW, FULL or SLOWDOWN for it (R105, R108). -/
def State.boundArmFlows (j : Fin 8) (s : State) : Bool :=
  match s.injectors[j].binding with
  | none => false
  | some b =>
    match s.comp? b.compartment with
    | none => false
    | some c => s.arms[c.line.arm].state.isFlowing && s.arms[c.line.arm].served == some b.compartment

/-- After a stroke ends: an owed stroke starts, or the injector is ARMED (R108). -/
def State.strokeEnded (j : Fin 8) (s : State) : State :=
  if 0 < s.injectors[j].owed ∧ s.boundArmFlows j then
    s.modifyInjector j fun x => { x.startStroke with owed := x.owed - 1 }
  else s.modifyInjector j fun x => { x with state := .armed }

/-- A stroke is confirmed (R106). -/
def State.confirmStroke (j : Fin 8) (s : State) : State :=
  let v := s.cal.stroke[j]
  ((s.modifyBound j fun r => { r with confirmed := r.confirmed + 1, delivered := r.delivered + v }).modifyInjector j
    fun x => { x with output := false, timer := none, total := satAdd (2 ^ 64 - 1) x.total v, consecutive := 0 }).strokeEnded
    j

/-- INJECTOR_FEEDBACK: the feedback input changes; an off-to-on change during a stroke confirms it (R106). -/
def State.injectorFeedback (j : Fin 8) (on : Bool) (s : State) : State :=
  let x := s.injectors[j]
  let s' := s.modifyInjector j fun x => { x with feedback := on }
  if on && !x.feedback && x.state == .stroking && x.timer.isSome then s'.confirmStroke j else s'

def execInjectorFeedback (j : Fin 8) (on : Bool) (s : State) : Host.Outcome State Fault Refusal :=
  match s.phase with
  | .held => .next s
  | .startUp | .running | .powerDown => .next (s.injectorFeedback j on).startWrite

/-- The effect of an injector fault on its component's compartment (R109). -/
def State.faultComponent (b : Binding) (s : State) : State :=
  match (s.comp? b.compartment).bind fun c => c.additives.find? fun r => r.position == b.position with
  | none => s
  | some r =>
    if r.component.mandatory then s.driveClose b.compartment (.halt .additive)
    else s.modifyResult b fun r => { r with markOut := true }

/-- The third consecutive miss puts the injector in FAULT (R109). -/
def State.injectorFault (j : Fin 8) (s : State) : State :=
  let s1 := (s.discardOwed j).modifyInjector j fun x => { x with state := .fault }
  match s.injectors[j].binding with
  | none => s1
  | some b => (s1.post .injectorFault .injector j.val (w32 b.compartment)).faultComponent b

/-- A stroke is missed (R107). -/
def State.missStroke (j : Fin 8) (s : State) : State :=
  let s1 := (s.modifyBound j fun r => { r with missed := r.missed + 1 }).modifyInjector j fun x =>
    { x with output := false, timer := none, consecutive := x.consecutive + 1 }
  if 3 ≤ s1.injectors[j].consecutive then s1.injectorFault j else s1.strokeEnded j

/-- FEEDBACK_TIMER_EXPIRY (R107): it concerns an injector that is STROKING with its timer run out. A feedback taken first
has cancelled the timer, and an owed stroke that it started has its own whole time (R108). -/
def execFeedbackTimerExpiry (j : Fin 8) (s : State) : Host.Outcome State Fault Refusal :=
  if s.timersRun ∧ s.injectors[j].state = .stroking ∧ s.injectors[j].timer = some 0 then
    .next (s.missStroke j).startWrite
  else .next s

/-- An injector is bound to a compartment of the load that is not DONE (R110). -/
def State.boundLive (j : Fin 8) (s : State) : Bool :=
  match s.injectors[j].binding with
  | none => false
  | some b => (s.comp? b.compartment).any fun c => c.state != .done

/-- INJECTOR-RESET (R110). -/
def ownInjectorReset (injector : Nat) (s : State) : State × Reply :=
  match eight? injector with
  | none => refuse .badArgument s
  | some j =>
    if s.injectors[j].state ≠ .fault then refuse .state s
    else
      reply .ok .none
        (s.modifyInjector j fun x =>
          { x with
            consecutive := 0, owed := 0
            state := if s.boundLive j then .armed else .idle
            binding := if s.boundLive j then x.binding else none })

def execInjectorReset (w : Win) (injector : Nat) (s : State) : Host.Outcome State Fault Refusal :=
  request .injectorReset w (ownInjectorReset injector) s

end Sys2Proof.Machine
end

