-- ==== Sys2Proof/Machine/Arms.lean ====
section
/-! DEFINITION. The arm controllers (chapter 4): configuration, clearing and blocking, the work of a gate in each arm
state, the two arm timers, and the learned anticipation. -/

namespace Sys2Proof.Machine

/-! ### Requests -/

/-- The configuration that ARM-CONFIG gives, where table 4.1.1 admits it; volumes become millilitres (R69). -/
def ArmArg.config? (c : ArmArg) : Option ArmConfig :=
  if c.lowStart ≤ 500 ∧ c.slowdown ≤ 1000 ∧ c.maxAnt ≤ 200 ∧ c.ant ≤ c.maxAnt ∧ 2 ≤ c.closeTimeout
      ∧ c.closeTimeout ≤ 30 ∧ c.strayLimit ≤ 20 ∧ 10 ≤ c.progress ∧ c.progress ≤ 1000 then
    some
      { lowStart := c.lowStart * 1000, slowdown := c.slowdown * 1000, maxAnt := c.maxAnt * 1000,
        ant := c.ant * 1000, closeTimeout := c.closeTimeout, strayLimit := c.strayLimit * 1000,
        progress := c.progress * 1000 }
  else none

/-- ARM-CONFIG (R69). -/
def ownArmConfig (arm : Nat) (c : ArmArg) (s : State) : State × Reply :=
  match four? arm, ArmArg.config? c with
  | some a, some config =>
    if s.arms[a].state ≠ .idle then refuse .state s
    else if !s.hasPlace then refuse .busy s
    else reply .accepted .none ((s.modifyArm a fun x => { x with config }).enqueue (.arm a config false))
  | _, _ => refuse .badArgument s

def execArmConfig (w : Win) (arm : Nat) (c : ArmArg) (s : State) : Host.Outcome State Fault Refusal :=
  request .armConfig w (ownArmConfig arm c) s

/-- An arm that ARM-CLEAR cannot clear: neither IDLE nor FAULT, or in FAULT with its compartment in CLOSING (R86). -/
def State.notClearable (a : Fin 4) (s : State) : Bool :=
  match s.arms[a].state with
  | .idle => false
  | .fault =>
    match s.arms[a].served with
    | none => false
    | some n => (s.comp? n).any fun c => c.state == .closing
  | .priming | .low | .full | .slowdown | .closing => true

/-- The mask of the arms that a test picks. -/
def armsWhere (p : Fin 4 → Bool) : ArmMask :=
  BitVec.ofNat 8 ((p 0).toNat + 2 * (p 1).toNat + 4 * (p 2).toNat + 8 * (p 3).toNat)

/-- ARM-CLEAR at one arm (R86). -/
def Arm.cleared (x : Arm) : Arm :=
  match x.state with
  | .fault => { x with state := .idle, faultCause := none, stray := 0 }
  | .idle | .priming | .low | .full | .slowdown | .closing => { x with stray := 0 }

/-- Every arm of a mask changed. -/
def State.modifyArms (mask : ArmMask) (f : Arm → Arm) (s : State) : State :=
  { s with
    arms := #v[if maskHas mask 0 then f s.arms[0] else s.arms[0], if maskHas mask 1 then f s.arms[1] else s.arms[1],
      if maskHas mask 2 then f s.arms[2] else s.arms[2], if maskHas mask 3 then f s.arms[3] else s.arms[3]] }

/-- ARM-CLEAR (R86). A mask that names an arm other than A0 to A3 is out of range (assumption log 18). -/
def ownArmClear (mask : ArmMask) (s : State) : State × Reply :=
  if !maskInRange mask then refuse .badArgument s
  else if fours.any fun a => maskHas mask a && s.notClearable a then
    refuseWith .state (.arms (armsWhere fun a => maskHas mask a && s.notClearable a)) s
  else reply .ok .none (s.modifyArms mask Arm.cleared)

def execArmClear (w : Win) (mask : ArmMask) (s : State) : Host.Outcome State Fault Refusal :=
  request .armClear w (ownArmClear mask) s

/-- The blocked flags of the four arms (R70). -/
def State.blockFlags (s : State) : Vector Bool 4 :=
  #v[s.arms[0].blocked, s.arms[1].blocked, s.arms[2].blocked, s.arms[3].blocked]

/-- ARM-BLOCK and ARM-UNBLOCK (R87). -/
def State.setBlocked (mask : ArmMask) (blocked : Bool) (s : State) : State × Reply :=
  if !maskInRange mask then refuse .badArgument s
  else if !s.hasPlace then refuse .busy s
  else
    let s' := s.modifyArms mask fun x => { x with blocked }
    reply .accepted .none (s'.enqueue (.block s'.blockFlags))

def ownArmBlock (mask : ArmMask) (s : State) : State × Reply := s.setBlocked mask true

def execArmBlock (w : Win) (mask : ArmMask) (s : State) : Host.Outcome State Fault Refusal :=
  request .armBlock w (ownArmBlock mask) s

def ownArmUnblock (mask : ArmMask) (s : State) : State × Reply := s.setBlocked mask false

def execArmUnblock (w : Win) (mask : ArmMask) (s : State) : Host.Outcome State Fault Refusal :=
  request .armUnblock w (ownArmUnblock mask) s

/-! ### Taking a compartment (R73) -/

/-- What the arm's own record holds once it takes a compartment (R73). -/
def Arm.taking (n : Nat) (x : Arm) : Arm :=
  { x with
    served := some n, state := .priming, valve := .closed, settleTimer := none, closeTimer := none, zeroRun := 0
    learnable := false, faultDuringClose := false, hold := false }

/-- The arm controller takes a compartment that is in STARTING (R73). A pump in RUN_ON is RUNNING, and a STOPPED one
STARTING, by the rise of the demand (R90), which also starts the settle timer of an arm whose pump comes to run. -/
def State.armTakes (a : Fin 4) (n : Nat) (pump : Option (Fin 4)) (s : State) : State :=
  let s1 := s.modifyArm a (Arm.taking n)
  match pump with
  | none => s1.recount.startSettle a 0
  | some p =>
    let s2 := s1.recount
    match s.pumps[p].state with
    | .running => s2.startSettle a s.pumps[p].config.settle
    | .failed => s2.driveClose n (.halt .pump)
    | .stopped | .starting | .runOn => s2

/-! ### Closing -/

/-- The closing totalizers taken as the compartment leaves CLOSING (R13). -/
def CompRecord.closedAt (r : Readings) (c : CompRecord) : CompRecord := { c with closing := some r }

/-- A compartment leaves CLOSING by confirmed no-flow: DONE for PRESET and AMEND, HALTED with its cause otherwise (R14,
R81). A close reason that is absent belongs to no compartment in CLOSING; it is treated as PRESET (assumption log 17). -/
def State.endClose (a : Fin 4) (c : CompRecord) (s : State) : State :=
  match c.closeReason with
  | some (.halt cause) => s.compHalted c.line.compartment cause (CompRecord.closedAt (s.readings a))
  | some .preset | some .amend | none => s.compDone c.line.compartment (CompRecord.closedAt (s.readings a))

/-- The volume left to the preset, negative once past it (R75). -/
def CompRecord.remaining (c : CompRecord) : Int := (c.line.preset * 1000 : Nat) - (c.delivered : Int)

/-- The anticipation learned from a stop: a quarter of the overrun, truncated, added and clamped (R83). -/
def learnedAnt (ant maxAnt : Nat) (overrun : Int) : Nat := (clampInt 0 maxAnt (ant + overrun.tdiv 4)).toNat

/-- Learning at a DONE by no-flow confirmation (R83). -/
def State.learn (a : Fin 4) (c : CompRecord) (s : State) : State :=
  if c.closeReason = some .preset ∧ s.arms[a].learnable ∧ !s.arms[a].faultDuringClose then
    (s.modifyArm a fun x =>
      { x with config := { x.config with ant := learnedAnt x.config.ant x.config.maxAnt (-c.remaining) } }).queueLearned
      a
  else s

/-- The arm drops its compartment: to IDLE, or still in FAULT (R81). -/
def Arm.released (x : Arm) : Arm :=
  { x with served := none, closeTimer := none, zeroRun := 0, state := if x.state = .fault then .fault else .idle }

/-- No-flow is confirmed on an arm (R81). -/
def State.noFlowConfirmed (a : Fin 4) (s : State) : State :=
  match s.arms[a].served.bind fun n => s.comp? n with
  | none => s
  | some c => ((((s.endClose a c).learn a c).modifyArm a Arm.released).recount).closeIfDone

/-- The no-flow count of one gate (R81). -/
def State.noFlowCount (a : Fin 4) (pulses : Nat) (s : State) : State :=
  if pulses = 0 then
    let s' := s.modifyArm a fun x => { x with zeroRun := x.zeroRun + 1 }
    if 3 ≤ s'.arms[a].zeroRun then s'.noFlowConfirmed a else s'
  else s.modifyArm a fun x => { x with zeroRun := 0 }

/-- A compartment leaves CLOSING by a leak: DONE with VALVE_LEAK, and with SHORT and its halt cause where its close
reason was one (R82). -/
def CompRecord.leaked (r : Readings) (c : CompRecord) : CompRecord :=
  let c' := { c.closedAt r with flags := { c.flags with valveLeak := true } }
  match c.closeReason with
  | some (.halt cause) => { c'.short with haltCause := some cause }
  | some .preset | some .amend | none => c'

/-- The arm after a leak (R82). An arm that was not in FAULT enters it while its compartment is in CLOSING, so its mark
`fault during close` is set; one already in FAULT keeps its fault cause and mark (R84, section 4.2.1). -/
def Arm.leaked (x : Arm) : Arm :=
  { x with
    served := none, closeTimer := none, zeroRun := 0, state := .fault
    faultCause := if x.state = .fault then x.faultCause else some .valveLeak
    faultDuringClose := if x.state = .fault then x.faultDuringClose else true }

/-- The close timer expires before no-flow is confirmed (R82). -/
def State.closeExpired (a : Fin 4) (n : Nat) (s : State) : State :=
  ((((s.post .valveLeak .arm a.val (w32 n)).compDone n (CompRecord.leaked (s.readings a))).modifyArm a
    Arm.leaked).recount).closeIfDone

/-- The compartment whose close timer has run out on an arm: the one it serves, in CLOSING or in FAULT (section 4.2.1). -/
def Arm.closingFor (x : Arm) : Option Nat :=
  if x.closeTimer = some 0 ∧ (x.state = .closing ∨ x.state = .fault) then x.served else none

/-- CLOSE_TIMER_EXPIRY (R82): it concerns an arm whose close timer has run out for a compartment it serves. -/
def execCloseTimerExpiry (a : Fin 4) (s : State) : Host.Outcome State Fault Refusal :=
  match s.arms[a].closingFor with
  | some n => if s.timersRun then .next (s.closeExpired a n).startWrite else .next s
  | none => .next s

/-- SETTLE_TIMER_EXPIRY (R74): it concerns an arm in PRIMING whose settle timer has run out. -/
def execSettleTimerExpiry (a : Fin 4) (s : State) : Host.Outcome State Fault Refusal :=
  if s.timersRun ∧ s.arms[a].settleTimer = some 0 then .next (s.settleExpired a).startWrite else .next s

/-! ### The gate (R75) -/

/-- The volume of a gate in the basis of a compartment's line (R78). -/
def CompRecord.gateVolume (g : GateFigures) (c : CompRecord) : Nat :=
  match c.line.basis with
  | .gross => g.gross
  | .net => g.net

/-- The valve closes at the anticipation point (R78). -/
def State.presetClose (a : Fin 4) (c : CompRecord) (g : GateFigures) (s : State) : State :=
  let ant := s.arms[a].config.ant
  ((s.modifyComp c.line.compartment fun c => { c with antUsed := some ant }).driveClose c.line.compartment
    .preset).modifyArm a fun x => { x with learnable := decide ((ant : Int) < c.remaining + (c.gateVolume g : Int)) }

/-- An arm moves to a stage and its compartment with it (R76, R77). -/
def State.stageArm (a : Fin 4) (n : Nat) (st : ArmState) (v : Valve) (hold : Bool) (cs : CompState) (s : State) : State :=
  ((s.modifyArm a fun x => { x with state := st, valve := v, hold }).modifyComp n fun c =>
    { c with state := cs }).compChanged n

/-- The low-start volume has passed (R76). -/
def State.leaveLow (a : Fin 4) (c : CompRecord) (s : State) : State :=
  let n := c.line.compartment
  if c.remaining ≤ (s.arms[a].config.slowdown : Int) then s.stageArm a n .slowdown .low false .slowdown
  else if s.safety.stage = .warning then s.stageArm a n .full .low true .full
  else s.stageArm a n .full .full false .full

/-- The preset comparisons of a gate in LOW, FULL and SLOWDOWN: the close check, then the low-start check, or the
slowdown check and the release of the hold (R76, R77, R79). -/
def State.compare (a : Fin 4) (c : CompRecord) (g : GateFigures) (s : State) : State :=
  if c.remaining ≤ (s.arms[a].config.ant : Int) then s.presetClose a c g
  else match s.arms[a].state with
    | .low => if s.arms[a].config.lowStart ≤ c.gross then s.leaveLow a c else s
    | .full =>
      if c.remaining ≤ (s.arms[a].config.slowdown : Int) then
        s.stageArm a c.line.compartment .slowdown .low false .slowdown
      else if s.arms[a].hold then s
      else s.modifyArm a fun x => { x with valve := .full }
    | .idle | .priming | .slowdown | .closing | .fault => s

/-- The work of an arm with a gate routed to the compartment it serves (R75). -/
def State.armGate (a : Fin 4) (n : Nat) (pulses : Nat) (g : GateFigures) (s : State) : State :=
  match s.comp? n with
  | none => s
  | some c =>
    match s.arms[a].state with
    | .low | .full | .slowdown => s.compare a c g
    | .closing | .fault => s.noFlowCount a pulses
    | .idle | .priming => s

/-- The stray limit check of a gate routed to stray volume (R85). -/
def State.strayCheck (a : Fin 4) (s : State) : State :=
  if s.arms[a].config.strayLimit < s.arms[a].stray ∧ s.arms[a].state = .idle then
    (s.armFault a .strayFlow).post .strayFlow .arm a.val (w32 s.arms[a].stray)
  else s

end Sys2Proof.Machine
end

