-- ==== Sys2Proof/Machine/Pumps.lean ====
section
/-! DEFINITION. The pump controller (section 4.7): configuration and reset, the feedback input and the two timers. -/

namespace Sys2Proof.Machine

/-- The configuration that PUMP-CONFIG gives, where table 4.7.1 admits it (R88). -/
def PumpArg.config? (c : PumpArg) : Option PumpConfig :=
  if 1 ≤ c.startTimeout ∧ c.startTimeout ≤ 60 ∧ c.settle ≤ 10 ∧ c.runOn ≤ 120 then
    some { startTimeout := c.startTimeout, settle := c.settle, runOn := c.runOn }
  else none

/-- PUMP-CONFIG (R88). -/
def ownPumpConfig (pump : Nat) (c : PumpArg) (s : State) : State × Reply :=
  match four? pump, PumpArg.config? c with
  | some p, some config =>
    if (s.pumps[p].state ≠ .stopped ∧ s.pumps[p].state ≠ .failed) ∨ 0 < s.pumps[p].demand then refuse .state s
    else if !s.hasPlace then refuse .busy s
    else reply .accepted .none ((s.modifyPump p fun x => { x with config }).enqueue (.pump p config))
  | _, _ => refuse .badArgument s

def execPumpConfig (w : Win) (pump : Nat) (c : PumpArg) (s : State) : Host.Outcome State Fault Refusal :=
  request .pumpConfig w (ownPumpConfig pump c) s

/-- PUMP-RESET (R93). -/
def ownPumpReset (pump : Nat) (s : State) : State × Reply :=
  match four? pump with
  | none => refuse .badArgument s
  | some p =>
    if s.pumps[p].state ≠ .failed ∨ 0 < s.pumps[p].demand then refuse .state s
    else reply .ok .none (s.modifyPump p fun x => { x with state := .stopped, failKind := none })

def execPumpReset (w : Win) (pump : Nat) (s : State) : Host.Outcome State Fault Refusal :=
  request .pumpReset w (ownPumpReset pump) s

/-- The filtered feedback of a pump takes a level: on in STARTING the pump runs (R90), off in RUNNING or RUN_ON it fails
(R92), and in STOPPED or FAILED it changes no state (R91). -/
def State.pumpFeedback (p : Fin 4) (on : Bool) (s : State) : State :=
  let s' := s.modifyPump p fun x => { x with feedback := on }
  match s.pumps[p].state, on with
  | .starting, true => s'.pumpRunning p
  | .running, false => s'.failPump p .lost
  | .runOn, false => s'.failPump p .lost
  | .stopped, _ => s'
  | .failed, _ => s'
  | .starting, false => s'
  | .running, true => s'
  | .runOn, true => s'

/-- PUMP_FEEDBACK (R90 to R92). In POWER_DOWN the feedback is no longer examined (R95), and a part that is held examines
no input (R189). -/
def execPumpFeedback (p : Fin 4) (on : Bool) (s : State) : Host.Outcome State Fault Refusal :=
  match s.phase with
  | .held | .powerDown => .next s
  | .startUp | .running => .next (s.pumpFeedback p on).startWrite

/-- START_TIMER_EXPIRY (R90): it concerns a pump in STARTING whose start timer has run out. -/
def execStartTimerExpiry (p : Fin 4) (s : State) : Host.Outcome State Fault Refusal :=
  if s.timersRun ∧ s.pumps[p].state = .starting ∧ s.pumps[p].timer = some 0 then
    .next (s.failPump p .start).startWrite
  else .next s

/-- RUN_ON_TIMER_EXPIRY (R91): it concerns a pump in RUN_ON whose run-on timer has run out. -/
def execRunOnTimerExpiry (p : Fin 4) (s : State) : Host.Outcome State Fault Refusal :=
  if s.timersRun ∧ s.pumps[p].state = .runOn ∧ s.pumps[p].timer = some 0 then
    .next (s.modifyPump p Pump.stop).startWrite
  else .next s

end Sys2Proof.Machine
end

