-- ==== Sys2Proof/Machine/Metering.lean ====
section
/-! DEFINITION. Metering (chapter 3): the quadrature decoder, the work of a gate, the temperature scanner, and the requests
that read totals and errors and clear a debt (section 7.1). -/

namespace Sys2Proof.Machine

def State.modifyMeter (m : Fin 4) (f : Meter → Meter) (s : State) : State :=
  { s with meters := s.meters.set m (f s.meters[m]) }

def State.modifyProbe (n : Fin 4) (f : Probe → Probe) (s : State) : State :=
  { s with probes := s.probes.set n (f s.probes[n]) }

/-! ### The quadrature decoder (R42, R43) -/

/-- The position after one input of the pair has changed: 0 is both low, 1 A high, 2 both high, 3 B high (R42). -/
def stepped (input : PulseInput) (position : Fin 4) : Fin 4 :=
  match input, position with
  | .chA, 0 => 1
  | .chA, 1 => 0
  | .chA, 2 => 3
  | .chA, 3 => 2
  | .chB, 0 => 3
  | .chB, 1 => 2
  | .chB, 2 => 1
  | .chB, 3 => 0

/-- A pulse or error count of a gate, which saturates at 4095 (section 3.1.1). -/
def countUp (x : Nat) : Nat := satAdd 4095 x 1

/-- One step of the decoder (R42). -/
def Meter.quadrature (input : PulseInput) (x : Meter) : Meter :=
  let p := stepped input x.position
  { x with
    position := p
    forward := if x.position = 3 ∧ p = 0 then countUp x.forward else x.forward
    backward := if x.position = 0 ∧ p = 3 then countUp x.backward else x.backward }

/-- A sample in which both inputs changed (R43). -/
def Meter.integrity (x : Meter) : Meter :=
  { x with
    position := x.position + 2, errors := countUp x.errors, errorCounter := satAdd 65535 x.errorCounter 1 }

/-- The decoder of a meter acts: it runs from start-up until the power-fail save (R42, R44). -/
def State.decode (m : Fin 4) (f : Meter → Meter) (s : State) : State :=
  if s.phase = .held then s
  else if s.meters[m].decoding then s.modifyMeter m f
  else s

/-- QUADRATURE_STEP (R42). -/
def execQuadratureStep (m : Fin 4) (input : PulseInput) (s : State) : Host.Outcome State Fault Refusal :=
  .next (s.decode m (Meter.quadrature input))

/-- INTEGRITY_ERROR (R43). -/
def execIntegrityError (m : Fin 4) (s : State) : Host.Outcome State Fault Refusal :=
  .next (s.decode m Meter.integrity)

/-! ### The arithmetic of a gate (R45 to R54) -/

/-- The gate fails on its integrity errors (R45). -/
def gateFails (forward backward errors : Nat) : Bool := 10 ≤ errors && forward + backward < errors * 100

/-- The debt once the gate's backward pulses are added (R46). -/
def debtAfterB (debt backward : Nat) : Nat := satAdd 4095 debt backward

/-- The flow rate of a gate (R49). -/
def flowRate (indicated : Nat) : Nat := min (indicated * 6) 60000

/-- The factor at `q` from the point (q0, f0), at or below `q`, and the points after it (R50). -/
def factorFrom (q : Nat) : Nat × Nat → List (Nat × Nat) → Nat
  | p, [] => p.2
  | p, r :: rest =>
    if q < r.1 then ((p.2 : Int) + (((r.2 : Int) - p.2) * ((q : Int) - p.1)).tdiv ((r.1 : Int) - p.1)).toNat
    else factorFrom q r rest

/-- The meter factor of a curve at a flow rate (R50). -/
def Curve.factor (q : Nat) (c : Curve) : Nat := if q < c.first.1 then c.first.2 else factorFrom q c.first c.rest

/-- The temperature of a gate (R52). -/
def gateTemp (held offset : Int) : Int := clampInt (-4000) 8000 (held + offset)

/-- The volume correction factor in parts per million (R53). -/
def correction (alpha : Nat) (temp : Int) : Nat :=
  let x : Int := alpha * (temp - 1500)
  let nine : Int := 1000000000 - x - (4 * x * x) / 5000000000
  ((nine + 500) / 1000).toNat

/-- The figures of steps 3 to 6 and 8 with the remainders they leave: from the net pulse count, the meter constant, curve
and remainders, and the gate's temperature and coefficient (R48 to R54). -/
def Meter.gateFigures (n k : Nat) (c : Curve) (temp : Int) (alpha : Nat) (x : Meter) : GateFigures × Nat × Nat × Nat :=
  let big := n * 1000000 + x.remI
  let indicated := big / k
  let flow := flowRate indicated
  let factor := c.factor flow
  let g := indicated * factor + x.remG
  let gross := g / 100000
  let vcf := correction alpha temp
  let nn := gross * vcf + x.remN
  let net := nn / 1000000
  ({ pulses := n, indicated, flow, factor, temp, vcf, gross, net },
    big - indicated * k, g - gross * 100000, nn - net * 1000000)

/-- The compartment to which a gate of a meter is routed, if any: the compartment that the arm serves, while it is active
(R56). -/
def State.routed (a : Fin 4) (s : State) : Option CompRecord :=
  match s.arms[a].served.bind fun n => s.comp? n with
  | none => none
  | some c => if c.state.isActive then some c else none

/-! ### The steps of a gate (section 3.3.1) -/

/-- Step 1: the integrity judgement (R45). -/
def State.judgeGate (m : Fin 4) (forward backward errors : Nat) (s : State) : State :=
  if gateFails forward backward errors ∧ s.arms[m].state ≠ .fault then
    (s.post .pulseFault .arm m.val (w32 errors)).armFault m .pulseFault
  else s

/-- Step 2: the reverse debt rises and is repaid, and the limit is judged (R46, R47). -/
def State.repay (m : Fin 4) (forward backward : Nat) (s : State) : State :=
  let before := s.meters[m].debt
  let debt := debtAfterB before backward
  let s' := s.modifyMeter m fun x => { x with debt := debt - min debt forward }
  if debt = 4095 ∧ before < 4095 then (s'.post .reverseLimit .arm m.val (w32 4095)).armFault m .reverseLimit else s'

/-- Step 7: a probe in temperature fault drives a NET-basis compartment to close (R64). In POWER_DOWN the arm controller
takes no action (R72). -/
def State.tempDrive (m : Fin 4) (s : State) : State :=
  if s.phase = .powerDown ∨ s.probes[m].invalidRun < 10 then s
  else match s.routed m with
    | none => s
    | some c => if c.line.basis = .net then s.driveClose c.line.compartment (.halt .temp) else s

/-- Step 9: totalizers, remainders and last gate figures (R55). -/
def Meter.gated (g : GateFigures × Nat × Nat × Nat) (x : Meter) : Meter :=
  { x with
    gross := satAdd (2 ^ 64 - 1) x.gross g.1.gross, net := satAdd (2 ^ 64 - 1) x.net g.1.net
    remI := g.2.1, remG := g.2.2.1, remN := g.2.2.2, last := some g.1 }

/-- Step 10 at a compartment (R57); `reverse` is whether the debt stood above 0 after B was added (R46). -/
def CompRecord.gated (g : GateFigures) (reverse : Bool) (invalidRun : Nat) (c : CompRecord) : CompRecord :=
  { c with
    gross := satAdd (2 ^ 32 - 1) c.gross g.gross, net := satAdd (2 ^ 32 - 1) c.net g.net
    sumGT := c.sumGT + g.gross * g.temp, sumG := c.sumG + g.gross, maxFlow := max c.maxFlow g.flow
    flags :=
      { c.flags with
        reverseFlow := c.flags.reverseFlow || reverse
        tempHeld := c.flags.tempHeld || (0 < g.gross && 0 < invalidRun)
        tempFault := c.flags.tempFault || (0 < g.gross && 10 ≤ invalidRun) } }

/-- Step 11 at a compartment: stroke points, preset comparisons, and the progress crossing (R59, R60). In POWER_DOWN the
injector unit and the arm controller take no action (R72, R114). -/
def State.followGate (m : Fin 4) (n forward before : Nat) (g : GateFigures) (s : State) : State :=
  let after := ((s.comp? n).map CompRecord.gross).getD before
  let step := s.arms[m].config.progress
  let s' := if s.phase = .powerDown then s else (s.strokesDue m n).armGate m n forward g
  if before / step < after / step then s'.post .progress .compartment n (w32 after) else s'

/-- Steps 10 and 11 for either destination (R56 to R60). -/
def State.route (m : Fin 4) (dest : Option CompRecord) (forward : Nat) (reverse : Bool) (g : GateFigures) (s : State) :
    State :=
  match dest with
  | some c =>
    (s.modifyComp c.line.compartment (CompRecord.gated g reverse s.probes[m].invalidRun)).followGate m
      c.line.compartment forward c.gross g
  | none =>
    let s' := s.modifyArm m fun x => { x with stray := satAdd (2 ^ 32 - 1) x.stray g.gross }
    if s.phase = .powerDown then s' else s'.strayCheck m

/-- Step 12: the checkpoint crossing of the gross totalizer (R61). -/
def State.crossing (m : Fin 4) (before : Nat) (s : State) : State :=
  if before / 500000 < s.meters[m].gross / 500000 then s.callCheckpoint else s

/-- The coefficient at the destination of a gate (R52). -/
def State.alphaOf (dest : Option CompRecord) (s : State) : Nat :=
  match dest with
  | none => 0
  | some c => s.products[c.line.product].alpha

/-- The work of one gate expiry (R44, section 3.3.1). -/
def State.gate (m : Fin 4) (s : State) : State :=
  let x := s.meters[m]
  let debt := debtAfterB x.debt x.backward
  let s1 := s.modifyMeter m fun x => { x with forward := 0, backward := 0, errors := 0, gateTimer := some 100 }
  let s2 := (((s1.judgeGate m x.forward x.backward x.errors).repay m x.forward x.backward).tempDrive m)
  let dest := s2.routed m
  let g := x.gateFigures (x.forward - min debt x.forward) s2.cal.meterK[m] s2.cal.curve[m]
    (gateTemp s2.probes[m].held s2.cal.offset[m]) (s2.alphaOf dest)
  ((s2.modifyMeter m (Meter.gated g)).route m dest x.forward (decide (0 < debt)) g.1).crossing m x.gross

/-- GATE_EXPIRY (R44): it concerns a channel whose gate timer has run out. -/
def execGateExpiry (m : Fin 4) (s : State) : Host.Outcome State Fault Refusal :=
  if s.timersRun ∧ s.meters[m].gateTimer = some 0 then .next (s.gate m).startWrite else .next s

/-! ### The temperature scanner (R62 to R64, R187) -/

/-- The TCS output: asserted in the last 10 ms of a poll slot, while the answer is clocked in, and released otherwise
(R187, R189). The pulse at the start of a slot, in which the request byte goes out, is shorter than a millisecond and lies
inside the command that begins the slot (assumption log 26). -/
def Scanner.tcs (x : Scanner) : Bool := x.slotTimer.any fun k => k ≤ 10

/-- The request byte of a channel on TMO (R187). -/
def pollRequest (channel : Fin 4) : Byte := BitVec.ofNat 8 channel.val

/-- The reading of an answer: the signed 16-bit number of its two middle bytes (R187). -/
def answerReading (r : ConverterAnswer) : Int := (r.tempHigh ++ r.tempLow : BitVec 16).toInt

/-- The check byte of an answer: the complement of the modulo-256 sum of the three bytes before it (R187). -/
def expectedCheck (r : ConverterAnswer) : Byte := ~~~(r.status + r.tempHigh + r.tempLow)

/-- The sample of a slot, valid with its reading, or invalid (R62, R187). -/
def answerSample? (channel : Fin 4) (r : ConverterAnswer) : Option Int :=
  if r.status.getLsbD 7 ∧ r.check = expectedCheck r ∧ (r.status &&& 3#8).toNat = channel.val ∧ r.status.getLsbD 6 then
    some (answerReading r)
  else none

/-- A sample updates its probe (R63). -/
def Probe.sampled (sample : Option Int) (x : Probe) : Probe :=
  match sample with
  | some reading => { held := reading, invalidRun := 0 }
  | none => { x with invalidRun := satAdd 255 x.invalidRun 1 }

/-- The end of a poll slot and the start of the next (R62 to R64, R187). -/
def State.poll (answer : ConverterAnswer) (s : State) : State :=
  let n := s.scanner.channel
  let sample := answerSample? n answer
  let s' := s.modifyProbe n (Probe.sampled sample)
  let s'' := if sample.isNone ∧ s.probes[n].invalidRun = 9 then
      s'.post .tempFault .arm n.val (BitVec.ofInt 32 s.probes[n].held)
    else s'
  { s'' with scanner := { channel := n + 1, request := pollRequest (n + 1), slotTimer := some 250 } }

/-- POLL_SLOT: it concerns a scanner whose slot, run from START on, is at its end (R62, R186). -/
def execPollSlot (answer : ConverterAnswer) (s : State) : Host.Outcome State Fault Refusal :=
  if s.timersRun ∧ s.scanner.slotTimer = some 0 then .next (s.poll answer) else .next s

/-! ### Requests of section 7.1 and 7.3 -/

/-- TOTALS-READ (R135). -/
def ownTotalsRead (object : TotalsObject) (s : State) : State × Reply :=
  match object with
  | .meter n =>
    match four? n with
    | none => refuse .badArgument s
    | some m =>
      reply .ok (.meterTotals s.meters[m].gross s.meters[m].net s.meters[m].last s.meters[m].debt s.cal.cec s.sealState)
        s
  | .injector n =>
    match eight? n with
    | none => refuse .badArgument s
    | some j => reply .ok (.injectorTotals s.injectors[j].total s.cal.stroke[j] s.cal.cec s.sealState) s
  | .other => refuse .badArgument s

def execTotalsRead (w : Win) (object : TotalsObject) (s : State) : Host.Outcome State Fault Refusal :=
  request .totalsRead w (ownTotalsRead object) s

/-- METER-ERRORS (R139). -/
def ownMeterErrors (meter : Nat) (s : State) : State × Reply :=
  match four? meter with
  | none => refuse .badArgument s
  | some m =>
    reply .ok (.meterErrors s.meters[m].errorCounter) (s.modifyMeter m fun x => { x with errorCounter := 0 })

def execMeterErrors (w : Win) (meter : Nat) (s : State) : Host.Outcome State Fault Refusal :=
  request .meterErrors w (ownMeterErrors meter) s

/-- METER-CLEAR-DEBT (R140). -/
def ownMeterClearDebt (meter : Nat) (s : State) : State × Reply :=
  match four? meter with
  | none => refuse .badArgument s
  | some m =>
    if s.arms[m].state ≠ .idle then refuse .state s
    else reply .ok (.debt s.meters[m].debt) (s.modifyMeter m fun x => { x with debt := 0 })

def execMeterClearDebt (w : Win) (meter : Nat) (s : State) : Host.Outcome State Fault Refusal :=
  request .meterClearDebt w (ownMeterClearDebt meter) s

end Sys2Proof.Machine
end

