-- ==== Sys2Proof/Machine/Loads.lean ====
section
/-! DEFINITION. The requests on the open load (sections 1.4.3, 1.5 and 1.6): COMPARTMENT-START, COMPARTMENT-STOP,
LOAD-FINISH, LOAD-RESUME, LOAD-ABORT. -/

namespace Sys2Proof.Machine

/-- A line before the compartment's own, on the same arm, has a compartment that is not DONE (R15). -/
def earlierOpen (n : Nat) (a : Fin 4) : List CompRecord → Bool
  | [] => false
  | c :: rest =>
    if c.line.compartment = n then false else (c.line.arm == a && c.state != .done) || earlierOpen n a rest

/-- The compartment enters STARTING: close reason absent, opening totalizers taken if absent (R13). -/
def CompRecord.started (r : Readings) (c : CompRecord) : CompRecord :=
  { c with state := .starting, closeReason := none, opening := some (c.opening.getD r) }

/-- What an accepted COMPARTMENT-START does (R15, R73, R100). -/
def State.startComp (c : CompRecord) (s : State) : State :=
  let n := c.line.compartment
  let a := c.line.arm
  let s1 := if c.state = .pending then s.bindFrom n a c.line.recipe 1 (s.recipeComponents c.line.recipe) else s
  ((s1.modifyComp n (CompRecord.started (s.readings a))).compChanged n).armTakes a n s.products[c.line.product].pump

/-- COMPARTMENT-START (R15). -/
def ownCompartmentStart (n : Nat) (s : State) : State × Reply :=
  match s.load with
  | none => refuse .state s
  | some l =>
    if l.state = .closing then refuse .state s
    else match l.comp? n with
      | none => refuse .notFound s
      | some c =>
        if !l.causes.isEmpty then refuse .suspended s
        else if c.state ≠ .pending ∧ c.state ≠ .halted then refuse .state s
        else if s.arms[c.line.arm].blocked then refuse .blocked s
        else if s.arms[c.line.arm].state ≠ .idle then refuse .state s
        else if earlierOpen n c.line.arm l.comps then refuse .state s
        else if s.lacksInjector c then refuse .noInjector s
        else reply .ok .none (s.startComp c)

def execCompartmentStart (w : Win) (n : Nat) (s : State) : Host.Outcome State Fault Refusal :=
  request .compartmentStart w (ownCompartmentStart n) s

/-- COMPARTMENT-STOP (R16). -/
def ownCompartmentStop (n : Nat) (s : State) : State × Reply :=
  match s.load with
  | none => refuse .state s
  | some l =>
    if l.state = .closing then refuse .state s
    else match l.comp? n with
      | none => refuse .notFound s
      | some c =>
        if c.state.isDrivable then reply .ok .none (s.driveClose n (.halt .driver))
        else refuse .state s

def execCompartmentStop (w : Win) (n : Nat) (s : State) : Host.Outcome State Fault Refusal :=
  request .compartmentStop w (ownCompartmentStop n) s

/-- LOAD-FINISH (R17). -/
def ownLoadFinish (s : State) : State × Reply :=
  match s.load with
  | none => refuse .state s
  | some l =>
    if l.state = .closing ∨ l.comps.any (fun c => c.state.isActive) then refuse .state s
    else reply .accepted .none s.finishIdle.closeIfDone

def execLoadFinish (w : Win) (s : State) : Host.Outcome State Fault Refusal := request .loadFinish w ownLoadFinish s

/-- LOAD-RESUME (R23). -/
def ownLoadResume (s : State) : State × Reply :=
  match s.load with
  | none => refuse .state s
  | some l => if l.causes.power then reply .ok .none (s.removeCause .power) else refuse .state s

def execLoadResume (w : Win) (s : State) : Host.Outcome State Fault Refusal := request .loadResume w ownLoadResume s

/-- LOAD-ABORT (R18). -/
def ownLoadAbort (s : State) : State × Reply :=
  match s.load with
  | none => refuse .state s
  | some l =>
    if l.state = .closing then refuse .state s
    else reply .accepted .none ((s.enterClosing.finishIdle).driveAll (.halt .abort)).closeIfDone

def execLoadAbort (w : Win) (s : State) : Host.Outcome State Fault Refusal := request .loadAbort w ownLoadAbort s

end Sys2Proof.Machine
end

