-- ==== Sys2Proof/Machine/Permits.lean ====
section
/-! DEFINITION. The permit unit (chapter 2): the bay clock, the permit table, the care mask, presentation of a card and the
authorisation context, and the selection that opens a load (R10, R39). -/

namespace Sys2Proof.Machine

/-! ### The bay clock -/

/-- The clock a second later (R25). -/
def Clock.advance (c : Clock) : Clock :=
  if c.second < 86399 then { c with second := c.second + 1 }
  else { c with second := 0, day := if c.day < 65535 then c.day + 1 else c.day }

/-- BAY_CLOCK_SECOND (R25). -/
def execBayClockSecond (s : State) : Host.Outcome State Fault Refusal :=
  match s.phase with
  | .held => .next s
  | .startUp | .running | .powerDown => .next { s with clock := s.clock.advance }

/-- TIME-SET (R26). A day number beyond its range of 0 to 65535 is refused with BAD_ARGUMENT as a second of day is (R188,
assumption log 29). -/
def ownTimeSet (day second : Nat) (s : State) : State × Reply :=
  if 65535 < day ∨ 86399 < second then refuse .badArgument s
  else reply .ok .none { s with clock := { day, second, isSet := true } }

def execTimeSet (w : Win) (day second : Nat) (s : State) : Host.Outcome State Fault Refusal :=
  request .timeSet w (ownTimeSet day second) s

/-! ### The permit table -/

/-- The entry that PERMIT-PUT carries, where R28 admits it: every field in the range of table 2.2.1. -/
def permitContent? (e : PermitArg) : Option PermitContent :=
  if e.card = 0 ∨ 2 ^ 32 ≤ e.card ∨ e.carrier = some 0 ∨ e.carrier.any (65535 < ·) ∨ 65535 < e.expiry ∨ 255 < e.loads
      ∨ 1 < e.state then none
  else
    some
      { card := e.card, carrier := e.carrier, quals := e.quals, expiry := e.expiry, loads := e.loads,
        state := if e.state = 0 then .active else .blocked }

/-- The entry of a card becomes `e`, and its permit record is queued for a request (R27). -/
def State.setPermit (e : PermitEntry) (s : State) : State × Reply :=
  if !s.hasPlace then refuse .busy s
  else reply .accepted .none
    (({ s with permits := withPermit e.content.card (some e) s.permits }).enqueue
      (.permit e.content.card (some e) true))

/-- PERMIT-PUT (R28). -/
def ownPermitPut (arg : PermitArg) (s : State) : State × Reply :=
  match permitContent? arg with
  | none => refuse .badArgument s
  | some c =>
    match s.permit? c.card with
    | none =>
      if 64 ≤ s.permits.length then refuse .full s
      else if !s.hasPlace then refuse .busy s
      else
        let e : PermitEntry := { content := c, inUse := false, action := .none }
        reply .accepted .none (({ s with permits := s.permits ++ [e] }).enqueue (.permit c.card (some e) true))
    | some e =>
      if e.inUse then s.setPermit { e with action := .replace c }
      else s.setPermit { content := c, inUse := false, action := .none }

def execPermitPut (w : Win) (arg : PermitArg) (s : State) : Host.Outcome State Fault Refusal :=
  request .permitPut w (ownPermitPut arg) s

/-- The context ends, and AUTH_DROPPED is posted with its reason (R35). -/
def State.dropContext (reason : Reason) (s : State) : State :=
  match s.context with
  | none => s
  | some x => ({ s with context := none }).post .authDropped .reason reason.number (w32 x.card)

/-- PERMIT-DELETE (R29). -/
def ownPermitDelete (card : Nat) (s : State) : State × Reply :=
  match s.permit? card with
  | none => refuse .notFound s
  | some e =>
    if e.inUse then s.setPermit { e with action := .delete }
    else if !s.hasPlace then refuse .busy s
    else
      let s1 := ({ s with permits := withPermit card none s.permits }).enqueue (.permit card none true)
      reply .accepted .none (if s.context.map Context.card = some card then s1.dropContext .deleted else s1)

def execPermitDelete (w : Win) (card : Nat) (s : State) : Host.Outcome State Fault Refusal :=
  request .permitDelete w (ownPermitDelete card) s

/-- PERMIT-BLOCK and PERMIT-UNBLOCK (R30). -/
def State.setPermitState (card : Nat) (state : PermitState) (s : State) : State × Reply :=
  match s.permit? card with
  | none => refuse .notFound s
  | some e => s.setPermit { e with content := { e.content with state } }

def ownPermitBlock (card : Nat) (s : State) : State × Reply := s.setPermitState card .blocked

def execPermitBlock (w : Win) (card : Nat) (s : State) : Host.Outcome State Fault Refusal :=
  request .permitBlock w (ownPermitBlock card) s

def ownPermitUnblock (card : Nat) (s : State) : State × Reply := s.setPermitState card .active

def execPermitUnblock (w : Win) (card : Nat) (s : State) : Host.Outcome State Fault Refusal :=
  request .permitUnblock w (ownPermitUnblock card) s

/-- PERMIT-READ (R31). -/
def ownPermitRead (card : Nat) (s : State) : State × Reply :=
  match s.permit? card with
  | none => refuse .notFound s
  | some e => reply .ok (.permit e) s

def execPermitRead (w : Win) (card : Nat) (s : State) : Host.Outcome State Fault Refusal :=
  request .permitRead w (ownPermitRead card) s

/-- CARE-MASK-SET (R32). -/
def ownCareMaskSet (mask : QualSet) (s : State) : State × Reply := reply .ok (.quals mask) { s with careMask := mask }

def execCareMaskSet (w : Win) (mask : QualSet) (s : State) : Host.Outcome State Fault Refusal :=
  request .careMaskSet w (ownCareMaskSet mask) s

/-! ### Presentation (R33 to R36) -/

/-- Checks 5, 6 and 7 of R33: the reason for which an entry opens no load, if any. -/
def PermitEntry.refusal (day : Nat) (e : PermitEntry) : Option Reason :=
  if e.content.state = .blocked then some .blocked
  else if e.content.expiry < day then some .expired
  else if e.content.loads = 0 then some .noLoads
  else none

/-- The status that answers a reason (R33). -/
def Reason.status : Reason → Status
  | .timeNotSet => .timeNotSet
  | .bayBusy => .bayBusy
  | .esd => .state
  | .unknown => .notFound
  | .blocked => .blocked
  | .expired => .state
  | .noLoads => .state
  | .notesFull => .full
  | .noOrder => .notFound
  | .withdrawn | .timeout | .deleted => .state

/-- The FREE slot with the lowest number (R148). -/
def State.freeSlot (s : State) : Option (Fin 8) := eights.find? fun i => s.slots[i].state == .free

/-- The numbers of the queued orders bound to a card or to ANY, in queue order (R34). -/
def State.eligible (card : Nat) (s : State) : List Nat :=
  (s.orders.filter fun o => o.binding == none || o.binding == some card).map Order.number

/-- The first of the nine checks of R33 that a card fails. -/
def State.denied (card : Nat) (s : State) : Option Reason :=
  if !s.clock.isSet then some .timeNotSet
  else if s.load.isSome || s.context.isSome then some .bayBusy
  else if s.safety.esdLatch then some .esd
  else match s.permit? card with
    | none => some .unknown
    | some e =>
      match e.refusal s.clock.day with
      | some r => some r
      | none =>
        if s.freeSlot.isNone || s.serial == 4294967295 then some .notesFull
        else if (s.eligible card).isEmpty then some .noOrder
        else none

/-- CARD-PRESENT (R33). -/
def ownCardPresent (card : Nat) (s : State) : State × Reply :=
  match s.denied card with
  | some r => refuseWith r.status (.reason r) (s.post .authDenied .reason r.number (w32 card))
  | none =>
    reply .ok (.granted (s.eligible card).length ((s.permit? card).bind fun e => e.content.carrier))
      (({ s with context := some { card, eligible := s.eligible card, timer := some 120000 } }).post .authGranted .none 0
        (w32 card))

def execCardPresent (w : Win) (card : Nat) (s : State) : Host.Outcome State Fault Refusal :=
  request .cardPresent w (ownCardPresent card) s

/-- CARD-WITHDRAW (R35). -/
def ownCardWithdraw (s : State) : State × Reply :=
  match s.context with
  | none => refuse .state s
  | some _ => reply .ok .none (s.dropContext .withdrawn)

def execCardWithdraw (w : Win) (s : State) : Host.Outcome State Fault Refusal := request .cardWithdraw w ownCardWithdraw s

/-- CONTEXT_TIMER_EXPIRY (R35): it concerns a standing context whose timer has run out. -/
def execContextTimerExpiry (s : State) : Host.Outcome State Fault Refusal :=
  match s.context with
  | none => .next s
  | some x => if s.timersRun ∧ x.timer = some 0 then .next (s.dropContext .timeout) else .next s

/-- An order as ORDER-LIST gives it (R36). -/
def Order.listed (o : Order) : ListedOrder :=
  { number := o.number, lines := o.lines.map fun l => (l.compartment, l.product) }

/-- ORDER-LIST (R36). -/
def ownOrderList (start : Nat) (s : State) : State × Reply :=
  match s.context with
  | none => refuse .state s
  | some x =>
    if 15 < start then refuse .badArgument s
    else
      reply .ok
        (.orders x.eligible.length
          (((x.eligible.drop start).take 4).filterMap fun k => (s.orders.find? fun o => o.number == k).map Order.listed)
          (if start + 4 < x.eligible.length then some (start + 4) else none))
        s

def execOrderList (w : Win) (start : Nat) (s : State) : Host.Outcome State Fault Refusal :=
  request .orderList w (ownOrderList start) s

/-! ### Selection and opening (R37 to R39, R10) -/

/-- The required set of an order (R38). -/
def State.requiredSet (o : Order) (s : State) : QualSet :=
  o.lines.foldl (fun acc l => acc ||| s.products[l.product].required) 0

/-- The missing qualifications of an order under a permit (R38). -/
def State.missing (o : Order) (e : PermitEntry) (s : State) : QualSet :=
  s.requiredSet o &&& s.careMask &&& ~~~e.content.quals

/-- A compartment record at the opening of a load (R10). -/
def CompRecord.initial (line : OrderLine) : CompRecord :=
  { line, state := .pending, gross := 0, net := 0, sumGT := 0, sumG := 0, maxFlow := 0, antUsed := none,
    opening := none, closing := none, closeReason := none, haltCause := none, additives := [], flags := {} }

/-- The causes that stand at the opening of a load (R10). -/
def Safety.openingCauses (y : Safety) : CauseSet :=
  { esd := y.esdLatch, permissive := !y.effective.isFull, deadman := false, stopAll := y.stopAllLatch, power := false }

/-- The load record created at an opening (R10). -/
def State.openedLoad (card : Nat) (e : PermitEntry) (o : Order) (slot : Fin 8) (s : State) : LoadRecord :=
  { state := if s.safety.openingCauses.isEmpty then .opened else .suspended
    card, carrier := o.carrier.or e.content.carrier, number := o.number, binding := o.binding
    orderCarrier := o.carrier, comps := o.lines.map CompRecord.initial
    openTime := { day := s.clock.day, second := s.clock.second }, closeTime := none, cecAtOpen := s.cal.cec, slot
    causes := s.safety.openingCauses, totalsUncertain := false }

/-- The opening of a load: the permit in use with its record queued ahead of the opening image, the context ended, the
order moved, the slot reserved, the deadman at its start, and LOAD_OPENED and LOAD_STATE posted (R10, R39, R131, R148). -/
def State.openLoad (card : Nat) (e : PermitEntry) (o : Order) (slot : Fin 8) (s : State) : State :=
  let e' : PermitEntry := { e with inUse := true }
  let l := s.openedLoad card e o slot
  let s1 : State :=
    { s with
      permits := withPermit card (some e') s.permits, context := none
      orders := s.orders.filter fun x => x.number != o.number, load := some l, imageOwed := false
      safety := s.safety.beginLoad }
  ((((s1.enqueue (.permit card (some e') false)).modifySlot slot fun x =>
    { x with state := .reserved, note := none }).imagePoint).post .loadOpened .noteSlot slot.val (w32 o.number)).post
      .loadState .none 0 (w32 l.state.number)

/-- ORDER-SELECT (R37). That the eligible number is queued, that the card has an entry and that a slot is free hold
whenever a context stands; were one to fail, the refusal is the one named in assumption log 17. -/
def ownOrderSelect (number : Nat) (s : State) : State × Reply :=
  match s.context with
  | none => refuse .state s
  | some x =>
    if !x.eligible.contains number then refuse .notFound s
    else match s.permit? x.card, s.orders.find? fun o => o.number == number with
      | some e, some o =>
        match e.refusal s.clock.day with
        | some r => refuseWith r.status (.reason r) (s.dropContext r)
        | none =>
          if s.missing o e ≠ 0 then refuseWith .qualification (.quals (s.missing o e)) s
          else if !s.hasPlace then refuse .busy s
          else match s.freeSlot with
            | none => refuse .full s
            | some slot => reply .ok (.selected number slot) (s.openLoad x.card e o slot)
      | _, _ => refuse .notFound s

def execOrderSelect (w : Win) (number : Nat) (s : State) : Host.Outcome State Fault Refusal :=
  request .orderSelect w (ownOrderSelect number) s

end Sys2Proof.Machine
end

