-- ==== Sys2Proof/Machine/Notes.lean ====
section
/-! DEFINITION. The note unit's requests (sections 8.4 and 8.5): NOTE-CONFIG, NOTE-PRINTED, NOTE-RELEASE, NOTE-OPEN and
NOTE-READ, and the expiry of a hold timer. -/

namespace Sys2Proof.Machine

/-- NOTE-CONFIG (R157). -/
def ownNoteConfig (minutes : Nat) (s : State) : State × Reply :=
  if minutes < 1 ∨ 60 < minutes then refuse .badArgument s
  else if !s.hasPlace then refuse .busy s
  else reply .accepted .none (({ s with holdMinutes := minutes }).enqueue (.noteConfig minutes))

def execNoteConfig (w : Win) (minutes : Nat) (s : State) : Host.Outcome State Fault Refusal :=
  request .noteConfig w (ownNoteConfig minutes) s

/-- The slot of the STORED note that holds a serial. -/
def State.storedSlot (serial : Nat) (s : State) : Option (Fin 8) :=
  eights.find? fun i => s.slots[i].state == .stored && s.slots[i].serial == some serial

/-- NOTE-PRINTED (R158). -/
def ownNotePrinted (serial : Nat) (s : State) : State × Reply :=
  match s.storedSlot serial with
  | none => refuse .notFound s
  | some i => reply .ok .none (s.modifySlot i fun x => { x with printed := true })

def execNotePrinted (w : Win) (serial : Nat) (s : State) : Host.Outcome State Fault Refusal :=
  request .notePrinted w (ownNotePrinted serial) s

/-- A note is held for print (R158). -/
def Slot.heldForPrint (x : Slot) : Bool := !x.printed && !x.holdExpired

/-- A FREE slot, its note, serial, marks and timer gone (R159). -/
def Slot.freed : Slot :=
  { state := .free, note := none, serial := none, printed := false, holdTimer := none, holdExpired := false }

/-- A reader that holds the serial becomes lost (R162). -/
def Reader.losing (serial : Nat) (r : Reader) : Reader := if r.serial = serial then { r with lost := true } else r

/-- The note of a slot is freed (R159, R162). -/
def State.freeNote (i : Fin 8) (serial : Nat) (s : State) : State :=
  let s1 := (s.modifySlot i fun _ => Slot.freed).enqueue (.release i)
  ({ s1 with
    tpReader := s1.tpReader.map (Reader.losing serial)
    ppReader := s1.ppReader.map (Reader.losing serial) }).post .noteReleased .noteSlot i.val (w32 serial)

/-- NOTE-RELEASE (R159). -/
def ownNoteRelease (serial : Nat) (s : State) : State × Reply :=
  match s.storedSlot serial with
  | none => refuse .notFound s
  | some i =>
    if s.slots[i].heldForPrint then refuse .heldForPrint s
    else if !s.hasPlace then refuse .busy s
    else reply .ok .none (s.freeNote i serial)

def execNoteRelease (w : Win) (serial : Nat) (s : State) : Host.Outcome State Fault Refusal :=
  request .noteRelease w (ownNoteRelease serial) s

/-- The hold timer of a stored note expires (R158). -/
def Slot.holdOver (x : Slot) : Slot := { x with holdTimer := none, holdExpired := true }

/-- HOLD_TIMER_EXPIRY (R158): it concerns a STORED slot whose timer has run out, from START on (R185). -/
def execHoldTimerExpiry (i : Fin 8) (s : State) : Host.Outcome State Fault Refusal :=
  if s.phase = .running ∧ s.slots[i].state = .stored ∧ s.slots[i].holdTimer = some 0 then
    .next (s.modifySlot i Slot.holdOver)
  else .next s

/-! ### Readers (R160, R161) -/

/-- The reader of a port; SP has none, and its NOTE-OPEN and NOTE-READ are NOT_PERMITTED (R170). -/
def State.reader (p : Port) (s : State) : Option Reader :=
  match p with
  | .tp => s.tpReader
  | .pp => s.ppReader
  | .sp => none

def State.setReader (p : Port) (r : Reader) (s : State) : State :=
  match p with
  | .tp => { s with tpReader := some r }
  | .pp => { s with ppReader := some r }
  | .sp => s

/-- UP is 0 and DOWN is 1 (R188). -/
def directionOf? : Nat → Option Direction
  | 0 => some .up
  | 1 => some .down
  | _ => none

/-- A reader as NOTE-OPEN leaves it (R160). -/
def Reader.opened (serial first last : Nat) (d : Direction) : Reader :=
  { serial, first, last, direction := d
    cursor := match d with
      | .up => first
      | .down => last
    headerOwed := true, lost := false }

/-- NOTE-OPEN (R160). -/
def ownNoteOpen (p : Port) (serial first last direction : Nat) (s : State) : State × Reply :=
  match (s.storedSlot serial).bind fun i => s.slots[i].note with
  | none => refuse .notFound s
  | some n =>
    match directionOf? direction with
    | none => refuse .badArgument s
    | some d =>
      if last < first ∨ n.lineCount ≤ last then refuse .badArgument s
      else reply .ok (.noteOpened n.lineCount n.header.status) (s.setReader p (Reader.opened serial first last d))

def execNoteOpen (w : Win) (serial first last direction : Nat) (s : State) : Host.Outcome State Fault Refusal :=
  request .noteOpen w (ownNoteOpen w.port serial first last direction) s

/-- The move of the cursor would leave the window (R161). -/
def Reader.wraps (r : Reader) : Bool :=
  match r.direction with
  | .up => r.last ≤ r.cursor
  | .down => r.cursor ≤ r.first

/-- The reader after the line at its cursor is returned (R161). -/
def Reader.moved (r : Reader) : Reader :=
  { r with
    cursor := match r.direction with
      | .up => if r.wraps then r.first else r.cursor + 1
      | .down => if r.wraps then r.last else r.cursor - 1 }

/-- NOTE-READ (R161). -/
def ownNoteRead (p : Port) (s : State) : State × Reply :=
  match s.reader p with
  | none => refuse .state s
  | some r =>
    if r.lost then refuse .notFound s
    else match (s.storedSlot r.serial).bind fun i => s.slots[i].note with
      | none => refuse .notFound s
      | some n =>
        if r.headerOwed then
          reply .ok (.noteLine 0 false (.header r.serial n.header)) (s.setReader p { r with headerOwed := false })
        else match n.line? r.serial r.cursor with
          | none => refuse .notFound s
          | some line => reply .ok (.noteLine r.cursor r.wraps line) (s.setReader p r.moved)

def execNoteRead (w : Win) (s : State) : Host.Outcome State Fault Refusal := request .noteRead w (ownNoteRead w.port) s

end Sys2Proof.Machine
end

