-- ==== Sys2Proof/Machine/Interlocks.lean ====
section
/-! DEFINITION. The safety unit (chapter 6): permissives, STOP-ALL and RESUME, emergency shutdown, and the deadman. -/

namespace Sys2Proof.Machine

/-! ### Permissives -/

/-- The flags of a report, where each is present or absent (R117). -/
def reportedFlags? (ground overfillOk vapour : FlagValue) : Option Permissives :=
  if ground = .other ∨ overfillOk = .other ∨ vapour = .other then none
  else some { ground := ground == .present, overfillOk := overfillOk == .present, vapour := vapour == .present }

/-- The record after an accepted report (R117). -/
def Safety.report (p : Permissives) (y : Safety) : Safety := { y with reported := p, stale := false, validity := some 2000 }

/-- What an accepted report does (R117, R119). -/
def State.reportPermissives (p : Permissives) (s : State) : State :=
  let s1 : State := { s with safety := s.safety.report p }
  let s2 := if s1.safety.effective = s.safety.effective then s1
    else s1.post .permissive .none 0 s1.safety.permissiveValue
  s2.judgePermissive

/-- PERMISSIVE-REPORT (R117). -/
def ownPermissiveReport (ground overfillOk vapour : FlagValue) (s : State) : State × Reply :=
  match reportedFlags? ground overfillOk vapour with
  | none => refuse .badArgument s
  | some p =>
    reply .ok (.permissives (s.reportPermissives p).safety.effective) (s.reportPermissives p)

def execPermissiveReport (w : Win) (ground overfillOk vapour : FlagValue) (s : State) :
    Host.Outcome State Fault Refusal :=
  request .permissiveReport w (ownPermissiveReport ground overfillOk vapour) s

/-- The permissives go stale (R118). -/
def State.goStale (s : State) : State :=
  let s1 : State := { s with safety := { s.safety with stale := true, validity := none } }
  ((s1.post .permissiveStale .none 0 0).post .permissive .none 0 s1.safety.permissiveValue).judgePermissive

/-- VALIDITY_TIMER_EXPIRY (R118): it concerns a validity timer whose time has run out; a report taken before it has set the
timer to 2 s again, and then it does not expire. -/
def execValidityTimerExpiry (s : State) : Host.Outcome State Fault Refusal :=
  if s.timersRun ∧ s.safety.validity = some 0 then .next s.goStale.startWrite else .next s

/-! ### Stop all -/

/-- An arm has an active compartment (section 6.3). -/
def State.busy (a : Fin 4) (s : State) : Bool := (s.routed a).isSome

/-- The bay form is taken: the mask is empty or holds every busy arm (R120). -/
def State.bayForm (mask : ArmMask) (s : State) : Bool := mask == 0 || fours.all fun a => !s.busy a || maskHas mask a

/-- The arm form drives the compartments of the masked busy arms (R121). -/
def State.stopArms (mask : ArmMask) (s : State) : State :=
  fours.foldl (fun s a =>
    if maskHas mask a then
      match s.routed a with
      | none => s
      | some c => s.driveClose c.line.compartment (.halt .safety)
    else s) s

/-- STOP-ALL (R120, R121). -/
def ownStopAll (mask : ArmMask) (s : State) : State × Reply :=
  if !maskInRange mask then refuse .badArgument s
  else if s.bayForm mask then
    reply .ok (.stopForm true) (({ s with safety := { s.safety with stopAllLatch := true } }).addCause .stopAll)
  else reply .ok (.stopForm false) (s.stopArms mask)

def execStopAll (w : Win) (mask : ArmMask) (s : State) : Host.Outcome State Fault Refusal :=
  request .stopAll w (ownStopAll mask) s

/-- RESUME (R122). -/
def ownResume (s : State) : State × Reply :=
  if !s.safety.stopAllLatch then refuse .state s
  else reply .ok .none (({ s with safety := { s.safety with stopAllLatch := false } }).removeCause .stopAll)

def execResume (w : Win) (s : State) : Host.Outcome State Fault Refusal := request .resume w ownResume s

/-! ### Emergency shutdown -/

/-- What the ESD latch does at a pump (R94). -/
def Pump.shutDown (x : Pump) : Pump :=
  match x.state with
  | .starting | .running | .runOn => x.stop
  | .stopped | .failed => x

/-- Every pump changed. -/
def State.mapPumps (f : Pump → Pump) (s : State) : State :=
  { s with pumps := #v[f s.pumps[0], f s.pumps[1], f s.pumps[2], f s.pumps[3]] }

/-- Every arm changed. -/
def State.mapArms (f : Arm → Arm) (s : State) : State :=
  { s with arms := #v[f s.arms[0], f s.arms[1], f s.arms[2], f s.arms[3]] }

/-- Every stroke in flight is ended by force (R114, R115). -/
def State.cutStrokes (s : State) : State := eights.foldl (fun s j => s.cutStroke j) s

/-- The field action of the ESD latch: compartments driven with reason ESD, every valve CLOSED, every pump off without
run-on, every stroke cut (R94, R114, R124). -/
def State.shutDown (s : State) : State :=
  (((s.driveAll (.halt .esd)).mapArms fun x => { x.driven with valve := .closed }).mapPumps Pump.shutDown).cutStrokes

/-- The ESD latch is set with its effects; its event is not posted during start-up (R124, R132). -/
def State.setEsd (s : State) : State :=
  let s1 := (({ s with safety := { s.safety with esdLatch := true } }).shutDown).addCause .esd
  if s.phase = .startUp then s1 else s1.post .esd .none 0 0

/-- The filtered ESD input takes a level (R123). -/
def State.esdInput (active : Bool) (s : State) : State :=
  let s1 : State := { s with safety := { s.safety with esdInput := some active } }
  if active && s.safety.esdInput != some true && !s.safety.esdLatch then s1.setEsd else s1

/-- ESD_INPUT_CHANGE (R123). In POWER_DOWN the input sets no latch (R133). -/
def execEsdInputChange (active : Bool) (s : State) : Host.Outcome State Fault Refusal :=
  match s.phase with
  | .held => .next s
  | .startUp | .running => .next (s.esdInput active).startWrite
  | .powerDown => .next { s with safety := { s.safety with esdInput := some active } }

/-- Every STOPPED pump with demand is started (R94, R125). -/
def State.restartPumps (s : State) : State :=
  fours.foldl (fun s p => if s.pumps[p].state = .stopped ∧ 0 < s.pumps[p].demand then s.startPump p else s) s

/-- ESD-RESET (R125). -/
def ownEsdReset (s : State) : State × Reply :=
  if !s.safety.esdLatch ∨ s.safety.esdInput = some true then refuse .state s
  else
    reply .ok .none
      ((((({ s with safety := { s.safety with esdLatch := false } }).removeCause .esd).restartPumps).post .esd .none 0
        1))

def execEsdReset (w : Win) (s : State) : Host.Outcome State Fault Refusal := request .esdReset w ownEsdReset s

/-! ### The deadman -/

/-- DEADMAN-CONFIG (R126). -/
def ownDeadmanConfig (period warning : Nat) (s : State) : State × Reply :=
  if period < 30 ∨ 300 < period ∨ warning < 15 ∨ 60 < warning then refuse .badArgument s
  else if s.load.isSome then refuse .loadOpen s
  else if !s.hasPlace then refuse .busy s
  else reply .accepted .none
    (({ s with safety := { s.safety with period, warning } }).enqueue (.deadman period warning))

def execDeadmanConfig (w : Win) (period warning : Nat) (s : State) : Host.Outcome State Fault Refusal :=
  request .deadmanConfig w (ownDeadmanConfig period warning) s

/-- The record after a renewal (R128). -/
def Safety.renewed (y : Safety) : Safety :=
  { y with timer := y.period * 1000, armed := false, stage := .normal, horn := false }

/-- A renewal (R128). -/
def State.renew (s : State) : State :=
  (({ s with safety := s.safety.renewed }).mapArms fun x => { x with hold := false }).removeCause .deadman

/-- The answer to an accepted DEADMAN: pointer, stage and time left after it (R128). -/
def State.deadmanReply (s : State) : State × Reply :=
  reply .ok (.deadman s.safety.armed s.safety.stage s.safety.timer) s

/-- DEADMAN (R128): kind 0 is RELEASE, 1 is PRESS (R188). -/
def ownDeadman (kind : Nat) (s : State) : State × Reply :=
  match kind with
  | 0 => ({ s with safety := { s.safety with armed := true } } : State).deadmanReply
  | 1 => if s.safety.armed then s.renew.deadmanReply else s.deadmanReply
  | _ => refuse .badArgument s

def execDeadman (w : Win) (kind : Nat) (s : State) : Host.Outcome State Fault Refusal :=
  request .deadman w (ownDeadman kind) s

/-- The deadman hold taken by an arm in FULL (R79, R129). -/
def Arm.held (x : Arm) : Arm := if x.state = .full then { x with hold := true, valve := .low } else x

/-- The first expiry (R129). -/
def State.firstExpiry (s : State) : State :=
  (({ s with
      safety :=
        { s.safety with stage := .warning, horn := true, armed := false, timer := s.safety.warning * 1000 } }).mapArms
    Arm.held).post .deadmanWarning .none 0 (w32 s.safety.warning)

/-- The deadman timer counts: the part runs and a compartment flows (R127). -/
def State.deadmanCounts (s : State) : Bool := s.phase == .running && s.flowing

/-- FIRST_EXPIRY (R127, R129): it concerns a count that has reached 0 in stage NORMAL; a renewal taken before it has set
the timer to D, and then it does not expire (R128). -/
def execFirstExpiry (s : State) : Host.Outcome State Fault Refusal :=
  if s.deadmanCounts ∧ s.safety.stage = .normal ∧ s.safety.timer = 0 then .next s.firstExpiry else .next s

/-- The second expiry (R130). -/
def State.secondExpiry (s : State) : State :=
  ({ s with safety := { s.safety with stage := .expired, timer := 0 } } : State).addCause .deadman

/-- SECOND_EXPIRY (R127, R130): it concerns a count that has reached 0 in stage WARNING. -/
def execSecondExpiry (s : State) : Host.Outcome State Fault Refusal :=
  if s.deadmanCounts ∧ s.safety.stage = .warning ∧ s.safety.timer = 0 then .next s.secondExpiry.startWrite else .next s

end Sys2Proof.Machine
end

