-- ==== Sys2Proof/Machine/CalUnit.lean ====
section
/-! DEFINITION. The seal and the calibration unit (sections 7.4 and 7.5): SEAL_INPUT_CHANGE, CAL-WRITE, CAL-READ. -/

namespace Sys2Proof.Machine

/-! ### The seal (R141) -/

/-- The seal state of a level of the SEAL input. -/
def sealOf (active : Bool) : SealState := if active then .isSealed else .isOpen

/-- The filtered seal level changes (R141); a level already held is no change. -/
def State.sealChange (active : Bool) (s : State) : State :=
  if s.sealState = sealOf active then s
  else
    let s1 : State := { s with sealState := sealOf active }
    if s.phase = .powerDown then s1 else s1.post .sealChanged .none 0 (w32 (sealOf active).number)

/-- SEAL_INPUT_CHANGE (R141). -/
def execSealInputChange (active : Bool) (s : State) : Host.Outcome State Fault Refusal :=
  match s.phase with
  | .held => .next s
  | .startUp | .running | .powerDown => .next (s.sealChange active)

/-! ### CAL-WRITE (R143, R144) -/

/-- The points of a curve lie in their ranges with q strictly increasing from above `q` on. -/
def curveRises : Nat → List (Nat × Nat) → Bool
  | _, [] => true
  | q, p :: rest => q < p.1 && p.1 ≤ 60000 && 95000 ≤ p.2 && p.2 ≤ 105000 && curveRises p.1 rest

/-- The curve of a point list that section 7.5.1 admits. -/
def curve? : List (Nat × Nat) → Option Curve
  | [] => none
  | p :: rest =>
    if p.1 ≤ 60000 ∧ 95000 ≤ p.2 ∧ p.2 ≤ 105000 ∧ rest.length ≤ 3 ∧ curveRises p.1 rest then
      some { first := p, rest }
    else none

/-- The item that CAL-WRITE gives, where R143 admits its kind, index and value. A row whose point count is not the number
of its points stands for no frame, since no payload spells it; it is refused here, after the owner's checks (assumption
log 30). -/
def calItem? (index : Nat) : CalValueArg → Option CalItem
  | .meterConstant k =>
    if 1000 ≤ k ∧ k ≤ 2000000 then (four? index).map fun m => .meterConstant m k else none
  | .factorCurve count points =>
    if count ≠ points.length then none
    else match four? index, curve? points with
      | some m, some c => some (.factorCurve m c)
      | _, _ => none
  | .probeOffset o => if -200 ≤ o ∧ o ≤ 200 then (four? index).map fun p => .probeOffset p o else none
  | .strokeVolume v => if 100 ≤ v ∧ v ≤ 100000 then (eight? index).map fun j => .strokeVolume j v else none
  | .other _ => none

/-- The calibration set with an item replaced (R144). -/
def Calibration.put (i : CalItem) (c : Calibration) : Calibration :=
  match i with
  | .meterConstant m k => { c with meterK := c.meterK.set m k }
  | .factorCurve m v => { c with curve := c.curve.set m v }
  | .probeOffset p o => { c with offset := c.offset.set p o }
  | .strokeVolume j v => { c with stroke := c.stroke.set j v }

/-- A new meter constant sets its meter's R_i to 0 (R67). -/
def State.zeroRemI (i : CalItem) (s : State) : State :=
  match i with
  | .meterConstant m _ => s.modifyMeter m fun x => { x with remI := 0 }
  | .factorCurve _ _ | .probeOffset _ _ | .strokeVolume _ _ => s

/-- What an accepted CAL-WRITE does (R144). -/
def State.calibrate (i : CalItem) (s : State) : State :=
  (({ s with cal := { s.cal.put i with cec := s.cal.cec + 1 } } : State).zeroRemI i).enqueue
    (.calibration i (s.cal.cec + 1))

/-- CAL-WRITE (R143). -/
def ownCalWrite (index : Nat) (value : CalValueArg) (s : State) : State × Reply :=
  if s.sealState ≠ .isOpen then refuse .isSealed s
  else if s.load.isSome then refuse .loadOpen s
  else if 65535 ≤ s.cal.cec then refuse .counterFull s
  else match calItem? index value with
    | none => refuse .badArgument s
    | some i =>
      if !s.hasPlace then refuse .busy s
      else reply .accepted (.cec (s.cal.cec + 1)) (s.calibrate i)

def execCalWrite (w : Win) (index : Nat) (value : CalValueArg) (s : State) : Host.Outcome State Fault Refusal :=
  request .calWrite w (ownCalWrite index value) s

/-! ### CAL-READ (R146) -/

/-- The item of a kind (numbered in the order of R143) and index, with its current value. -/
def Calibration.item? (kind index : Nat) (c : Calibration) : Option CalItem :=
  match kind with
  | 0 => (four? index).map fun m => .meterConstant m c.meterK[m]
  | 1 => (four? index).map fun m => .factorCurve m c.curve[m]
  | 2 => (four? index).map fun p => .probeOffset p c.offset[p]
  | 3 => (eight? index).map fun j => .strokeVolume j c.stroke[j]
  | _ => none

/-- CAL-READ (R146). -/
def ownCalRead (kind index : Nat) (s : State) : State × Reply :=
  match s.cal.item? kind index with
  | none => refuse .badArgument s
  | some i => reply .ok (.calibration i s.cal.cec s.sealState) s

def execCalRead (w : Win) (kind index : Nat) (s : State) : Host.Outcome State Fault Refusal :=
  request .calRead w (ownCalRead kind index) s

end Sys2Proof.Machine
end

