-- ==== Sys2Proof/Machine/Status.lean ====
section
/-! DEFINITION. STATUS-READ (R178, R179): its sections, numbered as R188 numbers them. -/

namespace Sys2Proof.Machine

/-- The load fields of BAY (R178). -/
def LoadRecord.bay (l : LoadRecord) : BayLoad :=
  { state := l.state, card := l.card, number := l.number, slot := l.slot, carrier := l.carrier, openTime := l.openTime,
    causes := l.causes, totalsUncertain := l.totalsUncertain }

/-- The context fields of BAY (R178). -/
def Context.bay (x : Context) : BayContext := { card := x.card, eligible := x.eligible.length, timeLeft := x.timer }

/-- BAY (R178). -/
def State.bayStatus (s : State) : BayStatus :=
  { clock := s.clock, load := s.load.map LoadRecord.bay, context := s.context.map Context.bay, queued := s.orders.length
    staging := s.staging.map fun g => (g.number, (g.lines.filter Option.isSome).length) }

/-- The compartment record of a number with its index, counted from `i`. -/
def indexOf? (n : Nat) : Nat → List CompRecord → Option (Nat × CompRecord)
  | _, [] => none
  | i, c :: rest => if c.line.compartment = n then some (i, c) else indexOf? n (i + 1) rest

/-- COMPARTMENT (R178). -/
def CompRecord.status (index : Nat) (c : CompRecord) : CompStatus :=
  { index, line := c.line, state := c.state, gross := c.gross, net := c.net, average := c.average, maxFlow := c.maxFlow,
    antUsed := c.antUsed, closeReason := c.closeReason, haltCause := c.haltCause, flags := c.flags }

/-- ARM (R179). -/
def State.armStatus (a : Fin 4) (s : State) : ArmStatus :=
  { state := s.arms[a].state, valve := s.arms[a].valve, main := s.arms[a].valve.main, trim := s.arms[a].valve.trim,
    served := s.arms[a].served, faultCause := s.arms[a].faultCause, blocked := s.arms[a].blocked,
    hold := s.arms[a].hold, stray := s.arms[a].stray, ant := s.arms[a].config.ant, debt := s.meters[a].debt,
    held := s.probes[a].held, invalidRun := s.probes[a].invalidRun }

/-- One pump of PUMPS (R179). -/
def Pump.status (x : Pump) : PumpStatus :=
  { state := x.state, run := x.run, feedback := x.feedback, demand := x.demand, failKind := x.failKind }

/-- INJECTOR (R179). -/
def Injector.status (x : Injector) : InjectorStatus :=
  { state := x.state, arm := x.assign.arm, additive := x.assign.additive, binding := x.binding, owed := x.owed,
    consecutive := x.consecutive, output := x.output, feedback := x.feedback }

/-- SAFETY (R179). -/
def State.safetyStatus (s : State) : SafetyStatus :=
  { record := s.safety, effective := s.safety.effective, sealState := s.sealState, cec := s.cal.cec }

/-- One slot of NOTES (R179). -/
def Slot.status (x : Slot) : SlotStatus :=
  { state := x.state, serial := x.serial, printed := x.printed, holdExpired := x.holdExpired }

/-- COMPARTMENT of a compartment number (R178). -/
def State.compStatus (n : Nat) (s : State) : State × Reply :=
  if n < 1 ∨ 8 < n then refuse .badArgument s
  else match s.load with
    | none => refuse .state s
    | some l =>
      match indexOf? n 1 l.comps with
      | none => refuse .notFound s
      | some r => reply .ok (.compartment (r.2.status r.1)) s

/-- ADDITIVE of a compartment number and position (R178). -/
def State.additiveStatus (n position : Nat) (s : State) : State × Reply :=
  if n < 1 ∨ 8 < n ∨ position < 1 ∨ 2 < position then refuse .badArgument s
  else match s.load with
    | none => refuse .state s
    | some l =>
      match (l.comp? n).bind fun c => c.additives.find? fun r => r.position == position with
      | none => refuse .notFound s
      | some r => reply .ok (.additive r) s

/-- STATUS-READ (R178, R179). -/
def ownStatusRead (sect index position : Nat) (s : State) : State × Reply :=
  match sect with
  | 0 => reply .ok (.bay s.bayStatus) s
  | 1 => s.compStatus index
  | 2 => s.additiveStatus index position
  | 3 =>
    match four? index with
    | none => refuse .badArgument s
    | some a => reply .ok (.arm (s.armStatus a)) s
  | 4 => reply .ok (.pumps (fours.map fun p => s.pumps[p].status)) s
  | 5 =>
    match eight? index with
    | none => refuse .badArgument s
    | some j => reply .ok (.injector s.injectors[j].status) s
  | 6 => reply .ok (.safety s.safetyStatus) s
  | 7 => reply .ok (.notes (eights.map fun i => s.slots[i].status) s.serial s.holdMinutes) s
  | _ => refuse .badArgument s

def execStatusRead (w : Win) (sect index position : Nat) (s : State) : Host.Outcome State Fault Refusal :=
  request .statusRead w (ownStatusRead sect index position) s

end Sys2Proof.Machine
end

