-- ==== Sys2Proof/Machine/AuditMem.lean ====
section
/-! DEFINITION. The audit memory (chapter 10): what a completed record write does, the owed records, the power-fail save,
power failure, reset, and start-up. -/

namespace Sys2Proof.Machine

/-! ### Records in audit memory (section 10.1) -/

/-- The permit records with a card's record written: its entry, or the mark that the card is deleted (R27). -/
def writePermit (card : Nat) (entry : Option PermitEntry) (permits : List PermitEntry) : List PermitEntry :=
  match entry with
  | none => withPermit card none permits
  | some e =>
    if permits.any fun x => x.content.card == card then withPermit card (some e) permits else permits ++ [e]

/-- A calibration record written (R142). -/
def Audit.writeItem (cec : Nat) (i : CalItem) (a : Audit) : Audit :=
  match i with
  | .meterConstant m k => { a with meterK := a.meterK.set m { value := k, cec } }
  | .factorCurve m c => { a with curve := a.curve.set m { value := c, cec } }
  | .probeOffset p o => { a with offset := a.offset.set p { value := o, cec } }
  | .strokeVolume j v => { a with stroke := a.stroke.set j { value := v, cec } }

/-- The audit memory once a record is written whole (R180). A commit record holds the note, its serial, the serial counter
and the retirement of the load image together (R155). -/
def Audit.write (r : Record) (a : Audit) : Audit :=
  match r with
  | .product code entry => { a with products := a.products.set code entry }
  | .permit card entry _ => { a with permits := writePermit card entry a.permits }
  | .arm arm config _ => { a with arms := a.arms.set arm config }
  | .block flags => { a with blocked := flags }
  | .pump pump config => { a with pumps := a.pumps.set pump config }
  | .injector j assign => { a with injectors := a.injectors.set j assign }
  | .recipe i entry => { a with recipes := a.recipes.set i entry }
  | .deadman period warning => { a with period, warning }
  | .calibration i cec => a.writeItem cec i
  | .checkpoint totals => { a with checkpoint := totals }
  | .image l => { a with image := some l }
  | .commit slot note serial => { a with slots := a.slots.set slot (some { note, serial }), serial, image := none }
  | .release slot => { a with slots := a.slots.set slot none }
  | .noteConfig minutes => { a with holdMinutes := minutes }
  | .saveInvalid => { a with save := { a.save with valid := false } }

/-- The object and value of the NV_DONE that the completion of a record posts, for a record that answered a request with
ACCEPTED (R174, R181). -/
def Record.done : Record → Option (ObjectKind × Nat × Nat)
  | .product code _ => some (.productRecord, code.val, 0)
  | .permit card _ true => some (.permitRecord, 0, card)
  | .permit _ _ false => none
  | .arm a _ false => some (.armRecord, a.val, 0)
  | .arm _ _ true => none
  | .block _ => some (.blockRecord, 0, 0)
  | .pump p _ => some (.pumpRecord, p.val, 0)
  | .injector j _ => some (.injectorRecord, j.val, 0)
  | .recipe i _ => some (.recipeRecord, i.val + 1, i.val + 1)
  | .deadman _ _ => some (.deadmanRecord, 0, 0)
  | .calibration (.meterConstant m _) cec => some (.meterConstant, m.val, cec)
  | .calibration (.factorCurve m _) cec => some (.factorCurve, m.val, cec)
  | .calibration (.probeOffset p _) cec => some (.probeOffset, p.val, cec)
  | .calibration (.strokeVolume j _) cec => some (.strokeVolume, j.val, cec)
  | .noteConfig _ => some (.noteConfigRecord, 0, 0)
  | .checkpoint _ => none
  | .image _ => none
  | .commit _ _ _ => none
  | .release _ => none
  | .saveInvalid => none

/-- The event that the completion of a record posts, if any. -/
def State.postDone (r : Record) (s : State) : State :=
  match r.done with
  | none => s
  | some d => s.post .nvDone d.1 d.2.1 (w32 d.2.2)

/-- A slot whose commit has completed (R156). -/
def Slot.stored (note : Note) (serial minutes : Nat) : Slot :=
  { state := .stored, note := some note, serial := some serial, printed := false, holdTimer := some (minutes * 60000),
    holdExpired := false }

/-- The note unit takes the completion of a commit record, and the load record is released (R156, R20). -/
def State.committed (r : Record) (s : State) : State :=
  match r with
  | .commit slot note serial =>
    ((({ s with serial } : State).modifySlot slot fun _ => Slot.stored note serial s.holdMinutes).post .noteReady
      .noteSlot slot.val (w32 serial)).releaseLoad
  | .product _ _ | .permit _ _ _ | .arm _ _ _ | .block _ | .pump _ _ | .injector _ _ | .recipe _ _ | .deadman _ _
  | .calibration _ _ | .checkpoint _ | .image _ | .release _ | .noteConfig _ | .saveInvalid => s

/-! ### Owed records (R182) -/

/-- The lowest-numbered arm with anticipation owed. -/
def State.antOwedArm (s : State) : Option (Fin 4) := fours.find? fun a => s.arms[a].antOwed

/-- The freed place is given to the learned arm record that is owed first, or to a start-up record that awaits a place. -/
def State.grantLast (s : State) : State :=
  match s.antOwedArm with
  | some a => (s.enqueue (.arm a s.arms[a].config true)).modifyArm a fun x => { x with antOwed := false }
  | none =>
    match s.backlog with
    | [] => s
    | r :: rest => { s.enqueue r with backlog := rest }

/-- The freed place is given to the commit record or the checkpoint, where one is owed, or further down (R182). -/
def State.grantCommit (s : State) : State :=
  match s.commitRecord? with
  | some (i, r) => s.queueCommit i r
  | none => if s.checkpointOwed then { s.enqueue (.checkpoint s.totals) with checkpointOwed := false } else s.grantLast

/-- The freed place is given to the charged permit record where one is owed, or further down (R182). -/
def State.grantCharge (s : State) : State :=
  match s.chargeOwed with
  | some r => { s.enqueue r with chargeOwed := none }
  | none => s.grantCommit

/-- The place that a completion frees is given to one owed record (R182). -/
def State.grant (s : State) : State :=
  match s.load, s.imageOwed with
  | some l, true => { s.enqueue (.image l) with imageOwed := false }
  | _, _ => s.grantCharge

/-! ### The power-fail save (R184) -/

/-- The figures of a meter that the save takes. -/
def Meter.saved (x : Meter) : SavedMeter :=
  { gross := x.gross, net := x.net, remI := x.remI, remG := x.remG, remN := x.remN, debt := x.debt }

/-- The values that the save takes. -/
def State.saveData (s : State) : SaveData :=
  { meters := #v[s.meters[0].saved, s.meters[1].saved, s.meters[2].saved, s.meters[3].saved]
    injectors := s.totals.injectors, load := s.load }

/-- Every meter changed. -/
def State.mapMeters (f : Meter → Meter) (s : State) : State :=
  { s with meters := #v[f s.meters[0], f s.meters[1], f s.meters[2], f s.meters[3]] }

/-- The part takes the save: its values, the start of its write, the meter channels stopped (R184, R44). -/
def State.takeSave (s : State) : State :=
  { s.mapMeters fun x => { x with gateTimer := none, decoding := false } with saving := some s.saveData }

/-- SAVE_WRITE_COMPLETE (R184): it concerns a save in progress. -/
def execSaveWriteComplete (s : State) : Host.Outcome State Fault Refusal :=
  match s.saving with
  | none => .next s
  | some d =>
    .next { s with saving := none, audit := { s.audit with save := { checkHolds := true, valid := true, data := d } } }

/-! ### RECORD_WRITE_COMPLETE (R181) -/

/-- The head record has been written: it leaves the queue, stands in audit memory, and its completion is taken; the free
place is given to an owed record, or in POWER_DOWN an empty queue lets the save be taken (R181, R182, R184). -/
def State.written (r : Record) (rest : List Record) (s : State) : State :=
  let s1 : State :=
    { s with queue := rest, writing := false, audit := s.audit.write r, startRecords := s.startRecords - 1 }
  let s2 := (s1.postDone r).committed r
  if s2.phase = .powerDown then if s2.queue.isEmpty then s2.takeSave else s2 else s2.grant

/-- RECORD_WRITE_COMPLETE: it concerns a write in progress (R181), and a part held by RESET has none (R180). -/
def execRecordWriteComplete (s : State) : Host.Outcome State Fault Refusal :=
  match s.queue, s.writing with
  | r :: rest, true => if s.phase = .held then .next s else .next (s.written r rest).startWrite
  | _, _ => .next s

/-! ### Power failure (R183) -/

/-- An arm in the event of PFAIL (R72); what it owed is dropped (R183). -/
def Arm.powerDown (x : Arm) : Arm :=
  { x with valve := .closed, settleTimer := none, closeTimer := none, antOwed := false }

/-- A pump in the event of PFAIL (R95). -/
def Pump.powerDown (x : Pump) : Pump := { x with run := false, timer := none }

/-- Every slot changed. -/
def State.mapSlots (f : Slot → Slot) (s : State) : State :=
  { s with
    slots := #v[f s.slots[0], f s.slots[1], f s.slots[2], f s.slots[3], f s.slots[4], f s.slots[5], f s.slots[6],
      f s.slots[7]] }

/-- The part enters POWER_DOWN (R183); start-up, if it was in progress, goes no further (R186). -/
def State.powerDown (s : State) : State :=
  let s1 := (((s.mapArms Arm.powerDown).mapPumps Pump.powerDown).cutStrokes).mapSlots fun x => { x with holdTimer := none }
  let s2 : State :=
    { s1 with
      safety := { s1.safety with validity := none, horn := false }
      phase := .powerDown, pfail := true, imageOwed := false, chargeOwed := none, checkpointOwed := false
      backlog := [], startRecords := 0 }
  if s2.queue.isEmpty then s2.takeSave else s2

/-- PFAIL_ASSERTION (R183): from start-up or while running; in POWER_DOWN a further change changes nothing, and while RESET
is active no input is taken (R189). -/
def execPfailAssertion (s : State) : Host.Outcome State Fault Refusal :=
  match s.phase with
  | .held | .powerDown => .next s
  | .startUp | .running => .next s.powerDown

/-! ### Reset and loss of power (R180, R184, R189) -/

/-- What audit memory holds once a write in progress is cut: a record of two copies holds its new content exactly when its
first copy was already whole; the save area, of one copy, fails its check (R180, R184, assumption log 24). -/
def State.auditCut (firstCopyWhole : Bool) (s : State) : Audit :=
  let a := match s.queue, s.writing with
    | .saveInvalid :: _, true => { s.audit with save := { s.audit.save with checkHolds := false } }
    | r :: _, true => if firstCopyWhole then s.audit.write r else s.audit
    | _, _ => s.audit
  if s.saving.isSome then { a with save := { a.save with checkHolds := false } } else a

/-- What audit memory holds once RESET has been asserted. While the part runs, POWER_DOWN included, RESET begins an abrupt
start-up (R189), and a start-up is abrupt exactly where the save area is not valid (section 10.3, R185): so a save that
POWER_DOWN had completed is valid no more. A RESET before START leaves the save as it is (R186, assumption log 10). -/
def State.auditReset (firstCopyWhole : Bool) (s : State) : Audit :=
  let a := s.auditCut firstCopyWhole
  if s.started then { a with save := { a.save with valid := false } } else a

/-- The part is held with what audit memory holds, its outputs off and its volatile state gone; the model's own queue
stays. -/
def State.hold (a : Audit) (s : State) : State := { State.held a with pending := s.pending }

/-- RESET_ASSERTION (R189). The operand is whether the first copy of a write in progress was already whole (R180). -/
def execResetAssertion (firstCopyWhole : Bool) (s : State) : Host.Outcome State Fault Refusal :=
  .next (s.hold (s.auditReset firstCopyWhole))

/-- LOSS_OF_POWER (R180, R184). -/
def execLossOfPower (firstCopyWhole : Bool) (s : State) : Host.Outcome State Fault Refusal :=
  .next (s.hold (s.auditCut firstCopyWhole))

/-! ### Start-up (R185, R186) -/

/-- The save area is valid (R185). -/
def SaveArea.usable (x : SaveArea) : Bool := x.checkHolds && x.valid

/-- The meter figures that start-up restores (R68, R185). -/
def Audit.restoredMeters (a : Audit) : Vector SavedMeter 4 :=
  if a.save.usable then a.save.data.meters
  else #v[.ofCheckpoint a.checkpoint.meters[0], .ofCheckpoint a.checkpoint.meters[1],
    .ofCheckpoint a.checkpoint.meters[2], .ofCheckpoint a.checkpoint.meters[3]]

/-- The injector totals that start-up restores (R138). -/
def Audit.restoredInjectors (a : Audit) : Vector Nat 8 :=
  if a.save.usable then a.save.data.injectors else a.checkpoint.injectors

/-- The load that start-up restores, as its source holds it (R185). -/
def Audit.sourceLoad (a : Audit) : Option LoadRecord := if a.save.usable then a.save.data.load else a.image

/-- A compartment as a restoration sets it (R24): active ones HALTED with cause POWER, close reasons absent. -/
def CompRecord.restored (meters : Vector SavedMeter 4) (c : CompRecord) : CompRecord :=
  let m := meters[c.line.arm]
  if c.state.isActive then
    { c with
      state := .halted, haltCause := some .power, closeReason := none
      closing := some { gross := m.gross, net := m.net } }
  else { c with closeReason := none }

/-- In a load restored in CLOSING, a compartment set HALTED goes on at once to DONE with SHORT and is judged (R24). -/
def CompRecord.restoredClosing (meters : Vector SavedMeter 4) (c : CompRecord) : CompRecord :=
  if c.state.isActive then ({ (c.restored meters).short with state := .done } : CompRecord).judged else c.restored meters

/-- A load as a restoration rebuilds it (R24, R132). DESIGN CHOICE: a load state that the re-evaluation changes is set with
no LOAD_STATE posted, though R24 excludes only COMPARTMENT_STATE and CAUSE_RAISED by name (assumption log 38). -/
def LoadRecord.restored (meters : Vector SavedMeter 4) (abrupt : Bool) (l : LoadRecord) : LoadRecord :=
  let closing := l.state == .closing
  let l' : LoadRecord :=
    { l with
      comps := l.comps.map (if closing then CompRecord.restoredClosing meters else CompRecord.restored meters)
      causes := { l.causes with power := true, permissive := l.causes.permissive || !closing }
      totalsUncertain := l.totalsUncertain || (abrupt && l.comps.any fun c => c.state.isFlowing) }
  { l' with state := l'.evaluated }

/-- An entry in use whose card is not that of the restored load (R41). -/
def PermitEntry.stale (card : Option Nat) (e : PermitEntry) : Bool := e.inUse && card != some e.content.card

/-- The permit table reconciled against the restored load (R41). -/
def reconciled (card : Option Nat) (permits : List PermitEntry) : List PermitEntry :=
  permits.filterMap fun e => if e.stale card then e.settled else some e

/-- The permit records of the reconciliation (R41). -/
def reconciliation (card : Option Nat) (permits : List PermitEntry) : List Record :=
  (permits.filter (PermitEntry.stale card)).map fun e => .permit e.content.card e.settled false

/-- The injector of a component result is re-armed (R115). -/
def State.rearm (n : Nat) (r : ComponentResult) (s : State) : State :=
  match r.injector with
  | none => s
  | some j => s.modifyInjector j (Injector.arm n r.position)

/-- The injectors of a restored compartment that is not DONE are re-armed (R115). -/
def State.rearmComp (s : State) (c : CompRecord) : State :=
  if c.state = .done then s else c.additives.foldl (fun s r => s.rearm c.line.compartment r) s

/-- The restored load is set in its record: its injectors re-armed, its slot RESERVED (R115, R163). -/
def State.withLoad (l : Option LoadRecord) (s : State) : State :=
  match l with
  | none => s
  | some l => (l.comps.foldl State.rearmComp { s with load := some l }).modifySlot l.slot fun _ =>
      { Slot.freed with state := .reserved }

/-- The records that start-up queues, in their order (R186). -/
def startRecordList (orderly : Bool) (permits : List Record) (l : Option LoadRecord) (t : Totals) : List Record :=
  permits ++ (l.toList.map Record.image) ++ (if orderly then [.checkpoint t, .saveInvalid] else [])

/-- Start-up begins: every block restores its records, and start-up queues its own; those beyond the eighth await a place
(R185, R186, assumption log 25). -/
def State.startUp (i : SampledInputs) (s : State) : State :=
  let a := s.audit
  let orderly := a.save.usable
  let l := a.sourceLoad.map (LoadRecord.restored a.restoredMeters !orderly)
  let card := l.map LoadRecord.card
  let base := (State.fresh a a.restoredMeters a.restoredInjectors i).withLoad l
  let records := startRecordList orderly (reconciliation card a.permits) l base.totals
  { base with
    phase := .startUp, startMark := if orderly then .orderly else .abrupt, permits := reconciled card a.permits
    queue := records.take 8, backlog := records.drop 8, startRecords := records.length
    pending := s.pending }

/-- START_UP (R185): it begins when RESET is released or power comes, so it concerns a part that is held. -/
def execStartUp (i : SampledInputs) (s : State) : Host.Outcome State Fault Refusal :=
  match s.phase with
  | .held => .next (s.startUp i).startWrite
  | .startUp | .running | .powerDown => .next s

/-- Start-up ends: its writes have completed and the ESD input has its first filtered level (R186). -/
def State.startReady (s : State) : Bool := s.phase == .startUp && s.startRecords == 0 && s.safety.esdInput.isSome

/-- START is posted; gate timers and poll slots begin, and a load restored in CLOSING passes its close hand-off again
(R186). F, B and E were set to 0 at START_UP (R68), and what the decoders have counted since falls in the first gate
(assumption log 11). -/
def State.begin (s : State) : State :=
  let s1 : State :=
    { s.mapMeters fun x => { x with gateTimer := some 100 } with
      phase := .running, started := true, scanner := { channel := 0, request := pollRequest 0, slotTimer := some 250 } }
  let s2 := s1.post .start .none 0 (startValue s.startMark s.load.isSome)
  match s.load with
  | none => s2
  | some l => if l.state = .closing then s2.handOff else s2

/-- START (R186). -/
def execStart (s : State) : Host.Outcome State Fault Refusal :=
  if s.startReady then .next s.begin.startWrite else .next s

end Sys2Proof.Machine
end

