-- ==== Sys2Proof/Machine/Window.lean ====
section
/-! DEFINITION. A whole select window of bytes (R165 to R168): the judgement of its frame, the checks at the port, and the
taking of the request it carries. -/

namespace Sys2Proof.Machine

/-- The owner's work on a request, by the request (R168). A command that is no request has no owner; no frame decodes to
one (assumption log 17). -/
def ownerOf (i : Instr) (s : State) : State × Reply :=
  match i with
  | .nop _ => ownNop s
  | .statusRead _ sect index position => ownStatusRead sect index position s
  | .totalsRead _ object => ownTotalsRead object s
  | .eventRead w => ownEventRead w.port s
  | .productPut _ code entry => ownProductPut code entry s
  | .productRead _ code => ownProductRead code s
  | .orderBegin _ number binding carrier count => ownOrderBegin number binding carrier count s
  | .orderLine _ index line => ownOrderLine index line s
  | .orderCancel _ number => ownOrderCancel number s
  | .orderAmend _ number compartment preset => ownOrderAmend number compartment preset s
  | .compartmentStart _ n => ownCompartmentStart n s
  | .compartmentStop _ n => ownCompartmentStop n s
  | .loadFinish _ => ownLoadFinish s
  | .loadResume _ => ownLoadResume s
  | .loadAbort _ => ownLoadAbort s
  | .timeSet _ day second => ownTimeSet day second s
  | .permitPut _ entry => ownPermitPut entry s
  | .permitDelete _ card => ownPermitDelete card s
  | .permitBlock _ card => ownPermitBlock card s
  | .permitUnblock _ card => ownPermitUnblock card s
  | .permitRead _ card => ownPermitRead card s
  | .careMaskSet _ mask => ownCareMaskSet mask s
  | .cardPresent _ card => ownCardPresent card s
  | .cardWithdraw _ => ownCardWithdraw s
  | .orderList _ start => ownOrderList start s
  | .orderSelect _ number => ownOrderSelect number s
  | .armConfig _ arm config => ownArmConfig arm config s
  | .armClear _ mask => ownArmClear mask s
  | .armBlock _ mask => ownArmBlock mask s
  | .armUnblock _ mask => ownArmUnblock mask s
  | .pumpConfig _ pump config => ownPumpConfig pump config s
  | .pumpReset _ pump => ownPumpReset pump s
  | .injectorAssign _ injector arm additive timeout => ownInjectorAssign injector arm additive timeout s
  | .injectorReset _ injector => ownInjectorReset injector s
  | .recipePut _ number defined components => ownRecipePut number defined components s
  | .recipeRead _ number => ownRecipeRead number s
  | .deadmanConfig _ period warning => ownDeadmanConfig period warning s
  | .deadman _ kind => ownDeadman kind s
  | .permissiveReport _ ground overfillOk vapour => ownPermissiveReport ground overfillOk vapour s
  | .stopAll _ mask => ownStopAll mask s
  | .resume _ => ownResume s
  | .esdReset _ => ownEsdReset s
  | .meterErrors _ meter => ownMeterErrors meter s
  | .meterClearDebt _ meter => ownMeterClearDebt meter s
  | .calWrite _ index value => ownCalWrite index value s
  | .calRead _ kind index => ownCalRead kind index s
  | .noteConfig _ minutes => ownNoteConfig minutes s
  | .noteRelease _ serial => ownNoteRelease serial s
  | .notePrinted _ serial => ownNotePrinted serial s
  | .noteOpen w serial first last direction => ownNoteOpen w.port serial first last direction s
  | .noteRead w => ownNoteRead w.port s
  | .selectWindow _ _ | .quadratureStep _ _ | .integrityError _ | .gateExpiry _ | .pollSlot _ | .settleTimerExpiry _
  | .closeTimerExpiry _ | .pumpFeedback _ _ | .startTimerExpiry _ | .runOnTimerExpiry _ | .injectorFeedback _ _
  | .feedbackTimerExpiry _ | .esdInputChange _ | .validityTimerExpiry | .firstExpiry | .secondExpiry
  | .contextTimerExpiry | .holdTimerExpiry _ | .sealInputChange _ | .bayClockSecond | .recordWriteComplete
  | .saveWriteComplete | .pfailAssertion | .resetAssertion _ | .startUp _ | .start | .lossOfPower _ =>
    refuse .badArgument s

/-- A refusal at the port: a status with the tag echoed and no payload (R168). -/
def State.refused (p : Port) (tag : Byte) (status : Status) (s : State) : State :=
  s.respond p tag { status, payload := .none }

/-- The checks of R168 on a frame of code `code`, after the window has passed. -/
def State.framed (w : Win) (code : Nat) (payload : List Byte) (s : State) : State :=
  match reqCodeOf code with
  | none => s.refused w.port w.tag .unknownRequest
  | some c =>
    if !permitted c w.port then s.refused w.port w.tag .notPermitted
    else if s.phase = .powerDown then s.refused w.port w.tag .busy
    else match readRequest w c payload with
      | none => s.refused w.port w.tag .badArgument
      | some i => s.take w (ownerOf i)

/-- What follows a window, by the judgement of its bytes (R167). -/
def State.judged (p : Port) (bytes : List Byte) (j : Inbound) (s : State) : State :=
  match j with
  | .malformed => s
  | .badCrc tag => s.refused p tag .badFrame
  | .framed tag code payload =>
    s.framed { port := p, tag, payload, after := bytes.drop (payload.length + 5) } code payload

/-- SELECT_WINDOW: a whole window whose bytes the master gives (R165 to R168). -/
def execSelectWindow (p : Port) (bytes : List Byte) (s : State) : Host.Outcome State Fault Refusal :=
  if s.takesWindows then
    .next ((s.window p bytes.length (bytes.take 65)).judged p bytes (judgeInbound (bytes.take 65)))
  else .next (s.noWindow p bytes.length)

end Sys2Proof.Machine
end

