-- ==== Sys2Proof/Machine/Time.lean ====
section
/-! DEFINITION. The passing of a millisecond while no command waits (assumption log 2): every timer that runs has one
millisecond less, and what a timer does at its end is its own command. -/

namespace Sys2Proof.Machine

/-- A timer a millisecond later; one at 0 waits for its expiry to be taken. -/
def Timer.tick (t : Timer) : Timer := t.map fun k => k - 1

def Arm.tick (x : Arm) : Arm := { x with settleTimer := Timer.tick x.settleTimer, closeTimer := Timer.tick x.closeTimer }

def Pump.tick (x : Pump) : Pump := { x with timer := Timer.tick x.timer }

def Meter.tick (x : Meter) : Meter := { x with gateTimer := Timer.tick x.gateTimer }

def Injector.tick (x : Injector) : Injector := { x with timer := Timer.tick x.timer }

def Context.tick (x : Context) : Context := { x with timer := Timer.tick x.timer }

def Slot.tick (x : Slot) : Slot := { x with holdTimer := Timer.tick x.holdTimer }

/-- Every injector changed. -/
def State.mapInjectors (f : Injector → Injector) (s : State) : State :=
  { s with
    injectors := #v[f s.injectors[0], f s.injectors[1], f s.injectors[2], f s.injectors[3], f s.injectors[4],
      f s.injectors[5], f s.injectors[6], f s.injectors[7]] }

/-- The safety unit's timers; the deadman timer counts while a compartment flows, and not once it has expired (R127). -/
def Safety.tick (counts : Bool) (y : Safety) : Safety :=
  { y with validity := Timer.tick y.validity, timer := if counts && y.stage != .expired then y.timer - 1 else y.timer }

/-- Every timer but the hold timers, which stop in POWER_DOWN (R164). -/
def State.tickTimers (s : State) : State :=
  { (((s.mapArms Arm.tick).mapPumps Pump.tick).mapMeters Meter.tick).mapInjectors Injector.tick with
    safety := s.safety.tick s.deadmanCounts
    context := s.context.map Context.tick
    scanner := { s.scanner with slotTimer := Timer.tick s.scanner.slotTimer } }

/-- A millisecond passes; no timer runs before START (R185). -/
def State.tick (s : State) : State :=
  match s.phase with
  | .held | .startUp => s
  | .powerDown => s.tickTimers
  | .running => s.tickTimers.mapSlots Slot.tick

end Sys2Proof.Machine
end

