-- ==== Sys2Proof/Machine/Dispatch.lean ====
section
/-! DEFINITION. The meaning of each command, one arm for each row of spec/opcode_table.json. -/

namespace Sys2Proof.Machine

def exec (i : Instr) (s : State) : Host.Outcome State Fault Refusal :=
  match i with
  | .nop w => Sys2Proof.Machine.execNop w s
  | .statusRead w sect index position => Sys2Proof.Machine.execStatusRead w sect index position s
  | .totalsRead w object => Sys2Proof.Machine.execTotalsRead w object s
  | .eventRead w => Sys2Proof.Machine.execEventRead w s
  | .productPut w code entry => Sys2Proof.Machine.execProductPut w code entry s
  | .productRead w code => Sys2Proof.Machine.execProductRead w code s
  | .orderBegin w number binding carrier count => Sys2Proof.Machine.execOrderBegin w number binding carrier count s
  | .orderLine w index line => Sys2Proof.Machine.execOrderLine w index line s
  | .orderCancel w number => Sys2Proof.Machine.execOrderCancel w number s
  | .orderAmend w number compartment preset => Sys2Proof.Machine.execOrderAmend w number compartment preset s
  | .compartmentStart w compartment => Sys2Proof.Machine.execCompartmentStart w compartment s
  | .compartmentStop w compartment => Sys2Proof.Machine.execCompartmentStop w compartment s
  | .loadFinish w => Sys2Proof.Machine.execLoadFinish w s
  | .loadResume w => Sys2Proof.Machine.execLoadResume w s
  | .loadAbort w => Sys2Proof.Machine.execLoadAbort w s
  | .timeSet w day second => Sys2Proof.Machine.execTimeSet w day second s
  | .permitPut w entry => Sys2Proof.Machine.execPermitPut w entry s
  | .permitDelete w card => Sys2Proof.Machine.execPermitDelete w card s
  | .permitBlock w card => Sys2Proof.Machine.execPermitBlock w card s
  | .permitUnblock w card => Sys2Proof.Machine.execPermitUnblock w card s
  | .permitRead w card => Sys2Proof.Machine.execPermitRead w card s
  | .careMaskSet w mask => Sys2Proof.Machine.execCareMaskSet w mask s
  | .cardPresent w card => Sys2Proof.Machine.execCardPresent w card s
  | .cardWithdraw w => Sys2Proof.Machine.execCardWithdraw w s
  | .orderList w start => Sys2Proof.Machine.execOrderList w start s
  | .orderSelect w number => Sys2Proof.Machine.execOrderSelect w number s
  | .armConfig w arm config => Sys2Proof.Machine.execArmConfig w arm config s
  | .armClear w mask => Sys2Proof.Machine.execArmClear w mask s
  | .armBlock w mask => Sys2Proof.Machine.execArmBlock w mask s
  | .armUnblock w mask => Sys2Proof.Machine.execArmUnblock w mask s
  | .pumpConfig w pump config => Sys2Proof.Machine.execPumpConfig w pump config s
  | .pumpReset w pump => Sys2Proof.Machine.execPumpReset w pump s
  | .injectorAssign w injector arm additive timeout => Sys2Proof.Machine.execInjectorAssign w injector arm additive timeout s
  | .injectorReset w injector => Sys2Proof.Machine.execInjectorReset w injector s
  | .recipePut w number defined components => Sys2Proof.Machine.execRecipePut w number defined components s
  | .recipeRead w number => Sys2Proof.Machine.execRecipeRead w number s
  | .deadmanConfig w period warning => Sys2Proof.Machine.execDeadmanConfig w period warning s
  | .deadman w kind => Sys2Proof.Machine.execDeadman w kind s
  | .permissiveReport w ground overfillOk vapour => Sys2Proof.Machine.execPermissiveReport w ground overfillOk vapour s
  | .stopAll w mask => Sys2Proof.Machine.execStopAll w mask s
  | .resume w => Sys2Proof.Machine.execResume w s
  | .esdReset w => Sys2Proof.Machine.execEsdReset w s
  | .meterErrors w meter => Sys2Proof.Machine.execMeterErrors w meter s
  | .meterClearDebt w meter => Sys2Proof.Machine.execMeterClearDebt w meter s
  | .calWrite w index value => Sys2Proof.Machine.execCalWrite w index value s
  | .calRead w kind index => Sys2Proof.Machine.execCalRead w kind index s
  | .noteConfig w minutes => Sys2Proof.Machine.execNoteConfig w minutes s
  | .noteRelease w serial => Sys2Proof.Machine.execNoteRelease w serial s
  | .notePrinted w serial => Sys2Proof.Machine.execNotePrinted w serial s
  | .noteOpen w serial first last direction => Sys2Proof.Machine.execNoteOpen w serial first last direction s
  | .noteRead w => Sys2Proof.Machine.execNoteRead w s
  | .selectWindow port bytes => Sys2Proof.Machine.execSelectWindow port bytes s
  | .quadratureStep meter input => Sys2Proof.Machine.execQuadratureStep meter input s
  | .integrityError meter => Sys2Proof.Machine.execIntegrityError meter s
  | .gateExpiry meter => Sys2Proof.Machine.execGateExpiry meter s
  | .pollSlot answer => Sys2Proof.Machine.execPollSlot answer s
  | .settleTimerExpiry arm => Sys2Proof.Machine.execSettleTimerExpiry arm s
  | .closeTimerExpiry arm => Sys2Proof.Machine.execCloseTimerExpiry arm s
  | .pumpFeedback pump on => Sys2Proof.Machine.execPumpFeedback pump on s
  | .startTimerExpiry pump => Sys2Proof.Machine.execStartTimerExpiry pump s
  | .runOnTimerExpiry pump => Sys2Proof.Machine.execRunOnTimerExpiry pump s
  | .injectorFeedback injector on => Sys2Proof.Machine.execInjectorFeedback injector on s
  | .feedbackTimerExpiry injector => Sys2Proof.Machine.execFeedbackTimerExpiry injector s
  | .esdInputChange active => Sys2Proof.Machine.execEsdInputChange active s
  | .validityTimerExpiry => Sys2Proof.Machine.execValidityTimerExpiry s
  | .firstExpiry => Sys2Proof.Machine.execFirstExpiry s
  | .secondExpiry => Sys2Proof.Machine.execSecondExpiry s
  | .contextTimerExpiry => Sys2Proof.Machine.execContextTimerExpiry s
  | .holdTimerExpiry slot => Sys2Proof.Machine.execHoldTimerExpiry slot s
  | .sealInputChange active => Sys2Proof.Machine.execSealInputChange active s
  | .bayClockSecond => Sys2Proof.Machine.execBayClockSecond s
  | .recordWriteComplete => Sys2Proof.Machine.execRecordWriteComplete s
  | .saveWriteComplete => Sys2Proof.Machine.execSaveWriteComplete s
  | .pfailAssertion => Sys2Proof.Machine.execPfailAssertion s
  | .resetAssertion firstCopyWhole => Sys2Proof.Machine.execResetAssertion firstCopyWhole s
  | .startUp inputs => Sys2Proof.Machine.execStartUp inputs s
  | .start => Sys2Proof.Machine.execStart s
  | .lossOfPower firstCopyWhole => Sys2Proof.Machine.execLossOfPower firstCopyWhole s

end Sys2Proof.Machine
end

