-- ==== Sys2Proof/Safety.lean ====
section
/-! DEFINITION. What a safe run keeps, in the terms that statements use. -/

namespace Sys2Proof.Machine

/-- The valve command of an arm fits its state (table of section 4.2.2): the valve is open only in LOW, FULL and SLOWDOWN,
and the main valve is open only in FULL without the deadman hold. -/
def Arm.ValveFits (x : Arm) : Prop :=
  (x.valve ≠ .closed → x.state.isFlowing = true) ∧ (x.valve = .full → x.state = .full ∧ x.hold = false)

/-- Every valve fits its arm's state. -/
def State.ValvesFit (s : State) : Prop := ∀ a : Fin 4, s.arms[a].ValveFits

/-- The load state stands as the table of R12 gives it: CLOSING once entered; else SUSPENDED while a cause stands, ACTIVE
while a compartment is active, and OPEN otherwise. -/
def LoadRecord.Tabled (l : LoadRecord) : Prop :=
  l.state = .closing
    ∨ l.state = if l.causes.isEmpty = false then .suspended
      else if ∃ c ∈ l.comps, c.state.isActive = true then .active
      else .opened

/-- The load record has passed its close hand-off: CLOSING, with its close time, and no compartment active (R19). -/
def LoadRecord.HandedOff (l : LoadRecord) : Prop :=
  l.state = .closing ∧ l.closeTime.isSome = true ∧ ∀ c ∈ l.comps, c.state.isActive = false

/-- A record that holds a note to be committed. -/
def Record.isCommit : Record → Bool
  | .commit _ _ _ => true
  | _ => false

/-- The arms and the load record agree, so that product flows only where the rules let it. The other parts are what keeps
`staging` true from step to step. -/
structure State.FlowLawful (s : State) : Prop where
  /-- Each valve command fits its arm's state. -/
  fits : s.ValvesFit
  /-- The load state is that of R12. -/
  tabled : ∀ l, s.load = some l → l.Tabled
  /-- The compartment that an arm serves is active, and its line is the arm's (R73, R81). -/
  served : ∀ (a : Fin 4) (n : Nat), s.arms[a].served = some n →
    ∃ l c, s.load = some l ∧ l.comp? n = some c ∧ c.line.arm = a ∧ c.state.isActive = true
  /-- An arm from PRIMING to SLOWDOWN serves a compartment that a drive can reach, of an ACTIVE load with no cause (R14,
  R21, R80). -/
  staging : ∀ a : Fin 4, s.arms[a].state.isStaging = true →
    ∃ n l c, s.arms[a].served = some n ∧ s.load = some l ∧ l.comp? n = some c ∧ c.state.isDrivable = true
      ∧ l.state = .active ∧ l.causes.isEmpty = true
  /-- While the ESD latch is set, ESD stands in the causes of the load (R10, R124). -/
  latched : s.safety.esdLatch = true → ∀ l, s.load = some l → l.causes.esd = true
  /-- A context stands only while no load is open (R33, R39). -/
  context : s.context.isSome = true → s.load = none
  /-- A commit record waits only for a load that has passed its close hand-off (R155). -/
  committing : (∃ r ∈ s.queue, r.isCommit = true) → ∃ l, s.load = some l ∧ l.HandedOff
  /-- A note composed in the load's slot is not yet in the queue, and its load has passed the close hand-off (R155). -/
  composing : ∀ l, s.load = some l → s.slots[l.slot].state = .composing →
    l.HandedOff ∧ ∀ r ∈ s.queue, r.isCommit = false
  /-- At most one commit record waits (R155). -/
  oneCommit : (s.queue.filter Record.isCommit).length ≤ 1
  /-- No commit record waits outside the write queue (R182). -/
  noneOwed : (∀ r, s.chargeOwed = some r → r.isCommit = false) ∧ ∀ r ∈ s.backlog, r.isCommit = false
  /-- Start-up finds no compartment active, no commit waiting and no note composed (R24, R163, R186). -/
  starting : s.phase = .startUp →
    (∀ r ∈ s.queue, r.isCommit = false)
      ∧ ∀ l, s.load = some l → s.slots[l.slot].state ≠ .composing ∧ ∀ c ∈ l.comps, c.state.isActive = false

/-- Every output of the part is inactive (R189): valves, pumps, strokes and horn off, TCS and ATTN released, and no byte but 0
on a data out. -/
def State.OutputsOff (s : State) : Prop :=
  (∀ a : Fin 4, s.arms[a].valve.main = false ∧ s.arms[a].valve.trim = false) ∧ (∀ p : Fin 4, s.pumps[p].run = false)
    ∧ (∀ j : Fin 8, s.injectors[j].output = false) ∧ s.safety.horn = false ∧ s.scanner.tcs = false
    ∧ ∀ p : Port, (s.ports.get p).attn = false ∧ ∀ b ∈ (s.ports.get p).shifted, b = 0#8

/-- What DONE makes of an injector bound to the compartment (R112): IDLE and unbound, a stroke cut off, nothing owed, and in
FAULT the consecutive-missed count back at 0. -/
def Injector.ReleasedTo (x y : Injector) : Prop :=
  y = { x with
    state := .idle, binding := none, owed := 0
    output := if x.state = .stroking then false else x.output
    timer := if x.state = .stroking then none else x.timer
    consecutive := if x.state = .fault then 0 else x.consecutive }

/-- What DONE makes of a component result on a final gross, given the strokes that the release cuts off and the owed strokes
that it discards (R112, R113): cut strokes are missed, owed ones skipped, and the result is judged. -/
def ComponentResult.JudgedTo (gross cut owed : Nat) (r r' : ComponentResult) : Prop :=
  let expected := gross * r.component.ratio / 1000
  let apart : Int := (r.delivered : Int) - expected
  let counted : ComponentResult :=
    { r with missed := r.missed + cut, skipped := r.skipped + owed, expected := some expected }
  (∀ (j : Fin 8) (v : Nat), r.injector = some j → r.stroke = some v → 2 * (v * 1000 / (2 * r.component.ratio)) ≤ gross →
    (apart.natAbs * 100 ≤ r.component.tolerance * expected →
      r' = { counted with deviation := some ((apart * 100).tdiv expected), judgement := .within })
    ∧ (r.component.tolerance * expected < apart.natAbs * 100 →
      r' = { counted with deviation := some ((apart * 100).tdiv expected), judgement := .out, markOut := true }))
  ∧ ((r.injector = none ∨ r.stroke = none
      ∨ ∃ v, r.stroke = some v ∧ gross < 2 * (v * 1000 / (2 * r.component.ratio))) →
    r' = { counted with deviation := none, judgement := .notJudged })

/-- What the DONE of a compartment makes of its component results (R112, R113), each counting the strokes and the debts of the
injectors bound to it in `s`. -/
def State.ResultsAtDone (s : State) (c c' : CompRecord) : Prop :=
  c'.additives.length = c.additives.length
    ∧ ∀ (k : Nat) (r : ComponentResult), c.additives[k]? = some r → ∃ r', c'.additives[k]? = some r'
      ∧ r.JudgedTo c.gross
        (eights.filter fun j => s.injectors[j].binding == some ⟨c.line.compartment, r.position⟩
          && s.injectors[j].state == .stroking).length
        ((eights.filter fun j => s.injectors[j].binding == some ⟨c.line.compartment, r.position⟩).map fun j =>
          s.injectors[j].owed).sum r'

/-- What the DONE of compartment `n` makes of the injectors (R112): those bound to it are released, the others stay. -/
def State.InjectorsAtDone (s : State) (n : Nat) (t : State) : Prop :=
  ∀ j : Fin 8, ((∃ p, s.injectors[j].binding = some ⟨n, p⟩) → s.injectors[j].ReleasedTo t.injectors[j])
    ∧ ((∀ p, s.injectors[j].binding ≠ some ⟨n, p⟩) → t.injectors[j] = s.injectors[j])

/-! ### Drives, and the causes that bring them -/

/-- What the arm of compartment `n` leaving the flowing states makes of component results (R111): what the injectors that
stroke for each of them owe in `s` becomes skipped. -/
def State.skipOwed (n : Nat) (rs : List ComponentResult) (s : State) : List ComponentResult :=
  rs.map fun r =>
    { r with
      skipped := r.skipped + ((eights.filter fun j => s.injectors[j].binding == some ⟨n, r.position⟩
        && s.injectors[j].state == .stroking).map fun j => s.injectors[j].owed).sum }

/-- What a flow that stops makes of an injector that doses it (R111): a stroke in flight runs on, and nothing is owed behind
it. -/
def Injector.flowStopped (x : Injector) : Injector := if x.state = .stroking then { x with owed := 0 } else x

/-- What a close drive with a reason makes of a compartment that it reaches (R14, R111). -/
def State.drivenComp (reason : CloseReason) (c : CompRecord) (s : State) : CompRecord :=
  { c with
    state := .closing, closeReason := some reason, additives := s.skipOwed c.line.compartment c.additives }

/-- Every compartment of `l` that a drive can reach has been driven, and no other touched: with its arm as R80 and its
injectors as R111 state. -/
def State.DrivenAll (s : State) (reason : CloseReason) (l u : LoadRecord) (t : State) : Prop :=
  u.comps = l.comps.map (fun c => if c.state.isDrivable then s.drivenComp reason c else c)
    ∧ (∀ a : Fin 4, ((∃ c ∈ l.comps, c.state.isDrivable = true ∧ c.line.arm = a) → t.arms[a] = s.arms[a].driven)
      ∧ ((∀ c ∈ l.comps, c.state.isDrivable = true → c.line.arm ≠ a) → t.arms[a] = s.arms[a]))
    ∧ ∀ j : Fin 8,
      ((∃ c ∈ l.comps, c.state.isDrivable = true ∧ ∃ p, s.injectors[j].binding = some ⟨c.line.compartment, p⟩) →
        t.injectors[j] = s.injectors[j].flowStopped)
      ∧ ((∀ c ∈ l.comps, c.state.isDrivable = true → ∀ p, s.injectors[j].binding ≠ some ⟨c.line.compartment, p⟩) →
        t.injectors[j] = s.injectors[j])

/-- `e` is the last event offered to the ports on the way from `q` to `r`, and no event was taken out on that way. -/
def Ports.EndedBy (e : Event) (q r : Ports) : Prop :=
  ∃ before : Ports, (∀ p : Port, (q.get p).events <+: (before.get p).events) ∧ r = before.offer e

/-- A cause that did not stand in the set of `l` has been put into it (R21, R12): every compartment that a drive can reach is
driven with the cause's halt cause, the load state follows, and CAUSE_RAISED is the last event offered after those of `q`. -/
def State.CauseRaised (s : State) (k : Cause) (l : LoadRecord) (q : Ports) (t : State) : Prop :=
  ∃ u, t.load = some u ∧ u.causes = l.causes.put true k ∧ u.Tabled ∧ s.DrivenAll (.halt k.haltCause) l u t
    ∧ q.EndedBy ⟨.causeRaised, .none, 0, w32 k.number, s.clock.second⟩ t.ports

/-- A cause that stood in the set of `l` has been taken out of it (R22, R12): no compartment changes, the load state follows,
and CAUSE_CLEARED is offered after the events of `q`, with LOAD_STATE behind it where the load state changed. -/
def State.CauseCleared (s : State) (k : Cause) (l : LoadRecord) (q : Ports) (t : State) : Prop :=
  let cleared := q.offer ⟨.causeCleared, .none, 0, w32 k.number, s.clock.second⟩
  ∃ u, t.load = some u ∧ u.causes = l.causes.put false k ∧ u.Tabled ∧ u.comps = l.comps
    ∧ t.ports = if u.state = l.state then cleared
      else cleared.offer ⟨.loadState, .none, 0, w32 u.state.number, s.clock.second⟩

/-- A cause stands in the set of the load or does not, as it is judged (R21, R22): it is raised, it is cleared, or it stood so
already and nothing is done or offered. -/
def State.CauseJudged (s : State) (k : Cause) (stands : Bool) (l : LoadRecord) (q : Ports) (t : State) : Prop :=
  (l.causes.has k = stands → t.load = some l ∧ t.ports = q)
    ∧ (stands = true → l.causes.has k = false → (l.comps.map fun c => c.line.compartment).Nodup → s.CauseRaised k l q t)
    ∧ (stands = false → l.causes.has k = true → s.CauseCleared k l q t)

/-- The write queue holds at most eight records (R181), each event queue at most sixteen (R175), and the order queue at
most sixteen orders (section 1.2.1). -/
def State.QueuesBounded (s : State) : Prop :=
  s.queue.length ≤ 8 ∧ s.ports.tp.events.length ≤ 16 ∧ s.ports.pp.events.length ≤ 16
    ∧ s.ports.sp.events.length ≤ 16 ∧ s.orders.length ≤ 16

/-- Every totalizer lies in its range (section 7.1.1). -/
def State.TotalsInRange (s : State) : Prop :=
  (∀ m : Fin 4, s.meters[m].gross ≤ 2 ^ 64 - 1 ∧ s.meters[m].net ≤ 2 ^ 64 - 1)
    ∧ ∀ j : Fin 8, s.injectors[j].total ≤ 2 ^ 64 - 1

/-- No totalizer of `t` stands below that of `s`. -/
def State.TotalsAtLeast (s t : State) : Prop :=
  (∀ m : Fin 4, s.meters[m].gross ≤ t.meters[m].gross ∧ s.meters[m].net ≤ t.meters[m].net)
    ∧ ∀ j : Fin 8, s.injectors[j].total ≤ t.injectors[j].total

/-- The commands after which a totalizer may stand lower: those that begin or end the part's life in power (R138). -/
def restarts : Instr → Bool
  | .startUp _ => true
  | .resetAssertion _ => true
  | .lossOfPower _ => true
  | _ => false

/-- A state with every field that the field machinery of a load may touch set to its value at reset: what a drive, a
change of a compartment, a suspension cause or a close hand-off leaves alone is what `apart` keeps. -/
def State.apart (s : State) : State :=
  { s with
    permits := State.reset.permits, chargeOwed := State.reset.chargeOwed, load := State.reset.load
    imageOwed := State.reset.imageOwed, arms := State.reset.arms, pumps := State.reset.pumps
    checkpointOwed := State.reset.checkpointOwed, injectors := State.reset.injectors
    safety := State.reset.safety, slots := State.reset.slots, ports := State.reset.ports
    queue := State.reset.queue, backlog := State.reset.backlog }

/-- `t` once waiting writes have started and the reply to the request of a window is pending (R168, R181). -/
def State.answered (w : Win) (status : Status) (payload : Payload) (t : State) : State :=
  t.startWrite.respond w.port w.tag { status, payload }

end Sys2Proof.Machine
end

