-- ==== Sys2Proof/Laws/State.lean ====
section
/-! SUPPORT. One lemma for each field of the state under each plain update: what the update leaves alone, and the value of
the field that it sets. Each is true by computation and tagged for `simp`. -/

namespace Sys2Proof.Machine

variable (s : State)

/-! ### modifyPort -/

@[simp] theorem State.modifyPort_phase (p : Port) (f : PortState → PortState) : (s.modifyPort p f).phase = s.phase := rfl
@[simp] theorem State.modifyPort_started (p : Port) (f : PortState → PortState) : (s.modifyPort p f).started = s.started := rfl
@[simp] theorem State.modifyPort_pfail (p : Port) (f : PortState → PortState) : (s.modifyPort p f).pfail = s.pfail := rfl
@[simp] theorem State.modifyPort_startMark (p : Port) (f : PortState → PortState) : (s.modifyPort p f).startMark = s.startMark := rfl
@[simp] theorem State.modifyPort_clock (p : Port) (f : PortState → PortState) : (s.modifyPort p f).clock = s.clock := rfl
@[simp] theorem State.modifyPort_permits (p : Port) (f : PortState → PortState) : (s.modifyPort p f).permits = s.permits := rfl
@[simp] theorem State.modifyPort_careMask (p : Port) (f : PortState → PortState) : (s.modifyPort p f).careMask = s.careMask := rfl
@[simp] theorem State.modifyPort_context (p : Port) (f : PortState → PortState) : (s.modifyPort p f).context = s.context := rfl
@[simp] theorem State.modifyPort_chargeOwed (p : Port) (f : PortState → PortState) : (s.modifyPort p f).chargeOwed = s.chargeOwed := rfl
@[simp] theorem State.modifyPort_products (p : Port) (f : PortState → PortState) : (s.modifyPort p f).products = s.products := rfl
@[simp] theorem State.modifyPort_staging (p : Port) (f : PortState → PortState) : (s.modifyPort p f).staging = s.staging := rfl
@[simp] theorem State.modifyPort_orders (p : Port) (f : PortState → PortState) : (s.modifyPort p f).orders = s.orders := rfl
@[simp] theorem State.modifyPort_load (p : Port) (f : PortState → PortState) : (s.modifyPort p f).load = s.load := rfl
@[simp] theorem State.modifyPort_imageOwed (p : Port) (f : PortState → PortState) : (s.modifyPort p f).imageOwed = s.imageOwed := rfl
@[simp] theorem State.modifyPort_arms (p : Port) (f : PortState → PortState) : (s.modifyPort p f).arms = s.arms := rfl
@[simp] theorem State.modifyPort_pumps (p : Port) (f : PortState → PortState) : (s.modifyPort p f).pumps = s.pumps := rfl
@[simp] theorem State.modifyPort_meters (p : Port) (f : PortState → PortState) : (s.modifyPort p f).meters = s.meters := rfl
@[simp] theorem State.modifyPort_probes (p : Port) (f : PortState → PortState) : (s.modifyPort p f).probes = s.probes := rfl
@[simp] theorem State.modifyPort_scanner (p : Port) (f : PortState → PortState) : (s.modifyPort p f).scanner = s.scanner := rfl
@[simp] theorem State.modifyPort_checkpointOwed (p : Port) (f : PortState → PortState) : (s.modifyPort p f).checkpointOwed = s.checkpointOwed := rfl
@[simp] theorem State.modifyPort_injectors (p : Port) (f : PortState → PortState) : (s.modifyPort p f).injectors = s.injectors := rfl
@[simp] theorem State.modifyPort_recipes (p : Port) (f : PortState → PortState) : (s.modifyPort p f).recipes = s.recipes := rfl
@[simp] theorem State.modifyPort_safety (p : Port) (f : PortState → PortState) : (s.modifyPort p f).safety = s.safety := rfl
@[simp] theorem State.modifyPort_cal (p : Port) (f : PortState → PortState) : (s.modifyPort p f).cal = s.cal := rfl
@[simp] theorem State.modifyPort_sealState (p : Port) (f : PortState → PortState) : (s.modifyPort p f).sealState = s.sealState := rfl
@[simp] theorem State.modifyPort_slots (p : Port) (f : PortState → PortState) : (s.modifyPort p f).slots = s.slots := rfl
@[simp] theorem State.modifyPort_serial (p : Port) (f : PortState → PortState) : (s.modifyPort p f).serial = s.serial := rfl
@[simp] theorem State.modifyPort_holdMinutes (p : Port) (f : PortState → PortState) : (s.modifyPort p f).holdMinutes = s.holdMinutes := rfl
@[simp] theorem State.modifyPort_tpReader (p : Port) (f : PortState → PortState) : (s.modifyPort p f).tpReader = s.tpReader := rfl
@[simp] theorem State.modifyPort_ppReader (p : Port) (f : PortState → PortState) : (s.modifyPort p f).ppReader = s.ppReader := rfl
@[simp] theorem State.modifyPort_ports (p : Port) (f : PortState → PortState) : (s.modifyPort p f).ports = s.ports.set (f (s.ports.get p)) p := rfl
@[simp] theorem State.modifyPort_queue (p : Port) (f : PortState → PortState) : (s.modifyPort p f).queue = s.queue := rfl
@[simp] theorem State.modifyPort_writing (p : Port) (f : PortState → PortState) : (s.modifyPort p f).writing = s.writing := rfl
@[simp] theorem State.modifyPort_backlog (p : Port) (f : PortState → PortState) : (s.modifyPort p f).backlog = s.backlog := rfl
@[simp] theorem State.modifyPort_startRecords (p : Port) (f : PortState → PortState) : (s.modifyPort p f).startRecords = s.startRecords := rfl
@[simp] theorem State.modifyPort_saving (p : Port) (f : PortState → PortState) : (s.modifyPort p f).saving = s.saving := rfl
@[simp] theorem State.modifyPort_audit (p : Port) (f : PortState → PortState) : (s.modifyPort p f).audit = s.audit := rfl
@[simp] theorem State.modifyPort_pending (p : Port) (f : PortState → PortState) : (s.modifyPort p f).pending = s.pending := rfl

/-! ### post -/

@[simp] theorem State.post_phase (c : EventCode) (k : ObjectKind) (n : Nat) (v : BitVec 32) : (s.post c k n v).phase = s.phase := rfl
@[simp] theorem State.post_started (c : EventCode) (k : ObjectKind) (n : Nat) (v : BitVec 32) : (s.post c k n v).started = s.started := rfl
@[simp] theorem State.post_pfail (c : EventCode) (k : ObjectKind) (n : Nat) (v : BitVec 32) : (s.post c k n v).pfail = s.pfail := rfl
@[simp] theorem State.post_startMark (c : EventCode) (k : ObjectKind) (n : Nat) (v : BitVec 32) : (s.post c k n v).startMark = s.startMark := rfl
@[simp] theorem State.post_clock (c : EventCode) (k : ObjectKind) (n : Nat) (v : BitVec 32) : (s.post c k n v).clock = s.clock := rfl
@[simp] theorem State.post_permits (c : EventCode) (k : ObjectKind) (n : Nat) (v : BitVec 32) : (s.post c k n v).permits = s.permits := rfl
@[simp] theorem State.post_careMask (c : EventCode) (k : ObjectKind) (n : Nat) (v : BitVec 32) : (s.post c k n v).careMask = s.careMask := rfl
@[simp] theorem State.post_context (c : EventCode) (k : ObjectKind) (n : Nat) (v : BitVec 32) : (s.post c k n v).context = s.context := rfl
@[simp] theorem State.post_chargeOwed (c : EventCode) (k : ObjectKind) (n : Nat) (v : BitVec 32) : (s.post c k n v).chargeOwed = s.chargeOwed := rfl
@[simp] theorem State.post_products (c : EventCode) (k : ObjectKind) (n : Nat) (v : BitVec 32) : (s.post c k n v).products = s.products := rfl
@[simp] theorem State.post_staging (c : EventCode) (k : ObjectKind) (n : Nat) (v : BitVec 32) : (s.post c k n v).staging = s.staging := rfl
@[simp] theorem State.post_orders (c : EventCode) (k : ObjectKind) (n : Nat) (v : BitVec 32) : (s.post c k n v).orders = s.orders := rfl
@[simp] theorem State.post_load (c : EventCode) (k : ObjectKind) (n : Nat) (v : BitVec 32) : (s.post c k n v).load = s.load := rfl
@[simp] theorem State.post_imageOwed (c : EventCode) (k : ObjectKind) (n : Nat) (v : BitVec 32) : (s.post c k n v).imageOwed = s.imageOwed := rfl
@[simp] theorem State.post_arms (c : EventCode) (k : ObjectKind) (n : Nat) (v : BitVec 32) : (s.post c k n v).arms = s.arms := rfl
@[simp] theorem State.post_pumps (c : EventCode) (k : ObjectKind) (n : Nat) (v : BitVec 32) : (s.post c k n v).pumps = s.pumps := rfl
@[simp] theorem State.post_meters (c : EventCode) (k : ObjectKind) (n : Nat) (v : BitVec 32) : (s.post c k n v).meters = s.meters := rfl
@[simp] theorem State.post_probes (c : EventCode) (k : ObjectKind) (n : Nat) (v : BitVec 32) : (s.post c k n v).probes = s.probes := rfl
@[simp] theorem State.post_scanner (c : EventCode) (k : ObjectKind) (n : Nat) (v : BitVec 32) : (s.post c k n v).scanner = s.scanner := rfl
@[simp] theorem State.post_checkpointOwed (c : EventCode) (k : ObjectKind) (n : Nat) (v : BitVec 32) : (s.post c k n v).checkpointOwed = s.checkpointOwed := rfl
@[simp] theorem State.post_injectors (c : EventCode) (k : ObjectKind) (n : Nat) (v : BitVec 32) : (s.post c k n v).injectors = s.injectors := rfl
@[simp] theorem State.post_recipes (c : EventCode) (k : ObjectKind) (n : Nat) (v : BitVec 32) : (s.post c k n v).recipes = s.recipes := rfl
@[simp] theorem State.post_safety (c : EventCode) (k : ObjectKind) (n : Nat) (v : BitVec 32) : (s.post c k n v).safety = s.safety := rfl
@[simp] theorem State.post_cal (c : EventCode) (k : ObjectKind) (n : Nat) (v : BitVec 32) : (s.post c k n v).cal = s.cal := rfl
@[simp] theorem State.post_sealState (c : EventCode) (k : ObjectKind) (n : Nat) (v : BitVec 32) : (s.post c k n v).sealState = s.sealState := rfl
@[simp] theorem State.post_slots (c : EventCode) (k : ObjectKind) (n : Nat) (v : BitVec 32) : (s.post c k n v).slots = s.slots := rfl
@[simp] theorem State.post_serial (c : EventCode) (k : ObjectKind) (n : Nat) (v : BitVec 32) : (s.post c k n v).serial = s.serial := rfl
@[simp] theorem State.post_holdMinutes (c : EventCode) (k : ObjectKind) (n : Nat) (v : BitVec 32) : (s.post c k n v).holdMinutes = s.holdMinutes := rfl
@[simp] theorem State.post_tpReader (c : EventCode) (k : ObjectKind) (n : Nat) (v : BitVec 32) : (s.post c k n v).tpReader = s.tpReader := rfl
@[simp] theorem State.post_ppReader (c : EventCode) (k : ObjectKind) (n : Nat) (v : BitVec 32) : (s.post c k n v).ppReader = s.ppReader := rfl
@[simp] theorem State.post_ports (c : EventCode) (k : ObjectKind) (n : Nat) (v : BitVec 32) : (s.post c k n v).ports = s.ports.offer { code := c, kind := k, number := n, value := v, second := s.clock.second } := rfl
@[simp] theorem State.post_queue (c : EventCode) (k : ObjectKind) (n : Nat) (v : BitVec 32) : (s.post c k n v).queue = s.queue := rfl
@[simp] theorem State.post_writing (c : EventCode) (k : ObjectKind) (n : Nat) (v : BitVec 32) : (s.post c k n v).writing = s.writing := rfl
@[simp] theorem State.post_backlog (c : EventCode) (k : ObjectKind) (n : Nat) (v : BitVec 32) : (s.post c k n v).backlog = s.backlog := rfl
@[simp] theorem State.post_startRecords (c : EventCode) (k : ObjectKind) (n : Nat) (v : BitVec 32) : (s.post c k n v).startRecords = s.startRecords := rfl
@[simp] theorem State.post_saving (c : EventCode) (k : ObjectKind) (n : Nat) (v : BitVec 32) : (s.post c k n v).saving = s.saving := rfl
@[simp] theorem State.post_audit (c : EventCode) (k : ObjectKind) (n : Nat) (v : BitVec 32) : (s.post c k n v).audit = s.audit := rfl
@[simp] theorem State.post_pending (c : EventCode) (k : ObjectKind) (n : Nat) (v : BitVec 32) : (s.post c k n v).pending = s.pending := rfl

/-! ### respond -/

@[simp] theorem State.respond_phase (p : Port) (g : Byte) (r : Reply) : (s.respond p g r).phase = s.phase := rfl
@[simp] theorem State.respond_started (p : Port) (g : Byte) (r : Reply) : (s.respond p g r).started = s.started := rfl
@[simp] theorem State.respond_pfail (p : Port) (g : Byte) (r : Reply) : (s.respond p g r).pfail = s.pfail := rfl
@[simp] theorem State.respond_startMark (p : Port) (g : Byte) (r : Reply) : (s.respond p g r).startMark = s.startMark := rfl
@[simp] theorem State.respond_clock (p : Port) (g : Byte) (r : Reply) : (s.respond p g r).clock = s.clock := rfl
@[simp] theorem State.respond_permits (p : Port) (g : Byte) (r : Reply) : (s.respond p g r).permits = s.permits := rfl
@[simp] theorem State.respond_careMask (p : Port) (g : Byte) (r : Reply) : (s.respond p g r).careMask = s.careMask := rfl
@[simp] theorem State.respond_context (p : Port) (g : Byte) (r : Reply) : (s.respond p g r).context = s.context := rfl
@[simp] theorem State.respond_chargeOwed (p : Port) (g : Byte) (r : Reply) : (s.respond p g r).chargeOwed = s.chargeOwed := rfl
@[simp] theorem State.respond_products (p : Port) (g : Byte) (r : Reply) : (s.respond p g r).products = s.products := rfl
@[simp] theorem State.respond_staging (p : Port) (g : Byte) (r : Reply) : (s.respond p g r).staging = s.staging := rfl
@[simp] theorem State.respond_orders (p : Port) (g : Byte) (r : Reply) : (s.respond p g r).orders = s.orders := rfl
@[simp] theorem State.respond_load (p : Port) (g : Byte) (r : Reply) : (s.respond p g r).load = s.load := rfl
@[simp] theorem State.respond_imageOwed (p : Port) (g : Byte) (r : Reply) : (s.respond p g r).imageOwed = s.imageOwed := rfl
@[simp] theorem State.respond_arms (p : Port) (g : Byte) (r : Reply) : (s.respond p g r).arms = s.arms := rfl
@[simp] theorem State.respond_pumps (p : Port) (g : Byte) (r : Reply) : (s.respond p g r).pumps = s.pumps := rfl
@[simp] theorem State.respond_meters (p : Port) (g : Byte) (r : Reply) : (s.respond p g r).meters = s.meters := rfl
@[simp] theorem State.respond_probes (p : Port) (g : Byte) (r : Reply) : (s.respond p g r).probes = s.probes := rfl
@[simp] theorem State.respond_scanner (p : Port) (g : Byte) (r : Reply) : (s.respond p g r).scanner = s.scanner := rfl
@[simp] theorem State.respond_checkpointOwed (p : Port) (g : Byte) (r : Reply) : (s.respond p g r).checkpointOwed = s.checkpointOwed := rfl
@[simp] theorem State.respond_injectors (p : Port) (g : Byte) (r : Reply) : (s.respond p g r).injectors = s.injectors := rfl
@[simp] theorem State.respond_recipes (p : Port) (g : Byte) (r : Reply) : (s.respond p g r).recipes = s.recipes := rfl
@[simp] theorem State.respond_safety (p : Port) (g : Byte) (r : Reply) : (s.respond p g r).safety = s.safety := rfl
@[simp] theorem State.respond_cal (p : Port) (g : Byte) (r : Reply) : (s.respond p g r).cal = s.cal := rfl
@[simp] theorem State.respond_sealState (p : Port) (g : Byte) (r : Reply) : (s.respond p g r).sealState = s.sealState := rfl
@[simp] theorem State.respond_slots (p : Port) (g : Byte) (r : Reply) : (s.respond p g r).slots = s.slots := rfl
@[simp] theorem State.respond_serial (p : Port) (g : Byte) (r : Reply) : (s.respond p g r).serial = s.serial := rfl
@[simp] theorem State.respond_holdMinutes (p : Port) (g : Byte) (r : Reply) : (s.respond p g r).holdMinutes = s.holdMinutes := rfl
@[simp] theorem State.respond_tpReader (p : Port) (g : Byte) (r : Reply) : (s.respond p g r).tpReader = s.tpReader := rfl
@[simp] theorem State.respond_ppReader (p : Port) (g : Byte) (r : Reply) : (s.respond p g r).ppReader = s.ppReader := rfl
@[simp] theorem State.respond_queue (p : Port) (g : Byte) (r : Reply) : (s.respond p g r).queue = s.queue := rfl
@[simp] theorem State.respond_writing (p : Port) (g : Byte) (r : Reply) : (s.respond p g r).writing = s.writing := rfl
@[simp] theorem State.respond_backlog (p : Port) (g : Byte) (r : Reply) : (s.respond p g r).backlog = s.backlog := rfl
@[simp] theorem State.respond_startRecords (p : Port) (g : Byte) (r : Reply) : (s.respond p g r).startRecords = s.startRecords := rfl
@[simp] theorem State.respond_saving (p : Port) (g : Byte) (r : Reply) : (s.respond p g r).saving = s.saving := rfl
@[simp] theorem State.respond_audit (p : Port) (g : Byte) (r : Reply) : (s.respond p g r).audit = s.audit := rfl
@[simp] theorem State.respond_pending (p : Port) (g : Byte) (r : Reply) : (s.respond p g r).pending = s.pending := rfl

/-! ### window -/

@[simp] theorem State.window_phase (p : Port) (k : Nat) (b : List Byte) : (s.window p k b).phase = s.phase := rfl
@[simp] theorem State.window_started (p : Port) (k : Nat) (b : List Byte) : (s.window p k b).started = s.started := rfl
@[simp] theorem State.window_pfail (p : Port) (k : Nat) (b : List Byte) : (s.window p k b).pfail = s.pfail := rfl
@[simp] theorem State.window_startMark (p : Port) (k : Nat) (b : List Byte) : (s.window p k b).startMark = s.startMark := rfl
@[simp] theorem State.window_clock (p : Port) (k : Nat) (b : List Byte) : (s.window p k b).clock = s.clock := rfl
@[simp] theorem State.window_permits (p : Port) (k : Nat) (b : List Byte) : (s.window p k b).permits = s.permits := rfl
@[simp] theorem State.window_careMask (p : Port) (k : Nat) (b : List Byte) : (s.window p k b).careMask = s.careMask := rfl
@[simp] theorem State.window_context (p : Port) (k : Nat) (b : List Byte) : (s.window p k b).context = s.context := rfl
@[simp] theorem State.window_chargeOwed (p : Port) (k : Nat) (b : List Byte) : (s.window p k b).chargeOwed = s.chargeOwed := rfl
@[simp] theorem State.window_products (p : Port) (k : Nat) (b : List Byte) : (s.window p k b).products = s.products := rfl
@[simp] theorem State.window_staging (p : Port) (k : Nat) (b : List Byte) : (s.window p k b).staging = s.staging := rfl
@[simp] theorem State.window_orders (p : Port) (k : Nat) (b : List Byte) : (s.window p k b).orders = s.orders := rfl
@[simp] theorem State.window_load (p : Port) (k : Nat) (b : List Byte) : (s.window p k b).load = s.load := rfl
@[simp] theorem State.window_imageOwed (p : Port) (k : Nat) (b : List Byte) : (s.window p k b).imageOwed = s.imageOwed := rfl
@[simp] theorem State.window_arms (p : Port) (k : Nat) (b : List Byte) : (s.window p k b).arms = s.arms := rfl
@[simp] theorem State.window_pumps (p : Port) (k : Nat) (b : List Byte) : (s.window p k b).pumps = s.pumps := rfl
@[simp] theorem State.window_meters (p : Port) (k : Nat) (b : List Byte) : (s.window p k b).meters = s.meters := rfl
@[simp] theorem State.window_probes (p : Port) (k : Nat) (b : List Byte) : (s.window p k b).probes = s.probes := rfl
@[simp] theorem State.window_scanner (p : Port) (k : Nat) (b : List Byte) : (s.window p k b).scanner = s.scanner := rfl
@[simp] theorem State.window_checkpointOwed (p : Port) (k : Nat) (b : List Byte) : (s.window p k b).checkpointOwed = s.checkpointOwed := rfl
@[simp] theorem State.window_injectors (p : Port) (k : Nat) (b : List Byte) : (s.window p k b).injectors = s.injectors := rfl
@[simp] theorem State.window_recipes (p : Port) (k : Nat) (b : List Byte) : (s.window p k b).recipes = s.recipes := rfl
@[simp] theorem State.window_safety (p : Port) (k : Nat) (b : List Byte) : (s.window p k b).safety = s.safety := rfl
@[simp] theorem State.window_cal (p : Port) (k : Nat) (b : List Byte) : (s.window p k b).cal = s.cal := rfl
@[simp] theorem State.window_sealState (p : Port) (k : Nat) (b : List Byte) : (s.window p k b).sealState = s.sealState := rfl
@[simp] theorem State.window_slots (p : Port) (k : Nat) (b : List Byte) : (s.window p k b).slots = s.slots := rfl
@[simp] theorem State.window_serial (p : Port) (k : Nat) (b : List Byte) : (s.window p k b).serial = s.serial := rfl
@[simp] theorem State.window_holdMinutes (p : Port) (k : Nat) (b : List Byte) : (s.window p k b).holdMinutes = s.holdMinutes := rfl
@[simp] theorem State.window_tpReader (p : Port) (k : Nat) (b : List Byte) : (s.window p k b).tpReader = s.tpReader := rfl
@[simp] theorem State.window_ppReader (p : Port) (k : Nat) (b : List Byte) : (s.window p k b).ppReader = s.ppReader := rfl
@[simp] theorem State.window_queue (p : Port) (k : Nat) (b : List Byte) : (s.window p k b).queue = s.queue := rfl
@[simp] theorem State.window_writing (p : Port) (k : Nat) (b : List Byte) : (s.window p k b).writing = s.writing := rfl
@[simp] theorem State.window_backlog (p : Port) (k : Nat) (b : List Byte) : (s.window p k b).backlog = s.backlog := rfl
@[simp] theorem State.window_startRecords (p : Port) (k : Nat) (b : List Byte) : (s.window p k b).startRecords = s.startRecords := rfl
@[simp] theorem State.window_saving (p : Port) (k : Nat) (b : List Byte) : (s.window p k b).saving = s.saving := rfl
@[simp] theorem State.window_audit (p : Port) (k : Nat) (b : List Byte) : (s.window p k b).audit = s.audit := rfl
@[simp] theorem State.window_pending (p : Port) (k : Nat) (b : List Byte) : (s.window p k b).pending = s.pending := rfl

/-! ### seen -/

@[simp] theorem State.seen_phase (c : ReqCode) (w : Win) : (s.seen c w).phase = s.phase := rfl
@[simp] theorem State.seen_started (c : ReqCode) (w : Win) : (s.seen c w).started = s.started := rfl
@[simp] theorem State.seen_pfail (c : ReqCode) (w : Win) : (s.seen c w).pfail = s.pfail := rfl
@[simp] theorem State.seen_startMark (c : ReqCode) (w : Win) : (s.seen c w).startMark = s.startMark := rfl
@[simp] theorem State.seen_clock (c : ReqCode) (w : Win) : (s.seen c w).clock = s.clock := rfl
@[simp] theorem State.seen_permits (c : ReqCode) (w : Win) : (s.seen c w).permits = s.permits := rfl
@[simp] theorem State.seen_careMask (c : ReqCode) (w : Win) : (s.seen c w).careMask = s.careMask := rfl
@[simp] theorem State.seen_context (c : ReqCode) (w : Win) : (s.seen c w).context = s.context := rfl
@[simp] theorem State.seen_chargeOwed (c : ReqCode) (w : Win) : (s.seen c w).chargeOwed = s.chargeOwed := rfl
@[simp] theorem State.seen_products (c : ReqCode) (w : Win) : (s.seen c w).products = s.products := rfl
@[simp] theorem State.seen_staging (c : ReqCode) (w : Win) : (s.seen c w).staging = s.staging := rfl
@[simp] theorem State.seen_orders (c : ReqCode) (w : Win) : (s.seen c w).orders = s.orders := rfl
@[simp] theorem State.seen_load (c : ReqCode) (w : Win) : (s.seen c w).load = s.load := rfl
@[simp] theorem State.seen_imageOwed (c : ReqCode) (w : Win) : (s.seen c w).imageOwed = s.imageOwed := rfl
@[simp] theorem State.seen_arms (c : ReqCode) (w : Win) : (s.seen c w).arms = s.arms := rfl
@[simp] theorem State.seen_pumps (c : ReqCode) (w : Win) : (s.seen c w).pumps = s.pumps := rfl
@[simp] theorem State.seen_meters (c : ReqCode) (w : Win) : (s.seen c w).meters = s.meters := rfl
@[simp] theorem State.seen_probes (c : ReqCode) (w : Win) : (s.seen c w).probes = s.probes := rfl
@[simp] theorem State.seen_scanner (c : ReqCode) (w : Win) : (s.seen c w).scanner = s.scanner := rfl
@[simp] theorem State.seen_checkpointOwed (c : ReqCode) (w : Win) : (s.seen c w).checkpointOwed = s.checkpointOwed := rfl
@[simp] theorem State.seen_injectors (c : ReqCode) (w : Win) : (s.seen c w).injectors = s.injectors := rfl
@[simp] theorem State.seen_recipes (c : ReqCode) (w : Win) : (s.seen c w).recipes = s.recipes := rfl
@[simp] theorem State.seen_safety (c : ReqCode) (w : Win) : (s.seen c w).safety = s.safety := rfl
@[simp] theorem State.seen_cal (c : ReqCode) (w : Win) : (s.seen c w).cal = s.cal := rfl
@[simp] theorem State.seen_sealState (c : ReqCode) (w : Win) : (s.seen c w).sealState = s.sealState := rfl
@[simp] theorem State.seen_slots (c : ReqCode) (w : Win) : (s.seen c w).slots = s.slots := rfl
@[simp] theorem State.seen_serial (c : ReqCode) (w : Win) : (s.seen c w).serial = s.serial := rfl
@[simp] theorem State.seen_holdMinutes (c : ReqCode) (w : Win) : (s.seen c w).holdMinutes = s.holdMinutes := rfl
@[simp] theorem State.seen_tpReader (c : ReqCode) (w : Win) : (s.seen c w).tpReader = s.tpReader := rfl
@[simp] theorem State.seen_ppReader (c : ReqCode) (w : Win) : (s.seen c w).ppReader = s.ppReader := rfl
@[simp] theorem State.seen_queue (c : ReqCode) (w : Win) : (s.seen c w).queue = s.queue := rfl
@[simp] theorem State.seen_writing (c : ReqCode) (w : Win) : (s.seen c w).writing = s.writing := rfl
@[simp] theorem State.seen_backlog (c : ReqCode) (w : Win) : (s.seen c w).backlog = s.backlog := rfl
@[simp] theorem State.seen_startRecords (c : ReqCode) (w : Win) : (s.seen c w).startRecords = s.startRecords := rfl
@[simp] theorem State.seen_saving (c : ReqCode) (w : Win) : (s.seen c w).saving = s.saving := rfl
@[simp] theorem State.seen_audit (c : ReqCode) (w : Win) : (s.seen c w).audit = s.audit := rfl
@[simp] theorem State.seen_pending (c : ReqCode) (w : Win) : (s.seen c w).pending = s.pending := rfl

/-! ### noWindow -/

@[simp] theorem State.noWindow_phase (p : Port) (k : Nat) : (s.noWindow p k).phase = s.phase := rfl
@[simp] theorem State.noWindow_started (p : Port) (k : Nat) : (s.noWindow p k).started = s.started := rfl
@[simp] theorem State.noWindow_pfail (p : Port) (k : Nat) : (s.noWindow p k).pfail = s.pfail := rfl
@[simp] theorem State.noWindow_startMark (p : Port) (k : Nat) : (s.noWindow p k).startMark = s.startMark := rfl
@[simp] theorem State.noWindow_clock (p : Port) (k : Nat) : (s.noWindow p k).clock = s.clock := rfl
@[simp] theorem State.noWindow_permits (p : Port) (k : Nat) : (s.noWindow p k).permits = s.permits := rfl
@[simp] theorem State.noWindow_careMask (p : Port) (k : Nat) : (s.noWindow p k).careMask = s.careMask := rfl
@[simp] theorem State.noWindow_context (p : Port) (k : Nat) : (s.noWindow p k).context = s.context := rfl
@[simp] theorem State.noWindow_chargeOwed (p : Port) (k : Nat) : (s.noWindow p k).chargeOwed = s.chargeOwed := rfl
@[simp] theorem State.noWindow_products (p : Port) (k : Nat) : (s.noWindow p k).products = s.products := rfl
@[simp] theorem State.noWindow_staging (p : Port) (k : Nat) : (s.noWindow p k).staging = s.staging := rfl
@[simp] theorem State.noWindow_orders (p : Port) (k : Nat) : (s.noWindow p k).orders = s.orders := rfl
@[simp] theorem State.noWindow_load (p : Port) (k : Nat) : (s.noWindow p k).load = s.load := rfl
@[simp] theorem State.noWindow_imageOwed (p : Port) (k : Nat) : (s.noWindow p k).imageOwed = s.imageOwed := rfl
@[simp] theorem State.noWindow_arms (p : Port) (k : Nat) : (s.noWindow p k).arms = s.arms := rfl
@[simp] theorem State.noWindow_pumps (p : Port) (k : Nat) : (s.noWindow p k).pumps = s.pumps := rfl
@[simp] theorem State.noWindow_meters (p : Port) (k : Nat) : (s.noWindow p k).meters = s.meters := rfl
@[simp] theorem State.noWindow_probes (p : Port) (k : Nat) : (s.noWindow p k).probes = s.probes := rfl
@[simp] theorem State.noWindow_scanner (p : Port) (k : Nat) : (s.noWindow p k).scanner = s.scanner := rfl
@[simp] theorem State.noWindow_checkpointOwed (p : Port) (k : Nat) : (s.noWindow p k).checkpointOwed = s.checkpointOwed := rfl
@[simp] theorem State.noWindow_injectors (p : Port) (k : Nat) : (s.noWindow p k).injectors = s.injectors := rfl
@[simp] theorem State.noWindow_recipes (p : Port) (k : Nat) : (s.noWindow p k).recipes = s.recipes := rfl
@[simp] theorem State.noWindow_safety (p : Port) (k : Nat) : (s.noWindow p k).safety = s.safety := rfl
@[simp] theorem State.noWindow_cal (p : Port) (k : Nat) : (s.noWindow p k).cal = s.cal := rfl
@[simp] theorem State.noWindow_sealState (p : Port) (k : Nat) : (s.noWindow p k).sealState = s.sealState := rfl
@[simp] theorem State.noWindow_slots (p : Port) (k : Nat) : (s.noWindow p k).slots = s.slots := rfl
@[simp] theorem State.noWindow_serial (p : Port) (k : Nat) : (s.noWindow p k).serial = s.serial := rfl
@[simp] theorem State.noWindow_holdMinutes (p : Port) (k : Nat) : (s.noWindow p k).holdMinutes = s.holdMinutes := rfl
@[simp] theorem State.noWindow_tpReader (p : Port) (k : Nat) : (s.noWindow p k).tpReader = s.tpReader := rfl
@[simp] theorem State.noWindow_ppReader (p : Port) (k : Nat) : (s.noWindow p k).ppReader = s.ppReader := rfl
@[simp] theorem State.noWindow_queue (p : Port) (k : Nat) : (s.noWindow p k).queue = s.queue := rfl
@[simp] theorem State.noWindow_writing (p : Port) (k : Nat) : (s.noWindow p k).writing = s.writing := rfl
@[simp] theorem State.noWindow_backlog (p : Port) (k : Nat) : (s.noWindow p k).backlog = s.backlog := rfl
@[simp] theorem State.noWindow_startRecords (p : Port) (k : Nat) : (s.noWindow p k).startRecords = s.startRecords := rfl
@[simp] theorem State.noWindow_saving (p : Port) (k : Nat) : (s.noWindow p k).saving = s.saving := rfl
@[simp] theorem State.noWindow_audit (p : Port) (k : Nat) : (s.noWindow p k).audit = s.audit := rfl
@[simp] theorem State.noWindow_pending (p : Port) (k : Nat) : (s.noWindow p k).pending = s.pending := rfl

/-! ### enqueue -/

@[simp] theorem State.enqueue_phase (r : Record) : (s.enqueue r).phase = s.phase := rfl
@[simp] theorem State.enqueue_started (r : Record) : (s.enqueue r).started = s.started := rfl
@[simp] theorem State.enqueue_pfail (r : Record) : (s.enqueue r).pfail = s.pfail := rfl
@[simp] theorem State.enqueue_startMark (r : Record) : (s.enqueue r).startMark = s.startMark := rfl
@[simp] theorem State.enqueue_clock (r : Record) : (s.enqueue r).clock = s.clock := rfl
@[simp] theorem State.enqueue_permits (r : Record) : (s.enqueue r).permits = s.permits := rfl
@[simp] theorem State.enqueue_careMask (r : Record) : (s.enqueue r).careMask = s.careMask := rfl
@[simp] theorem State.enqueue_context (r : Record) : (s.enqueue r).context = s.context := rfl
@[simp] theorem State.enqueue_chargeOwed (r : Record) : (s.enqueue r).chargeOwed = s.chargeOwed := rfl
@[simp] theorem State.enqueue_products (r : Record) : (s.enqueue r).products = s.products := rfl
@[simp] theorem State.enqueue_staging (r : Record) : (s.enqueue r).staging = s.staging := rfl
@[simp] theorem State.enqueue_orders (r : Record) : (s.enqueue r).orders = s.orders := rfl
@[simp] theorem State.enqueue_load (r : Record) : (s.enqueue r).load = s.load := rfl
@[simp] theorem State.enqueue_imageOwed (r : Record) : (s.enqueue r).imageOwed = s.imageOwed := rfl
@[simp] theorem State.enqueue_arms (r : Record) : (s.enqueue r).arms = s.arms := rfl
@[simp] theorem State.enqueue_pumps (r : Record) : (s.enqueue r).pumps = s.pumps := rfl
@[simp] theorem State.enqueue_meters (r : Record) : (s.enqueue r).meters = s.meters := rfl
@[simp] theorem State.enqueue_probes (r : Record) : (s.enqueue r).probes = s.probes := rfl
@[simp] theorem State.enqueue_scanner (r : Record) : (s.enqueue r).scanner = s.scanner := rfl
@[simp] theorem State.enqueue_checkpointOwed (r : Record) : (s.enqueue r).checkpointOwed = s.checkpointOwed := rfl
@[simp] theorem State.enqueue_injectors (r : Record) : (s.enqueue r).injectors = s.injectors := rfl
@[simp] theorem State.enqueue_recipes (r : Record) : (s.enqueue r).recipes = s.recipes := rfl
@[simp] theorem State.enqueue_safety (r : Record) : (s.enqueue r).safety = s.safety := rfl
@[simp] theorem State.enqueue_cal (r : Record) : (s.enqueue r).cal = s.cal := rfl
@[simp] theorem State.enqueue_sealState (r : Record) : (s.enqueue r).sealState = s.sealState := rfl
@[simp] theorem State.enqueue_slots (r : Record) : (s.enqueue r).slots = s.slots := rfl
@[simp] theorem State.enqueue_serial (r : Record) : (s.enqueue r).serial = s.serial := rfl
@[simp] theorem State.enqueue_holdMinutes (r : Record) : (s.enqueue r).holdMinutes = s.holdMinutes := rfl
@[simp] theorem State.enqueue_tpReader (r : Record) : (s.enqueue r).tpReader = s.tpReader := rfl
@[simp] theorem State.enqueue_ppReader (r : Record) : (s.enqueue r).ppReader = s.ppReader := rfl
@[simp] theorem State.enqueue_ports (r : Record) : (s.enqueue r).ports = s.ports := rfl
@[simp] theorem State.enqueue_queue (r : Record) : (s.enqueue r).queue = s.queue ++ [r] := rfl
@[simp] theorem State.enqueue_writing (r : Record) : (s.enqueue r).writing = s.writing := rfl
@[simp] theorem State.enqueue_backlog (r : Record) : (s.enqueue r).backlog = s.backlog := rfl
@[simp] theorem State.enqueue_startRecords (r : Record) : (s.enqueue r).startRecords = s.startRecords := rfl
@[simp] theorem State.enqueue_saving (r : Record) : (s.enqueue r).saving = s.saving := rfl
@[simp] theorem State.enqueue_audit (r : Record) : (s.enqueue r).audit = s.audit := rfl
@[simp] theorem State.enqueue_pending (r : Record) : (s.enqueue r).pending = s.pending := rfl

/-! ### startWrite -/

@[simp] theorem State.startWrite_phase : (s.startWrite).phase = s.phase := rfl
@[simp] theorem State.startWrite_started : (s.startWrite).started = s.started := rfl
@[simp] theorem State.startWrite_pfail : (s.startWrite).pfail = s.pfail := rfl
@[simp] theorem State.startWrite_startMark : (s.startWrite).startMark = s.startMark := rfl
@[simp] theorem State.startWrite_clock : (s.startWrite).clock = s.clock := rfl
@[simp] theorem State.startWrite_permits : (s.startWrite).permits = s.permits := rfl
@[simp] theorem State.startWrite_careMask : (s.startWrite).careMask = s.careMask := rfl
@[simp] theorem State.startWrite_context : (s.startWrite).context = s.context := rfl
@[simp] theorem State.startWrite_chargeOwed : (s.startWrite).chargeOwed = s.chargeOwed := rfl
@[simp] theorem State.startWrite_products : (s.startWrite).products = s.products := rfl
@[simp] theorem State.startWrite_staging : (s.startWrite).staging = s.staging := rfl
@[simp] theorem State.startWrite_orders : (s.startWrite).orders = s.orders := rfl
@[simp] theorem State.startWrite_load : (s.startWrite).load = s.load := rfl
@[simp] theorem State.startWrite_imageOwed : (s.startWrite).imageOwed = s.imageOwed := rfl
@[simp] theorem State.startWrite_arms : (s.startWrite).arms = s.arms := rfl
@[simp] theorem State.startWrite_pumps : (s.startWrite).pumps = s.pumps := rfl
@[simp] theorem State.startWrite_meters : (s.startWrite).meters = s.meters := rfl
@[simp] theorem State.startWrite_probes : (s.startWrite).probes = s.probes := rfl
@[simp] theorem State.startWrite_scanner : (s.startWrite).scanner = s.scanner := rfl
@[simp] theorem State.startWrite_checkpointOwed : (s.startWrite).checkpointOwed = s.checkpointOwed := rfl
@[simp] theorem State.startWrite_injectors : (s.startWrite).injectors = s.injectors := rfl
@[simp] theorem State.startWrite_recipes : (s.startWrite).recipes = s.recipes := rfl
@[simp] theorem State.startWrite_safety : (s.startWrite).safety = s.safety := rfl
@[simp] theorem State.startWrite_cal : (s.startWrite).cal = s.cal := rfl
@[simp] theorem State.startWrite_sealState : (s.startWrite).sealState = s.sealState := rfl
@[simp] theorem State.startWrite_slots : (s.startWrite).slots = s.slots := rfl
@[simp] theorem State.startWrite_serial : (s.startWrite).serial = s.serial := rfl
@[simp] theorem State.startWrite_holdMinutes : (s.startWrite).holdMinutes = s.holdMinutes := rfl
@[simp] theorem State.startWrite_tpReader : (s.startWrite).tpReader = s.tpReader := rfl
@[simp] theorem State.startWrite_ppReader : (s.startWrite).ppReader = s.ppReader := rfl
@[simp] theorem State.startWrite_ports : (s.startWrite).ports = s.ports := rfl
@[simp] theorem State.startWrite_queue : (s.startWrite).queue = s.queue := rfl
@[simp] theorem State.startWrite_writing : (s.startWrite).writing = !s.queue.isEmpty := rfl
@[simp] theorem State.startWrite_backlog : (s.startWrite).backlog = s.backlog := rfl
@[simp] theorem State.startWrite_startRecords : (s.startWrite).startRecords = s.startRecords := rfl
@[simp] theorem State.startWrite_saving : (s.startWrite).saving = s.saving := rfl
@[simp] theorem State.startWrite_audit : (s.startWrite).audit = s.audit := rfl
@[simp] theorem State.startWrite_pending : (s.startWrite).pending = s.pending := rfl

/-! ### modifyArm -/

@[simp] theorem State.modifyArm_phase (a : Fin 4) (f : Arm → Arm) : (s.modifyArm a f).phase = s.phase := rfl
@[simp] theorem State.modifyArm_started (a : Fin 4) (f : Arm → Arm) : (s.modifyArm a f).started = s.started := rfl
@[simp] theorem State.modifyArm_pfail (a : Fin 4) (f : Arm → Arm) : (s.modifyArm a f).pfail = s.pfail := rfl
@[simp] theorem State.modifyArm_startMark (a : Fin 4) (f : Arm → Arm) : (s.modifyArm a f).startMark = s.startMark := rfl
@[simp] theorem State.modifyArm_clock (a : Fin 4) (f : Arm → Arm) : (s.modifyArm a f).clock = s.clock := rfl
@[simp] theorem State.modifyArm_permits (a : Fin 4) (f : Arm → Arm) : (s.modifyArm a f).permits = s.permits := rfl
@[simp] theorem State.modifyArm_careMask (a : Fin 4) (f : Arm → Arm) : (s.modifyArm a f).careMask = s.careMask := rfl
@[simp] theorem State.modifyArm_context (a : Fin 4) (f : Arm → Arm) : (s.modifyArm a f).context = s.context := rfl
@[simp] theorem State.modifyArm_chargeOwed (a : Fin 4) (f : Arm → Arm) : (s.modifyArm a f).chargeOwed = s.chargeOwed := rfl
@[simp] theorem State.modifyArm_products (a : Fin 4) (f : Arm → Arm) : (s.modifyArm a f).products = s.products := rfl
@[simp] theorem State.modifyArm_staging (a : Fin 4) (f : Arm → Arm) : (s.modifyArm a f).staging = s.staging := rfl
@[simp] theorem State.modifyArm_orders (a : Fin 4) (f : Arm → Arm) : (s.modifyArm a f).orders = s.orders := rfl
@[simp] theorem State.modifyArm_load (a : Fin 4) (f : Arm → Arm) : (s.modifyArm a f).load = s.load := rfl
@[simp] theorem State.modifyArm_imageOwed (a : Fin 4) (f : Arm → Arm) : (s.modifyArm a f).imageOwed = s.imageOwed := rfl
@[simp] theorem State.modifyArm_arms (a : Fin 4) (f : Arm → Arm) : (s.modifyArm a f).arms = s.arms.set a (f s.arms[a]) := rfl
@[simp] theorem State.modifyArm_pumps (a : Fin 4) (f : Arm → Arm) : (s.modifyArm a f).pumps = s.pumps := rfl
@[simp] theorem State.modifyArm_meters (a : Fin 4) (f : Arm → Arm) : (s.modifyArm a f).meters = s.meters := rfl
@[simp] theorem State.modifyArm_probes (a : Fin 4) (f : Arm → Arm) : (s.modifyArm a f).probes = s.probes := rfl
@[simp] theorem State.modifyArm_scanner (a : Fin 4) (f : Arm → Arm) : (s.modifyArm a f).scanner = s.scanner := rfl
@[simp] theorem State.modifyArm_checkpointOwed (a : Fin 4) (f : Arm → Arm) : (s.modifyArm a f).checkpointOwed = s.checkpointOwed := rfl
@[simp] theorem State.modifyArm_injectors (a : Fin 4) (f : Arm → Arm) : (s.modifyArm a f).injectors = s.injectors := rfl
@[simp] theorem State.modifyArm_recipes (a : Fin 4) (f : Arm → Arm) : (s.modifyArm a f).recipes = s.recipes := rfl
@[simp] theorem State.modifyArm_safety (a : Fin 4) (f : Arm → Arm) : (s.modifyArm a f).safety = s.safety := rfl
@[simp] theorem State.modifyArm_cal (a : Fin 4) (f : Arm → Arm) : (s.modifyArm a f).cal = s.cal := rfl
@[simp] theorem State.modifyArm_sealState (a : Fin 4) (f : Arm → Arm) : (s.modifyArm a f).sealState = s.sealState := rfl
@[simp] theorem State.modifyArm_slots (a : Fin 4) (f : Arm → Arm) : (s.modifyArm a f).slots = s.slots := rfl
@[simp] theorem State.modifyArm_serial (a : Fin 4) (f : Arm → Arm) : (s.modifyArm a f).serial = s.serial := rfl
@[simp] theorem State.modifyArm_holdMinutes (a : Fin 4) (f : Arm → Arm) : (s.modifyArm a f).holdMinutes = s.holdMinutes := rfl
@[simp] theorem State.modifyArm_tpReader (a : Fin 4) (f : Arm → Arm) : (s.modifyArm a f).tpReader = s.tpReader := rfl
@[simp] theorem State.modifyArm_ppReader (a : Fin 4) (f : Arm → Arm) : (s.modifyArm a f).ppReader = s.ppReader := rfl
@[simp] theorem State.modifyArm_ports (a : Fin 4) (f : Arm → Arm) : (s.modifyArm a f).ports = s.ports := rfl
@[simp] theorem State.modifyArm_queue (a : Fin 4) (f : Arm → Arm) : (s.modifyArm a f).queue = s.queue := rfl
@[simp] theorem State.modifyArm_writing (a : Fin 4) (f : Arm → Arm) : (s.modifyArm a f).writing = s.writing := rfl
@[simp] theorem State.modifyArm_backlog (a : Fin 4) (f : Arm → Arm) : (s.modifyArm a f).backlog = s.backlog := rfl
@[simp] theorem State.modifyArm_startRecords (a : Fin 4) (f : Arm → Arm) : (s.modifyArm a f).startRecords = s.startRecords := rfl
@[simp] theorem State.modifyArm_saving (a : Fin 4) (f : Arm → Arm) : (s.modifyArm a f).saving = s.saving := rfl
@[simp] theorem State.modifyArm_audit (a : Fin 4) (f : Arm → Arm) : (s.modifyArm a f).audit = s.audit := rfl
@[simp] theorem State.modifyArm_pending (a : Fin 4) (f : Arm → Arm) : (s.modifyArm a f).pending = s.pending := rfl

/-! ### modifyPump -/

@[simp] theorem State.modifyPump_phase (p : Fin 4) (f : Pump → Pump) : (s.modifyPump p f).phase = s.phase := rfl
@[simp] theorem State.modifyPump_started (p : Fin 4) (f : Pump → Pump) : (s.modifyPump p f).started = s.started := rfl
@[simp] theorem State.modifyPump_pfail (p : Fin 4) (f : Pump → Pump) : (s.modifyPump p f).pfail = s.pfail := rfl
@[simp] theorem State.modifyPump_startMark (p : Fin 4) (f : Pump → Pump) : (s.modifyPump p f).startMark = s.startMark := rfl
@[simp] theorem State.modifyPump_clock (p : Fin 4) (f : Pump → Pump) : (s.modifyPump p f).clock = s.clock := rfl
@[simp] theorem State.modifyPump_permits (p : Fin 4) (f : Pump → Pump) : (s.modifyPump p f).permits = s.permits := rfl
@[simp] theorem State.modifyPump_careMask (p : Fin 4) (f : Pump → Pump) : (s.modifyPump p f).careMask = s.careMask := rfl
@[simp] theorem State.modifyPump_context (p : Fin 4) (f : Pump → Pump) : (s.modifyPump p f).context = s.context := rfl
@[simp] theorem State.modifyPump_chargeOwed (p : Fin 4) (f : Pump → Pump) : (s.modifyPump p f).chargeOwed = s.chargeOwed := rfl
@[simp] theorem State.modifyPump_products (p : Fin 4) (f : Pump → Pump) : (s.modifyPump p f).products = s.products := rfl
@[simp] theorem State.modifyPump_staging (p : Fin 4) (f : Pump → Pump) : (s.modifyPump p f).staging = s.staging := rfl
@[simp] theorem State.modifyPump_orders (p : Fin 4) (f : Pump → Pump) : (s.modifyPump p f).orders = s.orders := rfl
@[simp] theorem State.modifyPump_load (p : Fin 4) (f : Pump → Pump) : (s.modifyPump p f).load = s.load := rfl
@[simp] theorem State.modifyPump_imageOwed (p : Fin 4) (f : Pump → Pump) : (s.modifyPump p f).imageOwed = s.imageOwed := rfl
@[simp] theorem State.modifyPump_arms (p : Fin 4) (f : Pump → Pump) : (s.modifyPump p f).arms = s.arms := rfl
@[simp] theorem State.modifyPump_pumps (p : Fin 4) (f : Pump → Pump) : (s.modifyPump p f).pumps = s.pumps.set p (f s.pumps[p]) := rfl
@[simp] theorem State.modifyPump_meters (p : Fin 4) (f : Pump → Pump) : (s.modifyPump p f).meters = s.meters := rfl
@[simp] theorem State.modifyPump_probes (p : Fin 4) (f : Pump → Pump) : (s.modifyPump p f).probes = s.probes := rfl
@[simp] theorem State.modifyPump_scanner (p : Fin 4) (f : Pump → Pump) : (s.modifyPump p f).scanner = s.scanner := rfl
@[simp] theorem State.modifyPump_checkpointOwed (p : Fin 4) (f : Pump → Pump) : (s.modifyPump p f).checkpointOwed = s.checkpointOwed := rfl
@[simp] theorem State.modifyPump_injectors (p : Fin 4) (f : Pump → Pump) : (s.modifyPump p f).injectors = s.injectors := rfl
@[simp] theorem State.modifyPump_recipes (p : Fin 4) (f : Pump → Pump) : (s.modifyPump p f).recipes = s.recipes := rfl
@[simp] theorem State.modifyPump_safety (p : Fin 4) (f : Pump → Pump) : (s.modifyPump p f).safety = s.safety := rfl
@[simp] theorem State.modifyPump_cal (p : Fin 4) (f : Pump → Pump) : (s.modifyPump p f).cal = s.cal := rfl
@[simp] theorem State.modifyPump_sealState (p : Fin 4) (f : Pump → Pump) : (s.modifyPump p f).sealState = s.sealState := rfl
@[simp] theorem State.modifyPump_slots (p : Fin 4) (f : Pump → Pump) : (s.modifyPump p f).slots = s.slots := rfl
@[simp] theorem State.modifyPump_serial (p : Fin 4) (f : Pump → Pump) : (s.modifyPump p f).serial = s.serial := rfl
@[simp] theorem State.modifyPump_holdMinutes (p : Fin 4) (f : Pump → Pump) : (s.modifyPump p f).holdMinutes = s.holdMinutes := rfl
@[simp] theorem State.modifyPump_tpReader (p : Fin 4) (f : Pump → Pump) : (s.modifyPump p f).tpReader = s.tpReader := rfl
@[simp] theorem State.modifyPump_ppReader (p : Fin 4) (f : Pump → Pump) : (s.modifyPump p f).ppReader = s.ppReader := rfl
@[simp] theorem State.modifyPump_ports (p : Fin 4) (f : Pump → Pump) : (s.modifyPump p f).ports = s.ports := rfl
@[simp] theorem State.modifyPump_queue (p : Fin 4) (f : Pump → Pump) : (s.modifyPump p f).queue = s.queue := rfl
@[simp] theorem State.modifyPump_writing (p : Fin 4) (f : Pump → Pump) : (s.modifyPump p f).writing = s.writing := rfl
@[simp] theorem State.modifyPump_backlog (p : Fin 4) (f : Pump → Pump) : (s.modifyPump p f).backlog = s.backlog := rfl
@[simp] theorem State.modifyPump_startRecords (p : Fin 4) (f : Pump → Pump) : (s.modifyPump p f).startRecords = s.startRecords := rfl
@[simp] theorem State.modifyPump_saving (p : Fin 4) (f : Pump → Pump) : (s.modifyPump p f).saving = s.saving := rfl
@[simp] theorem State.modifyPump_audit (p : Fin 4) (f : Pump → Pump) : (s.modifyPump p f).audit = s.audit := rfl
@[simp] theorem State.modifyPump_pending (p : Fin 4) (f : Pump → Pump) : (s.modifyPump p f).pending = s.pending := rfl

/-! ### modifyMeter -/

@[simp] theorem State.modifyMeter_phase (m : Fin 4) (f : Meter → Meter) : (s.modifyMeter m f).phase = s.phase := rfl
@[simp] theorem State.modifyMeter_started (m : Fin 4) (f : Meter → Meter) : (s.modifyMeter m f).started = s.started := rfl
@[simp] theorem State.modifyMeter_pfail (m : Fin 4) (f : Meter → Meter) : (s.modifyMeter m f).pfail = s.pfail := rfl
@[simp] theorem State.modifyMeter_startMark (m : Fin 4) (f : Meter → Meter) : (s.modifyMeter m f).startMark = s.startMark := rfl
@[simp] theorem State.modifyMeter_clock (m : Fin 4) (f : Meter → Meter) : (s.modifyMeter m f).clock = s.clock := rfl
@[simp] theorem State.modifyMeter_permits (m : Fin 4) (f : Meter → Meter) : (s.modifyMeter m f).permits = s.permits := rfl
@[simp] theorem State.modifyMeter_careMask (m : Fin 4) (f : Meter → Meter) : (s.modifyMeter m f).careMask = s.careMask := rfl
@[simp] theorem State.modifyMeter_context (m : Fin 4) (f : Meter → Meter) : (s.modifyMeter m f).context = s.context := rfl
@[simp] theorem State.modifyMeter_chargeOwed (m : Fin 4) (f : Meter → Meter) : (s.modifyMeter m f).chargeOwed = s.chargeOwed := rfl
@[simp] theorem State.modifyMeter_products (m : Fin 4) (f : Meter → Meter) : (s.modifyMeter m f).products = s.products := rfl
@[simp] theorem State.modifyMeter_staging (m : Fin 4) (f : Meter → Meter) : (s.modifyMeter m f).staging = s.staging := rfl
@[simp] theorem State.modifyMeter_orders (m : Fin 4) (f : Meter → Meter) : (s.modifyMeter m f).orders = s.orders := rfl
@[simp] theorem State.modifyMeter_load (m : Fin 4) (f : Meter → Meter) : (s.modifyMeter m f).load = s.load := rfl
@[simp] theorem State.modifyMeter_imageOwed (m : Fin 4) (f : Meter → Meter) : (s.modifyMeter m f).imageOwed = s.imageOwed := rfl
@[simp] theorem State.modifyMeter_arms (m : Fin 4) (f : Meter → Meter) : (s.modifyMeter m f).arms = s.arms := rfl
@[simp] theorem State.modifyMeter_pumps (m : Fin 4) (f : Meter → Meter) : (s.modifyMeter m f).pumps = s.pumps := rfl
@[simp] theorem State.modifyMeter_meters (m : Fin 4) (f : Meter → Meter) : (s.modifyMeter m f).meters = s.meters.set m (f s.meters[m]) := rfl
@[simp] theorem State.modifyMeter_probes (m : Fin 4) (f : Meter → Meter) : (s.modifyMeter m f).probes = s.probes := rfl
@[simp] theorem State.modifyMeter_scanner (m : Fin 4) (f : Meter → Meter) : (s.modifyMeter m f).scanner = s.scanner := rfl
@[simp] theorem State.modifyMeter_checkpointOwed (m : Fin 4) (f : Meter → Meter) : (s.modifyMeter m f).checkpointOwed = s.checkpointOwed := rfl
@[simp] theorem State.modifyMeter_injectors (m : Fin 4) (f : Meter → Meter) : (s.modifyMeter m f).injectors = s.injectors := rfl
@[simp] theorem State.modifyMeter_recipes (m : Fin 4) (f : Meter → Meter) : (s.modifyMeter m f).recipes = s.recipes := rfl
@[simp] theorem State.modifyMeter_safety (m : Fin 4) (f : Meter → Meter) : (s.modifyMeter m f).safety = s.safety := rfl
@[simp] theorem State.modifyMeter_cal (m : Fin 4) (f : Meter → Meter) : (s.modifyMeter m f).cal = s.cal := rfl
@[simp] theorem State.modifyMeter_sealState (m : Fin 4) (f : Meter → Meter) : (s.modifyMeter m f).sealState = s.sealState := rfl
@[simp] theorem State.modifyMeter_slots (m : Fin 4) (f : Meter → Meter) : (s.modifyMeter m f).slots = s.slots := rfl
@[simp] theorem State.modifyMeter_serial (m : Fin 4) (f : Meter → Meter) : (s.modifyMeter m f).serial = s.serial := rfl
@[simp] theorem State.modifyMeter_holdMinutes (m : Fin 4) (f : Meter → Meter) : (s.modifyMeter m f).holdMinutes = s.holdMinutes := rfl
@[simp] theorem State.modifyMeter_tpReader (m : Fin 4) (f : Meter → Meter) : (s.modifyMeter m f).tpReader = s.tpReader := rfl
@[simp] theorem State.modifyMeter_ppReader (m : Fin 4) (f : Meter → Meter) : (s.modifyMeter m f).ppReader = s.ppReader := rfl
@[simp] theorem State.modifyMeter_ports (m : Fin 4) (f : Meter → Meter) : (s.modifyMeter m f).ports = s.ports := rfl
@[simp] theorem State.modifyMeter_queue (m : Fin 4) (f : Meter → Meter) : (s.modifyMeter m f).queue = s.queue := rfl
@[simp] theorem State.modifyMeter_writing (m : Fin 4) (f : Meter → Meter) : (s.modifyMeter m f).writing = s.writing := rfl
@[simp] theorem State.modifyMeter_backlog (m : Fin 4) (f : Meter → Meter) : (s.modifyMeter m f).backlog = s.backlog := rfl
@[simp] theorem State.modifyMeter_startRecords (m : Fin 4) (f : Meter → Meter) : (s.modifyMeter m f).startRecords = s.startRecords := rfl
@[simp] theorem State.modifyMeter_saving (m : Fin 4) (f : Meter → Meter) : (s.modifyMeter m f).saving = s.saving := rfl
@[simp] theorem State.modifyMeter_audit (m : Fin 4) (f : Meter → Meter) : (s.modifyMeter m f).audit = s.audit := rfl
@[simp] theorem State.modifyMeter_pending (m : Fin 4) (f : Meter → Meter) : (s.modifyMeter m f).pending = s.pending := rfl

/-! ### modifyProbe -/

@[simp] theorem State.modifyProbe_phase (n : Fin 4) (f : Probe → Probe) : (s.modifyProbe n f).phase = s.phase := rfl
@[simp] theorem State.modifyProbe_started (n : Fin 4) (f : Probe → Probe) : (s.modifyProbe n f).started = s.started := rfl
@[simp] theorem State.modifyProbe_pfail (n : Fin 4) (f : Probe → Probe) : (s.modifyProbe n f).pfail = s.pfail := rfl
@[simp] theorem State.modifyProbe_startMark (n : Fin 4) (f : Probe → Probe) : (s.modifyProbe n f).startMark = s.startMark := rfl
@[simp] theorem State.modifyProbe_clock (n : Fin 4) (f : Probe → Probe) : (s.modifyProbe n f).clock = s.clock := rfl
@[simp] theorem State.modifyProbe_permits (n : Fin 4) (f : Probe → Probe) : (s.modifyProbe n f).permits = s.permits := rfl
@[simp] theorem State.modifyProbe_careMask (n : Fin 4) (f : Probe → Probe) : (s.modifyProbe n f).careMask = s.careMask := rfl
@[simp] theorem State.modifyProbe_context (n : Fin 4) (f : Probe → Probe) : (s.modifyProbe n f).context = s.context := rfl
@[simp] theorem State.modifyProbe_chargeOwed (n : Fin 4) (f : Probe → Probe) : (s.modifyProbe n f).chargeOwed = s.chargeOwed := rfl
@[simp] theorem State.modifyProbe_products (n : Fin 4) (f : Probe → Probe) : (s.modifyProbe n f).products = s.products := rfl
@[simp] theorem State.modifyProbe_staging (n : Fin 4) (f : Probe → Probe) : (s.modifyProbe n f).staging = s.staging := rfl
@[simp] theorem State.modifyProbe_orders (n : Fin 4) (f : Probe → Probe) : (s.modifyProbe n f).orders = s.orders := rfl
@[simp] theorem State.modifyProbe_load (n : Fin 4) (f : Probe → Probe) : (s.modifyProbe n f).load = s.load := rfl
@[simp] theorem State.modifyProbe_imageOwed (n : Fin 4) (f : Probe → Probe) : (s.modifyProbe n f).imageOwed = s.imageOwed := rfl
@[simp] theorem State.modifyProbe_arms (n : Fin 4) (f : Probe → Probe) : (s.modifyProbe n f).arms = s.arms := rfl
@[simp] theorem State.modifyProbe_pumps (n : Fin 4) (f : Probe → Probe) : (s.modifyProbe n f).pumps = s.pumps := rfl
@[simp] theorem State.modifyProbe_meters (n : Fin 4) (f : Probe → Probe) : (s.modifyProbe n f).meters = s.meters := rfl
@[simp] theorem State.modifyProbe_probes (n : Fin 4) (f : Probe → Probe) : (s.modifyProbe n f).probes = s.probes.set n (f s.probes[n]) := rfl
@[simp] theorem State.modifyProbe_scanner (n : Fin 4) (f : Probe → Probe) : (s.modifyProbe n f).scanner = s.scanner := rfl
@[simp] theorem State.modifyProbe_checkpointOwed (n : Fin 4) (f : Probe → Probe) : (s.modifyProbe n f).checkpointOwed = s.checkpointOwed := rfl
@[simp] theorem State.modifyProbe_injectors (n : Fin 4) (f : Probe → Probe) : (s.modifyProbe n f).injectors = s.injectors := rfl
@[simp] theorem State.modifyProbe_recipes (n : Fin 4) (f : Probe → Probe) : (s.modifyProbe n f).recipes = s.recipes := rfl
@[simp] theorem State.modifyProbe_safety (n : Fin 4) (f : Probe → Probe) : (s.modifyProbe n f).safety = s.safety := rfl
@[simp] theorem State.modifyProbe_cal (n : Fin 4) (f : Probe → Probe) : (s.modifyProbe n f).cal = s.cal := rfl
@[simp] theorem State.modifyProbe_sealState (n : Fin 4) (f : Probe → Probe) : (s.modifyProbe n f).sealState = s.sealState := rfl
@[simp] theorem State.modifyProbe_slots (n : Fin 4) (f : Probe → Probe) : (s.modifyProbe n f).slots = s.slots := rfl
@[simp] theorem State.modifyProbe_serial (n : Fin 4) (f : Probe → Probe) : (s.modifyProbe n f).serial = s.serial := rfl
@[simp] theorem State.modifyProbe_holdMinutes (n : Fin 4) (f : Probe → Probe) : (s.modifyProbe n f).holdMinutes = s.holdMinutes := rfl
@[simp] theorem State.modifyProbe_tpReader (n : Fin 4) (f : Probe → Probe) : (s.modifyProbe n f).tpReader = s.tpReader := rfl
@[simp] theorem State.modifyProbe_ppReader (n : Fin 4) (f : Probe → Probe) : (s.modifyProbe n f).ppReader = s.ppReader := rfl
@[simp] theorem State.modifyProbe_ports (n : Fin 4) (f : Probe → Probe) : (s.modifyProbe n f).ports = s.ports := rfl
@[simp] theorem State.modifyProbe_queue (n : Fin 4) (f : Probe → Probe) : (s.modifyProbe n f).queue = s.queue := rfl
@[simp] theorem State.modifyProbe_writing (n : Fin 4) (f : Probe → Probe) : (s.modifyProbe n f).writing = s.writing := rfl
@[simp] theorem State.modifyProbe_backlog (n : Fin 4) (f : Probe → Probe) : (s.modifyProbe n f).backlog = s.backlog := rfl
@[simp] theorem State.modifyProbe_startRecords (n : Fin 4) (f : Probe → Probe) : (s.modifyProbe n f).startRecords = s.startRecords := rfl
@[simp] theorem State.modifyProbe_saving (n : Fin 4) (f : Probe → Probe) : (s.modifyProbe n f).saving = s.saving := rfl
@[simp] theorem State.modifyProbe_audit (n : Fin 4) (f : Probe → Probe) : (s.modifyProbe n f).audit = s.audit := rfl
@[simp] theorem State.modifyProbe_pending (n : Fin 4) (f : Probe → Probe) : (s.modifyProbe n f).pending = s.pending := rfl

/-! ### modifyInjector -/

@[simp] theorem State.modifyInjector_phase (j : Fin 8) (f : Injector → Injector) : (s.modifyInjector j f).phase = s.phase := rfl
@[simp] theorem State.modifyInjector_started (j : Fin 8) (f : Injector → Injector) : (s.modifyInjector j f).started = s.started := rfl
@[simp] theorem State.modifyInjector_pfail (j : Fin 8) (f : Injector → Injector) : (s.modifyInjector j f).pfail = s.pfail := rfl
@[simp] theorem State.modifyInjector_startMark (j : Fin 8) (f : Injector → Injector) : (s.modifyInjector j f).startMark = s.startMark := rfl
@[simp] theorem State.modifyInjector_clock (j : Fin 8) (f : Injector → Injector) : (s.modifyInjector j f).clock = s.clock := rfl
@[simp] theorem State.modifyInjector_permits (j : Fin 8) (f : Injector → Injector) : (s.modifyInjector j f).permits = s.permits := rfl
@[simp] theorem State.modifyInjector_careMask (j : Fin 8) (f : Injector → Injector) : (s.modifyInjector j f).careMask = s.careMask := rfl
@[simp] theorem State.modifyInjector_context (j : Fin 8) (f : Injector → Injector) : (s.modifyInjector j f).context = s.context := rfl
@[simp] theorem State.modifyInjector_chargeOwed (j : Fin 8) (f : Injector → Injector) : (s.modifyInjector j f).chargeOwed = s.chargeOwed := rfl
@[simp] theorem State.modifyInjector_products (j : Fin 8) (f : Injector → Injector) : (s.modifyInjector j f).products = s.products := rfl
@[simp] theorem State.modifyInjector_staging (j : Fin 8) (f : Injector → Injector) : (s.modifyInjector j f).staging = s.staging := rfl
@[simp] theorem State.modifyInjector_orders (j : Fin 8) (f : Injector → Injector) : (s.modifyInjector j f).orders = s.orders := rfl
@[simp] theorem State.modifyInjector_load (j : Fin 8) (f : Injector → Injector) : (s.modifyInjector j f).load = s.load := rfl
@[simp] theorem State.modifyInjector_imageOwed (j : Fin 8) (f : Injector → Injector) : (s.modifyInjector j f).imageOwed = s.imageOwed := rfl
@[simp] theorem State.modifyInjector_arms (j : Fin 8) (f : Injector → Injector) : (s.modifyInjector j f).arms = s.arms := rfl
@[simp] theorem State.modifyInjector_pumps (j : Fin 8) (f : Injector → Injector) : (s.modifyInjector j f).pumps = s.pumps := rfl
@[simp] theorem State.modifyInjector_meters (j : Fin 8) (f : Injector → Injector) : (s.modifyInjector j f).meters = s.meters := rfl
@[simp] theorem State.modifyInjector_probes (j : Fin 8) (f : Injector → Injector) : (s.modifyInjector j f).probes = s.probes := rfl
@[simp] theorem State.modifyInjector_scanner (j : Fin 8) (f : Injector → Injector) : (s.modifyInjector j f).scanner = s.scanner := rfl
@[simp] theorem State.modifyInjector_checkpointOwed (j : Fin 8) (f : Injector → Injector) : (s.modifyInjector j f).checkpointOwed = s.checkpointOwed := rfl
@[simp] theorem State.modifyInjector_injectors (j : Fin 8) (f : Injector → Injector) : (s.modifyInjector j f).injectors = s.injectors.set j (f s.injectors[j]) := rfl
@[simp] theorem State.modifyInjector_recipes (j : Fin 8) (f : Injector → Injector) : (s.modifyInjector j f).recipes = s.recipes := rfl
@[simp] theorem State.modifyInjector_safety (j : Fin 8) (f : Injector → Injector) : (s.modifyInjector j f).safety = s.safety := rfl
@[simp] theorem State.modifyInjector_cal (j : Fin 8) (f : Injector → Injector) : (s.modifyInjector j f).cal = s.cal := rfl
@[simp] theorem State.modifyInjector_sealState (j : Fin 8) (f : Injector → Injector) : (s.modifyInjector j f).sealState = s.sealState := rfl
@[simp] theorem State.modifyInjector_slots (j : Fin 8) (f : Injector → Injector) : (s.modifyInjector j f).slots = s.slots := rfl
@[simp] theorem State.modifyInjector_serial (j : Fin 8) (f : Injector → Injector) : (s.modifyInjector j f).serial = s.serial := rfl
@[simp] theorem State.modifyInjector_holdMinutes (j : Fin 8) (f : Injector → Injector) : (s.modifyInjector j f).holdMinutes = s.holdMinutes := rfl
@[simp] theorem State.modifyInjector_tpReader (j : Fin 8) (f : Injector → Injector) : (s.modifyInjector j f).tpReader = s.tpReader := rfl
@[simp] theorem State.modifyInjector_ppReader (j : Fin 8) (f : Injector → Injector) : (s.modifyInjector j f).ppReader = s.ppReader := rfl
@[simp] theorem State.modifyInjector_ports (j : Fin 8) (f : Injector → Injector) : (s.modifyInjector j f).ports = s.ports := rfl
@[simp] theorem State.modifyInjector_queue (j : Fin 8) (f : Injector → Injector) : (s.modifyInjector j f).queue = s.queue := rfl
@[simp] theorem State.modifyInjector_writing (j : Fin 8) (f : Injector → Injector) : (s.modifyInjector j f).writing = s.writing := rfl
@[simp] theorem State.modifyInjector_backlog (j : Fin 8) (f : Injector → Injector) : (s.modifyInjector j f).backlog = s.backlog := rfl
@[simp] theorem State.modifyInjector_startRecords (j : Fin 8) (f : Injector → Injector) : (s.modifyInjector j f).startRecords = s.startRecords := rfl
@[simp] theorem State.modifyInjector_saving (j : Fin 8) (f : Injector → Injector) : (s.modifyInjector j f).saving = s.saving := rfl
@[simp] theorem State.modifyInjector_audit (j : Fin 8) (f : Injector → Injector) : (s.modifyInjector j f).audit = s.audit := rfl
@[simp] theorem State.modifyInjector_pending (j : Fin 8) (f : Injector → Injector) : (s.modifyInjector j f).pending = s.pending := rfl

/-! ### modifySlot -/

@[simp] theorem State.modifySlot_phase (i : Fin 8) (f : Slot → Slot) : (s.modifySlot i f).phase = s.phase := rfl
@[simp] theorem State.modifySlot_started (i : Fin 8) (f : Slot → Slot) : (s.modifySlot i f).started = s.started := rfl
@[simp] theorem State.modifySlot_pfail (i : Fin 8) (f : Slot → Slot) : (s.modifySlot i f).pfail = s.pfail := rfl
@[simp] theorem State.modifySlot_startMark (i : Fin 8) (f : Slot → Slot) : (s.modifySlot i f).startMark = s.startMark := rfl
@[simp] theorem State.modifySlot_clock (i : Fin 8) (f : Slot → Slot) : (s.modifySlot i f).clock = s.clock := rfl
@[simp] theorem State.modifySlot_permits (i : Fin 8) (f : Slot → Slot) : (s.modifySlot i f).permits = s.permits := rfl
@[simp] theorem State.modifySlot_careMask (i : Fin 8) (f : Slot → Slot) : (s.modifySlot i f).careMask = s.careMask := rfl
@[simp] theorem State.modifySlot_context (i : Fin 8) (f : Slot → Slot) : (s.modifySlot i f).context = s.context := rfl
@[simp] theorem State.modifySlot_chargeOwed (i : Fin 8) (f : Slot → Slot) : (s.modifySlot i f).chargeOwed = s.chargeOwed := rfl
@[simp] theorem State.modifySlot_products (i : Fin 8) (f : Slot → Slot) : (s.modifySlot i f).products = s.products := rfl
@[simp] theorem State.modifySlot_staging (i : Fin 8) (f : Slot → Slot) : (s.modifySlot i f).staging = s.staging := rfl
@[simp] theorem State.modifySlot_orders (i : Fin 8) (f : Slot → Slot) : (s.modifySlot i f).orders = s.orders := rfl
@[simp] theorem State.modifySlot_load (i : Fin 8) (f : Slot → Slot) : (s.modifySlot i f).load = s.load := rfl
@[simp] theorem State.modifySlot_imageOwed (i : Fin 8) (f : Slot → Slot) : (s.modifySlot i f).imageOwed = s.imageOwed := rfl
@[simp] theorem State.modifySlot_arms (i : Fin 8) (f : Slot → Slot) : (s.modifySlot i f).arms = s.arms := rfl
@[simp] theorem State.modifySlot_pumps (i : Fin 8) (f : Slot → Slot) : (s.modifySlot i f).pumps = s.pumps := rfl
@[simp] theorem State.modifySlot_meters (i : Fin 8) (f : Slot → Slot) : (s.modifySlot i f).meters = s.meters := rfl
@[simp] theorem State.modifySlot_probes (i : Fin 8) (f : Slot → Slot) : (s.modifySlot i f).probes = s.probes := rfl
@[simp] theorem State.modifySlot_scanner (i : Fin 8) (f : Slot → Slot) : (s.modifySlot i f).scanner = s.scanner := rfl
@[simp] theorem State.modifySlot_checkpointOwed (i : Fin 8) (f : Slot → Slot) : (s.modifySlot i f).checkpointOwed = s.checkpointOwed := rfl
@[simp] theorem State.modifySlot_injectors (i : Fin 8) (f : Slot → Slot) : (s.modifySlot i f).injectors = s.injectors := rfl
@[simp] theorem State.modifySlot_recipes (i : Fin 8) (f : Slot → Slot) : (s.modifySlot i f).recipes = s.recipes := rfl
@[simp] theorem State.modifySlot_safety (i : Fin 8) (f : Slot → Slot) : (s.modifySlot i f).safety = s.safety := rfl
@[simp] theorem State.modifySlot_cal (i : Fin 8) (f : Slot → Slot) : (s.modifySlot i f).cal = s.cal := rfl
@[simp] theorem State.modifySlot_sealState (i : Fin 8) (f : Slot → Slot) : (s.modifySlot i f).sealState = s.sealState := rfl
@[simp] theorem State.modifySlot_slots (i : Fin 8) (f : Slot → Slot) : (s.modifySlot i f).slots = s.slots.set i (f s.slots[i]) := rfl
@[simp] theorem State.modifySlot_serial (i : Fin 8) (f : Slot → Slot) : (s.modifySlot i f).serial = s.serial := rfl
@[simp] theorem State.modifySlot_holdMinutes (i : Fin 8) (f : Slot → Slot) : (s.modifySlot i f).holdMinutes = s.holdMinutes := rfl
@[simp] theorem State.modifySlot_tpReader (i : Fin 8) (f : Slot → Slot) : (s.modifySlot i f).tpReader = s.tpReader := rfl
@[simp] theorem State.modifySlot_ppReader (i : Fin 8) (f : Slot → Slot) : (s.modifySlot i f).ppReader = s.ppReader := rfl
@[simp] theorem State.modifySlot_ports (i : Fin 8) (f : Slot → Slot) : (s.modifySlot i f).ports = s.ports := rfl
@[simp] theorem State.modifySlot_queue (i : Fin 8) (f : Slot → Slot) : (s.modifySlot i f).queue = s.queue := rfl
@[simp] theorem State.modifySlot_writing (i : Fin 8) (f : Slot → Slot) : (s.modifySlot i f).writing = s.writing := rfl
@[simp] theorem State.modifySlot_backlog (i : Fin 8) (f : Slot → Slot) : (s.modifySlot i f).backlog = s.backlog := rfl
@[simp] theorem State.modifySlot_startRecords (i : Fin 8) (f : Slot → Slot) : (s.modifySlot i f).startRecords = s.startRecords := rfl
@[simp] theorem State.modifySlot_saving (i : Fin 8) (f : Slot → Slot) : (s.modifySlot i f).saving = s.saving := rfl
@[simp] theorem State.modifySlot_audit (i : Fin 8) (f : Slot → Slot) : (s.modifySlot i f).audit = s.audit := rfl
@[simp] theorem State.modifySlot_pending (i : Fin 8) (f : Slot → Slot) : (s.modifySlot i f).pending = s.pending := rfl

/-! ### modifyLoad -/

@[simp] theorem State.modifyLoad_phase (f : LoadRecord → LoadRecord) : (s.modifyLoad f).phase = s.phase := rfl
@[simp] theorem State.modifyLoad_started (f : LoadRecord → LoadRecord) : (s.modifyLoad f).started = s.started := rfl
@[simp] theorem State.modifyLoad_pfail (f : LoadRecord → LoadRecord) : (s.modifyLoad f).pfail = s.pfail := rfl
@[simp] theorem State.modifyLoad_startMark (f : LoadRecord → LoadRecord) : (s.modifyLoad f).startMark = s.startMark := rfl
@[simp] theorem State.modifyLoad_clock (f : LoadRecord → LoadRecord) : (s.modifyLoad f).clock = s.clock := rfl
@[simp] theorem State.modifyLoad_permits (f : LoadRecord → LoadRecord) : (s.modifyLoad f).permits = s.permits := rfl
@[simp] theorem State.modifyLoad_careMask (f : LoadRecord → LoadRecord) : (s.modifyLoad f).careMask = s.careMask := rfl
@[simp] theorem State.modifyLoad_context (f : LoadRecord → LoadRecord) : (s.modifyLoad f).context = s.context := rfl
@[simp] theorem State.modifyLoad_chargeOwed (f : LoadRecord → LoadRecord) : (s.modifyLoad f).chargeOwed = s.chargeOwed := rfl
@[simp] theorem State.modifyLoad_products (f : LoadRecord → LoadRecord) : (s.modifyLoad f).products = s.products := rfl
@[simp] theorem State.modifyLoad_staging (f : LoadRecord → LoadRecord) : (s.modifyLoad f).staging = s.staging := rfl
@[simp] theorem State.modifyLoad_orders (f : LoadRecord → LoadRecord) : (s.modifyLoad f).orders = s.orders := rfl
@[simp] theorem State.modifyLoad_load (f : LoadRecord → LoadRecord) : (s.modifyLoad f).load = s.load.map f := rfl
@[simp] theorem State.modifyLoad_imageOwed (f : LoadRecord → LoadRecord) : (s.modifyLoad f).imageOwed = s.imageOwed := rfl
@[simp] theorem State.modifyLoad_arms (f : LoadRecord → LoadRecord) : (s.modifyLoad f).arms = s.arms := rfl
@[simp] theorem State.modifyLoad_pumps (f : LoadRecord → LoadRecord) : (s.modifyLoad f).pumps = s.pumps := rfl
@[simp] theorem State.modifyLoad_meters (f : LoadRecord → LoadRecord) : (s.modifyLoad f).meters = s.meters := rfl
@[simp] theorem State.modifyLoad_probes (f : LoadRecord → LoadRecord) : (s.modifyLoad f).probes = s.probes := rfl
@[simp] theorem State.modifyLoad_scanner (f : LoadRecord → LoadRecord) : (s.modifyLoad f).scanner = s.scanner := rfl
@[simp] theorem State.modifyLoad_checkpointOwed (f : LoadRecord → LoadRecord) : (s.modifyLoad f).checkpointOwed = s.checkpointOwed := rfl
@[simp] theorem State.modifyLoad_injectors (f : LoadRecord → LoadRecord) : (s.modifyLoad f).injectors = s.injectors := rfl
@[simp] theorem State.modifyLoad_recipes (f : LoadRecord → LoadRecord) : (s.modifyLoad f).recipes = s.recipes := rfl
@[simp] theorem State.modifyLoad_safety (f : LoadRecord → LoadRecord) : (s.modifyLoad f).safety = s.safety := rfl
@[simp] theorem State.modifyLoad_cal (f : LoadRecord → LoadRecord) : (s.modifyLoad f).cal = s.cal := rfl
@[simp] theorem State.modifyLoad_sealState (f : LoadRecord → LoadRecord) : (s.modifyLoad f).sealState = s.sealState := rfl
@[simp] theorem State.modifyLoad_slots (f : LoadRecord → LoadRecord) : (s.modifyLoad f).slots = s.slots := rfl
@[simp] theorem State.modifyLoad_serial (f : LoadRecord → LoadRecord) : (s.modifyLoad f).serial = s.serial := rfl
@[simp] theorem State.modifyLoad_holdMinutes (f : LoadRecord → LoadRecord) : (s.modifyLoad f).holdMinutes = s.holdMinutes := rfl
@[simp] theorem State.modifyLoad_tpReader (f : LoadRecord → LoadRecord) : (s.modifyLoad f).tpReader = s.tpReader := rfl
@[simp] theorem State.modifyLoad_ppReader (f : LoadRecord → LoadRecord) : (s.modifyLoad f).ppReader = s.ppReader := rfl
@[simp] theorem State.modifyLoad_ports (f : LoadRecord → LoadRecord) : (s.modifyLoad f).ports = s.ports := rfl
@[simp] theorem State.modifyLoad_queue (f : LoadRecord → LoadRecord) : (s.modifyLoad f).queue = s.queue := rfl
@[simp] theorem State.modifyLoad_writing (f : LoadRecord → LoadRecord) : (s.modifyLoad f).writing = s.writing := rfl
@[simp] theorem State.modifyLoad_backlog (f : LoadRecord → LoadRecord) : (s.modifyLoad f).backlog = s.backlog := rfl
@[simp] theorem State.modifyLoad_startRecords (f : LoadRecord → LoadRecord) : (s.modifyLoad f).startRecords = s.startRecords := rfl
@[simp] theorem State.modifyLoad_saving (f : LoadRecord → LoadRecord) : (s.modifyLoad f).saving = s.saving := rfl
@[simp] theorem State.modifyLoad_audit (f : LoadRecord → LoadRecord) : (s.modifyLoad f).audit = s.audit := rfl
@[simp] theorem State.modifyLoad_pending (f : LoadRecord → LoadRecord) : (s.modifyLoad f).pending = s.pending := rfl

/-! ### modifyComp -/

@[simp] theorem State.modifyComp_phase (n : Nat) (f : CompRecord → CompRecord) : (s.modifyComp n f).phase = s.phase := rfl
@[simp] theorem State.modifyComp_started (n : Nat) (f : CompRecord → CompRecord) : (s.modifyComp n f).started = s.started := rfl
@[simp] theorem State.modifyComp_pfail (n : Nat) (f : CompRecord → CompRecord) : (s.modifyComp n f).pfail = s.pfail := rfl
@[simp] theorem State.modifyComp_startMark (n : Nat) (f : CompRecord → CompRecord) : (s.modifyComp n f).startMark = s.startMark := rfl
@[simp] theorem State.modifyComp_clock (n : Nat) (f : CompRecord → CompRecord) : (s.modifyComp n f).clock = s.clock := rfl
@[simp] theorem State.modifyComp_permits (n : Nat) (f : CompRecord → CompRecord) : (s.modifyComp n f).permits = s.permits := rfl
@[simp] theorem State.modifyComp_careMask (n : Nat) (f : CompRecord → CompRecord) : (s.modifyComp n f).careMask = s.careMask := rfl
@[simp] theorem State.modifyComp_context (n : Nat) (f : CompRecord → CompRecord) : (s.modifyComp n f).context = s.context := rfl
@[simp] theorem State.modifyComp_chargeOwed (n : Nat) (f : CompRecord → CompRecord) : (s.modifyComp n f).chargeOwed = s.chargeOwed := rfl
@[simp] theorem State.modifyComp_products (n : Nat) (f : CompRecord → CompRecord) : (s.modifyComp n f).products = s.products := rfl
@[simp] theorem State.modifyComp_staging (n : Nat) (f : CompRecord → CompRecord) : (s.modifyComp n f).staging = s.staging := rfl
@[simp] theorem State.modifyComp_orders (n : Nat) (f : CompRecord → CompRecord) : (s.modifyComp n f).orders = s.orders := rfl
@[simp] theorem State.modifyComp_load (n : Nat) (f : CompRecord → CompRecord) : (s.modifyComp n f).load = s.load.map (LoadRecord.modifyComp n f) := rfl
@[simp] theorem State.modifyComp_imageOwed (n : Nat) (f : CompRecord → CompRecord) : (s.modifyComp n f).imageOwed = s.imageOwed := rfl
@[simp] theorem State.modifyComp_arms (n : Nat) (f : CompRecord → CompRecord) : (s.modifyComp n f).arms = s.arms := rfl
@[simp] theorem State.modifyComp_pumps (n : Nat) (f : CompRecord → CompRecord) : (s.modifyComp n f).pumps = s.pumps := rfl
@[simp] theorem State.modifyComp_meters (n : Nat) (f : CompRecord → CompRecord) : (s.modifyComp n f).meters = s.meters := rfl
@[simp] theorem State.modifyComp_probes (n : Nat) (f : CompRecord → CompRecord) : (s.modifyComp n f).probes = s.probes := rfl
@[simp] theorem State.modifyComp_scanner (n : Nat) (f : CompRecord → CompRecord) : (s.modifyComp n f).scanner = s.scanner := rfl
@[simp] theorem State.modifyComp_checkpointOwed (n : Nat) (f : CompRecord → CompRecord) : (s.modifyComp n f).checkpointOwed = s.checkpointOwed := rfl
@[simp] theorem State.modifyComp_injectors (n : Nat) (f : CompRecord → CompRecord) : (s.modifyComp n f).injectors = s.injectors := rfl
@[simp] theorem State.modifyComp_recipes (n : Nat) (f : CompRecord → CompRecord) : (s.modifyComp n f).recipes = s.recipes := rfl
@[simp] theorem State.modifyComp_safety (n : Nat) (f : CompRecord → CompRecord) : (s.modifyComp n f).safety = s.safety := rfl
@[simp] theorem State.modifyComp_cal (n : Nat) (f : CompRecord → CompRecord) : (s.modifyComp n f).cal = s.cal := rfl
@[simp] theorem State.modifyComp_sealState (n : Nat) (f : CompRecord → CompRecord) : (s.modifyComp n f).sealState = s.sealState := rfl
@[simp] theorem State.modifyComp_slots (n : Nat) (f : CompRecord → CompRecord) : (s.modifyComp n f).slots = s.slots := rfl
@[simp] theorem State.modifyComp_serial (n : Nat) (f : CompRecord → CompRecord) : (s.modifyComp n f).serial = s.serial := rfl
@[simp] theorem State.modifyComp_holdMinutes (n : Nat) (f : CompRecord → CompRecord) : (s.modifyComp n f).holdMinutes = s.holdMinutes := rfl
@[simp] theorem State.modifyComp_tpReader (n : Nat) (f : CompRecord → CompRecord) : (s.modifyComp n f).tpReader = s.tpReader := rfl
@[simp] theorem State.modifyComp_ppReader (n : Nat) (f : CompRecord → CompRecord) : (s.modifyComp n f).ppReader = s.ppReader := rfl
@[simp] theorem State.modifyComp_ports (n : Nat) (f : CompRecord → CompRecord) : (s.modifyComp n f).ports = s.ports := rfl
@[simp] theorem State.modifyComp_queue (n : Nat) (f : CompRecord → CompRecord) : (s.modifyComp n f).queue = s.queue := rfl
@[simp] theorem State.modifyComp_writing (n : Nat) (f : CompRecord → CompRecord) : (s.modifyComp n f).writing = s.writing := rfl
@[simp] theorem State.modifyComp_backlog (n : Nat) (f : CompRecord → CompRecord) : (s.modifyComp n f).backlog = s.backlog := rfl
@[simp] theorem State.modifyComp_startRecords (n : Nat) (f : CompRecord → CompRecord) : (s.modifyComp n f).startRecords = s.startRecords := rfl
@[simp] theorem State.modifyComp_saving (n : Nat) (f : CompRecord → CompRecord) : (s.modifyComp n f).saving = s.saving := rfl
@[simp] theorem State.modifyComp_audit (n : Nat) (f : CompRecord → CompRecord) : (s.modifyComp n f).audit = s.audit := rfl
@[simp] theorem State.modifyComp_pending (n : Nat) (f : CompRecord → CompRecord) : (s.modifyComp n f).pending = s.pending := rfl

/-! ### modifyArms -/

@[simp] theorem State.modifyArms_phase (k : ArmMask) (f : Arm → Arm) : (s.modifyArms k f).phase = s.phase := rfl
@[simp] theorem State.modifyArms_started (k : ArmMask) (f : Arm → Arm) : (s.modifyArms k f).started = s.started := rfl
@[simp] theorem State.modifyArms_pfail (k : ArmMask) (f : Arm → Arm) : (s.modifyArms k f).pfail = s.pfail := rfl
@[simp] theorem State.modifyArms_startMark (k : ArmMask) (f : Arm → Arm) : (s.modifyArms k f).startMark = s.startMark := rfl
@[simp] theorem State.modifyArms_clock (k : ArmMask) (f : Arm → Arm) : (s.modifyArms k f).clock = s.clock := rfl
@[simp] theorem State.modifyArms_permits (k : ArmMask) (f : Arm → Arm) : (s.modifyArms k f).permits = s.permits := rfl
@[simp] theorem State.modifyArms_careMask (k : ArmMask) (f : Arm → Arm) : (s.modifyArms k f).careMask = s.careMask := rfl
@[simp] theorem State.modifyArms_context (k : ArmMask) (f : Arm → Arm) : (s.modifyArms k f).context = s.context := rfl
@[simp] theorem State.modifyArms_chargeOwed (k : ArmMask) (f : Arm → Arm) : (s.modifyArms k f).chargeOwed = s.chargeOwed := rfl
@[simp] theorem State.modifyArms_products (k : ArmMask) (f : Arm → Arm) : (s.modifyArms k f).products = s.products := rfl
@[simp] theorem State.modifyArms_staging (k : ArmMask) (f : Arm → Arm) : (s.modifyArms k f).staging = s.staging := rfl
@[simp] theorem State.modifyArms_orders (k : ArmMask) (f : Arm → Arm) : (s.modifyArms k f).orders = s.orders := rfl
@[simp] theorem State.modifyArms_load (k : ArmMask) (f : Arm → Arm) : (s.modifyArms k f).load = s.load := rfl
@[simp] theorem State.modifyArms_imageOwed (k : ArmMask) (f : Arm → Arm) : (s.modifyArms k f).imageOwed = s.imageOwed := rfl
@[simp] theorem State.modifyArms_pumps (k : ArmMask) (f : Arm → Arm) : (s.modifyArms k f).pumps = s.pumps := rfl
@[simp] theorem State.modifyArms_meters (k : ArmMask) (f : Arm → Arm) : (s.modifyArms k f).meters = s.meters := rfl
@[simp] theorem State.modifyArms_probes (k : ArmMask) (f : Arm → Arm) : (s.modifyArms k f).probes = s.probes := rfl
@[simp] theorem State.modifyArms_scanner (k : ArmMask) (f : Arm → Arm) : (s.modifyArms k f).scanner = s.scanner := rfl
@[simp] theorem State.modifyArms_checkpointOwed (k : ArmMask) (f : Arm → Arm) : (s.modifyArms k f).checkpointOwed = s.checkpointOwed := rfl
@[simp] theorem State.modifyArms_injectors (k : ArmMask) (f : Arm → Arm) : (s.modifyArms k f).injectors = s.injectors := rfl
@[simp] theorem State.modifyArms_recipes (k : ArmMask) (f : Arm → Arm) : (s.modifyArms k f).recipes = s.recipes := rfl
@[simp] theorem State.modifyArms_safety (k : ArmMask) (f : Arm → Arm) : (s.modifyArms k f).safety = s.safety := rfl
@[simp] theorem State.modifyArms_cal (k : ArmMask) (f : Arm → Arm) : (s.modifyArms k f).cal = s.cal := rfl
@[simp] theorem State.modifyArms_sealState (k : ArmMask) (f : Arm → Arm) : (s.modifyArms k f).sealState = s.sealState := rfl
@[simp] theorem State.modifyArms_slots (k : ArmMask) (f : Arm → Arm) : (s.modifyArms k f).slots = s.slots := rfl
@[simp] theorem State.modifyArms_serial (k : ArmMask) (f : Arm → Arm) : (s.modifyArms k f).serial = s.serial := rfl
@[simp] theorem State.modifyArms_holdMinutes (k : ArmMask) (f : Arm → Arm) : (s.modifyArms k f).holdMinutes = s.holdMinutes := rfl
@[simp] theorem State.modifyArms_tpReader (k : ArmMask) (f : Arm → Arm) : (s.modifyArms k f).tpReader = s.tpReader := rfl
@[simp] theorem State.modifyArms_ppReader (k : ArmMask) (f : Arm → Arm) : (s.modifyArms k f).ppReader = s.ppReader := rfl
@[simp] theorem State.modifyArms_ports (k : ArmMask) (f : Arm → Arm) : (s.modifyArms k f).ports = s.ports := rfl
@[simp] theorem State.modifyArms_queue (k : ArmMask) (f : Arm → Arm) : (s.modifyArms k f).queue = s.queue := rfl
@[simp] theorem State.modifyArms_writing (k : ArmMask) (f : Arm → Arm) : (s.modifyArms k f).writing = s.writing := rfl
@[simp] theorem State.modifyArms_backlog (k : ArmMask) (f : Arm → Arm) : (s.modifyArms k f).backlog = s.backlog := rfl
@[simp] theorem State.modifyArms_startRecords (k : ArmMask) (f : Arm → Arm) : (s.modifyArms k f).startRecords = s.startRecords := rfl
@[simp] theorem State.modifyArms_saving (k : ArmMask) (f : Arm → Arm) : (s.modifyArms k f).saving = s.saving := rfl
@[simp] theorem State.modifyArms_audit (k : ArmMask) (f : Arm → Arm) : (s.modifyArms k f).audit = s.audit := rfl
@[simp] theorem State.modifyArms_pending (k : ArmMask) (f : Arm → Arm) : (s.modifyArms k f).pending = s.pending := rfl

/-! ### mapArms -/

@[simp] theorem State.mapArms_phase (f : Arm → Arm) : (s.mapArms f).phase = s.phase := rfl
@[simp] theorem State.mapArms_started (f : Arm → Arm) : (s.mapArms f).started = s.started := rfl
@[simp] theorem State.mapArms_pfail (f : Arm → Arm) : (s.mapArms f).pfail = s.pfail := rfl
@[simp] theorem State.mapArms_startMark (f : Arm → Arm) : (s.mapArms f).startMark = s.startMark := rfl
@[simp] theorem State.mapArms_clock (f : Arm → Arm) : (s.mapArms f).clock = s.clock := rfl
@[simp] theorem State.mapArms_permits (f : Arm → Arm) : (s.mapArms f).permits = s.permits := rfl
@[simp] theorem State.mapArms_careMask (f : Arm → Arm) : (s.mapArms f).careMask = s.careMask := rfl
@[simp] theorem State.mapArms_context (f : Arm → Arm) : (s.mapArms f).context = s.context := rfl
@[simp] theorem State.mapArms_chargeOwed (f : Arm → Arm) : (s.mapArms f).chargeOwed = s.chargeOwed := rfl
@[simp] theorem State.mapArms_products (f : Arm → Arm) : (s.mapArms f).products = s.products := rfl
@[simp] theorem State.mapArms_staging (f : Arm → Arm) : (s.mapArms f).staging = s.staging := rfl
@[simp] theorem State.mapArms_orders (f : Arm → Arm) : (s.mapArms f).orders = s.orders := rfl
@[simp] theorem State.mapArms_load (f : Arm → Arm) : (s.mapArms f).load = s.load := rfl
@[simp] theorem State.mapArms_imageOwed (f : Arm → Arm) : (s.mapArms f).imageOwed = s.imageOwed := rfl
@[simp] theorem State.mapArms_pumps (f : Arm → Arm) : (s.mapArms f).pumps = s.pumps := rfl
@[simp] theorem State.mapArms_meters (f : Arm → Arm) : (s.mapArms f).meters = s.meters := rfl
@[simp] theorem State.mapArms_probes (f : Arm → Arm) : (s.mapArms f).probes = s.probes := rfl
@[simp] theorem State.mapArms_scanner (f : Arm → Arm) : (s.mapArms f).scanner = s.scanner := rfl
@[simp] theorem State.mapArms_checkpointOwed (f : Arm → Arm) : (s.mapArms f).checkpointOwed = s.checkpointOwed := rfl
@[simp] theorem State.mapArms_injectors (f : Arm → Arm) : (s.mapArms f).injectors = s.injectors := rfl
@[simp] theorem State.mapArms_recipes (f : Arm → Arm) : (s.mapArms f).recipes = s.recipes := rfl
@[simp] theorem State.mapArms_safety (f : Arm → Arm) : (s.mapArms f).safety = s.safety := rfl
@[simp] theorem State.mapArms_cal (f : Arm → Arm) : (s.mapArms f).cal = s.cal := rfl
@[simp] theorem State.mapArms_sealState (f : Arm → Arm) : (s.mapArms f).sealState = s.sealState := rfl
@[simp] theorem State.mapArms_slots (f : Arm → Arm) : (s.mapArms f).slots = s.slots := rfl
@[simp] theorem State.mapArms_serial (f : Arm → Arm) : (s.mapArms f).serial = s.serial := rfl
@[simp] theorem State.mapArms_holdMinutes (f : Arm → Arm) : (s.mapArms f).holdMinutes = s.holdMinutes := rfl
@[simp] theorem State.mapArms_tpReader (f : Arm → Arm) : (s.mapArms f).tpReader = s.tpReader := rfl
@[simp] theorem State.mapArms_ppReader (f : Arm → Arm) : (s.mapArms f).ppReader = s.ppReader := rfl
@[simp] theorem State.mapArms_ports (f : Arm → Arm) : (s.mapArms f).ports = s.ports := rfl
@[simp] theorem State.mapArms_queue (f : Arm → Arm) : (s.mapArms f).queue = s.queue := rfl
@[simp] theorem State.mapArms_writing (f : Arm → Arm) : (s.mapArms f).writing = s.writing := rfl
@[simp] theorem State.mapArms_backlog (f : Arm → Arm) : (s.mapArms f).backlog = s.backlog := rfl
@[simp] theorem State.mapArms_startRecords (f : Arm → Arm) : (s.mapArms f).startRecords = s.startRecords := rfl
@[simp] theorem State.mapArms_saving (f : Arm → Arm) : (s.mapArms f).saving = s.saving := rfl
@[simp] theorem State.mapArms_audit (f : Arm → Arm) : (s.mapArms f).audit = s.audit := rfl
@[simp] theorem State.mapArms_pending (f : Arm → Arm) : (s.mapArms f).pending = s.pending := rfl

/-! ### mapPumps -/

@[simp] theorem State.mapPumps_phase (f : Pump → Pump) : (s.mapPumps f).phase = s.phase := rfl
@[simp] theorem State.mapPumps_started (f : Pump → Pump) : (s.mapPumps f).started = s.started := rfl
@[simp] theorem State.mapPumps_pfail (f : Pump → Pump) : (s.mapPumps f).pfail = s.pfail := rfl
@[simp] theorem State.mapPumps_startMark (f : Pump → Pump) : (s.mapPumps f).startMark = s.startMark := rfl
@[simp] theorem State.mapPumps_clock (f : Pump → Pump) : (s.mapPumps f).clock = s.clock := rfl
@[simp] theorem State.mapPumps_permits (f : Pump → Pump) : (s.mapPumps f).permits = s.permits := rfl
@[simp] theorem State.mapPumps_careMask (f : Pump → Pump) : (s.mapPumps f).careMask = s.careMask := rfl
@[simp] theorem State.mapPumps_context (f : Pump → Pump) : (s.mapPumps f).context = s.context := rfl
@[simp] theorem State.mapPumps_chargeOwed (f : Pump → Pump) : (s.mapPumps f).chargeOwed = s.chargeOwed := rfl
@[simp] theorem State.mapPumps_products (f : Pump → Pump) : (s.mapPumps f).products = s.products := rfl
@[simp] theorem State.mapPumps_staging (f : Pump → Pump) : (s.mapPumps f).staging = s.staging := rfl
@[simp] theorem State.mapPumps_orders (f : Pump → Pump) : (s.mapPumps f).orders = s.orders := rfl
@[simp] theorem State.mapPumps_load (f : Pump → Pump) : (s.mapPumps f).load = s.load := rfl
@[simp] theorem State.mapPumps_imageOwed (f : Pump → Pump) : (s.mapPumps f).imageOwed = s.imageOwed := rfl
@[simp] theorem State.mapPumps_arms (f : Pump → Pump) : (s.mapPumps f).arms = s.arms := rfl
@[simp] theorem State.mapPumps_meters (f : Pump → Pump) : (s.mapPumps f).meters = s.meters := rfl
@[simp] theorem State.mapPumps_probes (f : Pump → Pump) : (s.mapPumps f).probes = s.probes := rfl
@[simp] theorem State.mapPumps_scanner (f : Pump → Pump) : (s.mapPumps f).scanner = s.scanner := rfl
@[simp] theorem State.mapPumps_checkpointOwed (f : Pump → Pump) : (s.mapPumps f).checkpointOwed = s.checkpointOwed := rfl
@[simp] theorem State.mapPumps_injectors (f : Pump → Pump) : (s.mapPumps f).injectors = s.injectors := rfl
@[simp] theorem State.mapPumps_recipes (f : Pump → Pump) : (s.mapPumps f).recipes = s.recipes := rfl
@[simp] theorem State.mapPumps_safety (f : Pump → Pump) : (s.mapPumps f).safety = s.safety := rfl
@[simp] theorem State.mapPumps_cal (f : Pump → Pump) : (s.mapPumps f).cal = s.cal := rfl
@[simp] theorem State.mapPumps_sealState (f : Pump → Pump) : (s.mapPumps f).sealState = s.sealState := rfl
@[simp] theorem State.mapPumps_slots (f : Pump → Pump) : (s.mapPumps f).slots = s.slots := rfl
@[simp] theorem State.mapPumps_serial (f : Pump → Pump) : (s.mapPumps f).serial = s.serial := rfl
@[simp] theorem State.mapPumps_holdMinutes (f : Pump → Pump) : (s.mapPumps f).holdMinutes = s.holdMinutes := rfl
@[simp] theorem State.mapPumps_tpReader (f : Pump → Pump) : (s.mapPumps f).tpReader = s.tpReader := rfl
@[simp] theorem State.mapPumps_ppReader (f : Pump → Pump) : (s.mapPumps f).ppReader = s.ppReader := rfl
@[simp] theorem State.mapPumps_ports (f : Pump → Pump) : (s.mapPumps f).ports = s.ports := rfl
@[simp] theorem State.mapPumps_queue (f : Pump → Pump) : (s.mapPumps f).queue = s.queue := rfl
@[simp] theorem State.mapPumps_writing (f : Pump → Pump) : (s.mapPumps f).writing = s.writing := rfl
@[simp] theorem State.mapPumps_backlog (f : Pump → Pump) : (s.mapPumps f).backlog = s.backlog := rfl
@[simp] theorem State.mapPumps_startRecords (f : Pump → Pump) : (s.mapPumps f).startRecords = s.startRecords := rfl
@[simp] theorem State.mapPumps_saving (f : Pump → Pump) : (s.mapPumps f).saving = s.saving := rfl
@[simp] theorem State.mapPumps_audit (f : Pump → Pump) : (s.mapPumps f).audit = s.audit := rfl
@[simp] theorem State.mapPumps_pending (f : Pump → Pump) : (s.mapPumps f).pending = s.pending := rfl

/-! ### mapMeters -/

@[simp] theorem State.mapMeters_phase (f : Meter → Meter) : (s.mapMeters f).phase = s.phase := rfl
@[simp] theorem State.mapMeters_started (f : Meter → Meter) : (s.mapMeters f).started = s.started := rfl
@[simp] theorem State.mapMeters_pfail (f : Meter → Meter) : (s.mapMeters f).pfail = s.pfail := rfl
@[simp] theorem State.mapMeters_startMark (f : Meter → Meter) : (s.mapMeters f).startMark = s.startMark := rfl
@[simp] theorem State.mapMeters_clock (f : Meter → Meter) : (s.mapMeters f).clock = s.clock := rfl
@[simp] theorem State.mapMeters_permits (f : Meter → Meter) : (s.mapMeters f).permits = s.permits := rfl
@[simp] theorem State.mapMeters_careMask (f : Meter → Meter) : (s.mapMeters f).careMask = s.careMask := rfl
@[simp] theorem State.mapMeters_context (f : Meter → Meter) : (s.mapMeters f).context = s.context := rfl
@[simp] theorem State.mapMeters_chargeOwed (f : Meter → Meter) : (s.mapMeters f).chargeOwed = s.chargeOwed := rfl
@[simp] theorem State.mapMeters_products (f : Meter → Meter) : (s.mapMeters f).products = s.products := rfl
@[simp] theorem State.mapMeters_staging (f : Meter → Meter) : (s.mapMeters f).staging = s.staging := rfl
@[simp] theorem State.mapMeters_orders (f : Meter → Meter) : (s.mapMeters f).orders = s.orders := rfl
@[simp] theorem State.mapMeters_load (f : Meter → Meter) : (s.mapMeters f).load = s.load := rfl
@[simp] theorem State.mapMeters_imageOwed (f : Meter → Meter) : (s.mapMeters f).imageOwed = s.imageOwed := rfl
@[simp] theorem State.mapMeters_arms (f : Meter → Meter) : (s.mapMeters f).arms = s.arms := rfl
@[simp] theorem State.mapMeters_pumps (f : Meter → Meter) : (s.mapMeters f).pumps = s.pumps := rfl
@[simp] theorem State.mapMeters_probes (f : Meter → Meter) : (s.mapMeters f).probes = s.probes := rfl
@[simp] theorem State.mapMeters_scanner (f : Meter → Meter) : (s.mapMeters f).scanner = s.scanner := rfl
@[simp] theorem State.mapMeters_checkpointOwed (f : Meter → Meter) : (s.mapMeters f).checkpointOwed = s.checkpointOwed := rfl
@[simp] theorem State.mapMeters_injectors (f : Meter → Meter) : (s.mapMeters f).injectors = s.injectors := rfl
@[simp] theorem State.mapMeters_recipes (f : Meter → Meter) : (s.mapMeters f).recipes = s.recipes := rfl
@[simp] theorem State.mapMeters_safety (f : Meter → Meter) : (s.mapMeters f).safety = s.safety := rfl
@[simp] theorem State.mapMeters_cal (f : Meter → Meter) : (s.mapMeters f).cal = s.cal := rfl
@[simp] theorem State.mapMeters_sealState (f : Meter → Meter) : (s.mapMeters f).sealState = s.sealState := rfl
@[simp] theorem State.mapMeters_slots (f : Meter → Meter) : (s.mapMeters f).slots = s.slots := rfl
@[simp] theorem State.mapMeters_serial (f : Meter → Meter) : (s.mapMeters f).serial = s.serial := rfl
@[simp] theorem State.mapMeters_holdMinutes (f : Meter → Meter) : (s.mapMeters f).holdMinutes = s.holdMinutes := rfl
@[simp] theorem State.mapMeters_tpReader (f : Meter → Meter) : (s.mapMeters f).tpReader = s.tpReader := rfl
@[simp] theorem State.mapMeters_ppReader (f : Meter → Meter) : (s.mapMeters f).ppReader = s.ppReader := rfl
@[simp] theorem State.mapMeters_ports (f : Meter → Meter) : (s.mapMeters f).ports = s.ports := rfl
@[simp] theorem State.mapMeters_queue (f : Meter → Meter) : (s.mapMeters f).queue = s.queue := rfl
@[simp] theorem State.mapMeters_writing (f : Meter → Meter) : (s.mapMeters f).writing = s.writing := rfl
@[simp] theorem State.mapMeters_backlog (f : Meter → Meter) : (s.mapMeters f).backlog = s.backlog := rfl
@[simp] theorem State.mapMeters_startRecords (f : Meter → Meter) : (s.mapMeters f).startRecords = s.startRecords := rfl
@[simp] theorem State.mapMeters_saving (f : Meter → Meter) : (s.mapMeters f).saving = s.saving := rfl
@[simp] theorem State.mapMeters_audit (f : Meter → Meter) : (s.mapMeters f).audit = s.audit := rfl
@[simp] theorem State.mapMeters_pending (f : Meter → Meter) : (s.mapMeters f).pending = s.pending := rfl

/-! ### mapSlots -/

@[simp] theorem State.mapSlots_phase (f : Slot → Slot) : (s.mapSlots f).phase = s.phase := rfl
@[simp] theorem State.mapSlots_started (f : Slot → Slot) : (s.mapSlots f).started = s.started := rfl
@[simp] theorem State.mapSlots_pfail (f : Slot → Slot) : (s.mapSlots f).pfail = s.pfail := rfl
@[simp] theorem State.mapSlots_startMark (f : Slot → Slot) : (s.mapSlots f).startMark = s.startMark := rfl
@[simp] theorem State.mapSlots_clock (f : Slot → Slot) : (s.mapSlots f).clock = s.clock := rfl
@[simp] theorem State.mapSlots_permits (f : Slot → Slot) : (s.mapSlots f).permits = s.permits := rfl
@[simp] theorem State.mapSlots_careMask (f : Slot → Slot) : (s.mapSlots f).careMask = s.careMask := rfl
@[simp] theorem State.mapSlots_context (f : Slot → Slot) : (s.mapSlots f).context = s.context := rfl
@[simp] theorem State.mapSlots_chargeOwed (f : Slot → Slot) : (s.mapSlots f).chargeOwed = s.chargeOwed := rfl
@[simp] theorem State.mapSlots_products (f : Slot → Slot) : (s.mapSlots f).products = s.products := rfl
@[simp] theorem State.mapSlots_staging (f : Slot → Slot) : (s.mapSlots f).staging = s.staging := rfl
@[simp] theorem State.mapSlots_orders (f : Slot → Slot) : (s.mapSlots f).orders = s.orders := rfl
@[simp] theorem State.mapSlots_load (f : Slot → Slot) : (s.mapSlots f).load = s.load := rfl
@[simp] theorem State.mapSlots_imageOwed (f : Slot → Slot) : (s.mapSlots f).imageOwed = s.imageOwed := rfl
@[simp] theorem State.mapSlots_arms (f : Slot → Slot) : (s.mapSlots f).arms = s.arms := rfl
@[simp] theorem State.mapSlots_pumps (f : Slot → Slot) : (s.mapSlots f).pumps = s.pumps := rfl
@[simp] theorem State.mapSlots_meters (f : Slot → Slot) : (s.mapSlots f).meters = s.meters := rfl
@[simp] theorem State.mapSlots_probes (f : Slot → Slot) : (s.mapSlots f).probes = s.probes := rfl
@[simp] theorem State.mapSlots_scanner (f : Slot → Slot) : (s.mapSlots f).scanner = s.scanner := rfl
@[simp] theorem State.mapSlots_checkpointOwed (f : Slot → Slot) : (s.mapSlots f).checkpointOwed = s.checkpointOwed := rfl
@[simp] theorem State.mapSlots_injectors (f : Slot → Slot) : (s.mapSlots f).injectors = s.injectors := rfl
@[simp] theorem State.mapSlots_recipes (f : Slot → Slot) : (s.mapSlots f).recipes = s.recipes := rfl
@[simp] theorem State.mapSlots_safety (f : Slot → Slot) : (s.mapSlots f).safety = s.safety := rfl
@[simp] theorem State.mapSlots_cal (f : Slot → Slot) : (s.mapSlots f).cal = s.cal := rfl
@[simp] theorem State.mapSlots_sealState (f : Slot → Slot) : (s.mapSlots f).sealState = s.sealState := rfl
@[simp] theorem State.mapSlots_serial (f : Slot → Slot) : (s.mapSlots f).serial = s.serial := rfl
@[simp] theorem State.mapSlots_holdMinutes (f : Slot → Slot) : (s.mapSlots f).holdMinutes = s.holdMinutes := rfl
@[simp] theorem State.mapSlots_tpReader (f : Slot → Slot) : (s.mapSlots f).tpReader = s.tpReader := rfl
@[simp] theorem State.mapSlots_ppReader (f : Slot → Slot) : (s.mapSlots f).ppReader = s.ppReader := rfl
@[simp] theorem State.mapSlots_ports (f : Slot → Slot) : (s.mapSlots f).ports = s.ports := rfl
@[simp] theorem State.mapSlots_queue (f : Slot → Slot) : (s.mapSlots f).queue = s.queue := rfl
@[simp] theorem State.mapSlots_writing (f : Slot → Slot) : (s.mapSlots f).writing = s.writing := rfl
@[simp] theorem State.mapSlots_backlog (f : Slot → Slot) : (s.mapSlots f).backlog = s.backlog := rfl
@[simp] theorem State.mapSlots_startRecords (f : Slot → Slot) : (s.mapSlots f).startRecords = s.startRecords := rfl
@[simp] theorem State.mapSlots_saving (f : Slot → Slot) : (s.mapSlots f).saving = s.saving := rfl
@[simp] theorem State.mapSlots_audit (f : Slot → Slot) : (s.mapSlots f).audit = s.audit := rfl
@[simp] theorem State.mapSlots_pending (f : Slot → Slot) : (s.mapSlots f).pending = s.pending := rfl

/-! ### mapInjectors -/

@[simp] theorem State.mapInjectors_phase (f : Injector → Injector) : (s.mapInjectors f).phase = s.phase := rfl
@[simp] theorem State.mapInjectors_started (f : Injector → Injector) : (s.mapInjectors f).started = s.started := rfl
@[simp] theorem State.mapInjectors_pfail (f : Injector → Injector) : (s.mapInjectors f).pfail = s.pfail := rfl
@[simp] theorem State.mapInjectors_startMark (f : Injector → Injector) : (s.mapInjectors f).startMark = s.startMark := rfl
@[simp] theorem State.mapInjectors_clock (f : Injector → Injector) : (s.mapInjectors f).clock = s.clock := rfl
@[simp] theorem State.mapInjectors_permits (f : Injector → Injector) : (s.mapInjectors f).permits = s.permits := rfl
@[simp] theorem State.mapInjectors_careMask (f : Injector → Injector) : (s.mapInjectors f).careMask = s.careMask := rfl
@[simp] theorem State.mapInjectors_context (f : Injector → Injector) : (s.mapInjectors f).context = s.context := rfl
@[simp] theorem State.mapInjectors_chargeOwed (f : Injector → Injector) : (s.mapInjectors f).chargeOwed = s.chargeOwed := rfl
@[simp] theorem State.mapInjectors_products (f : Injector → Injector) : (s.mapInjectors f).products = s.products := rfl
@[simp] theorem State.mapInjectors_staging (f : Injector → Injector) : (s.mapInjectors f).staging = s.staging := rfl
@[simp] theorem State.mapInjectors_orders (f : Injector → Injector) : (s.mapInjectors f).orders = s.orders := rfl
@[simp] theorem State.mapInjectors_load (f : Injector → Injector) : (s.mapInjectors f).load = s.load := rfl
@[simp] theorem State.mapInjectors_imageOwed (f : Injector → Injector) : (s.mapInjectors f).imageOwed = s.imageOwed := rfl
@[simp] theorem State.mapInjectors_arms (f : Injector → Injector) : (s.mapInjectors f).arms = s.arms := rfl
@[simp] theorem State.mapInjectors_pumps (f : Injector → Injector) : (s.mapInjectors f).pumps = s.pumps := rfl
@[simp] theorem State.mapInjectors_meters (f : Injector → Injector) : (s.mapInjectors f).meters = s.meters := rfl
@[simp] theorem State.mapInjectors_probes (f : Injector → Injector) : (s.mapInjectors f).probes = s.probes := rfl
@[simp] theorem State.mapInjectors_scanner (f : Injector → Injector) : (s.mapInjectors f).scanner = s.scanner := rfl
@[simp] theorem State.mapInjectors_checkpointOwed (f : Injector → Injector) : (s.mapInjectors f).checkpointOwed = s.checkpointOwed := rfl
@[simp] theorem State.mapInjectors_recipes (f : Injector → Injector) : (s.mapInjectors f).recipes = s.recipes := rfl
@[simp] theorem State.mapInjectors_safety (f : Injector → Injector) : (s.mapInjectors f).safety = s.safety := rfl
@[simp] theorem State.mapInjectors_cal (f : Injector → Injector) : (s.mapInjectors f).cal = s.cal := rfl
@[simp] theorem State.mapInjectors_sealState (f : Injector → Injector) : (s.mapInjectors f).sealState = s.sealState := rfl
@[simp] theorem State.mapInjectors_slots (f : Injector → Injector) : (s.mapInjectors f).slots = s.slots := rfl
@[simp] theorem State.mapInjectors_serial (f : Injector → Injector) : (s.mapInjectors f).serial = s.serial := rfl
@[simp] theorem State.mapInjectors_holdMinutes (f : Injector → Injector) : (s.mapInjectors f).holdMinutes = s.holdMinutes := rfl
@[simp] theorem State.mapInjectors_tpReader (f : Injector → Injector) : (s.mapInjectors f).tpReader = s.tpReader := rfl
@[simp] theorem State.mapInjectors_ppReader (f : Injector → Injector) : (s.mapInjectors f).ppReader = s.ppReader := rfl
@[simp] theorem State.mapInjectors_ports (f : Injector → Injector) : (s.mapInjectors f).ports = s.ports := rfl
@[simp] theorem State.mapInjectors_queue (f : Injector → Injector) : (s.mapInjectors f).queue = s.queue := rfl
@[simp] theorem State.mapInjectors_writing (f : Injector → Injector) : (s.mapInjectors f).writing = s.writing := rfl
@[simp] theorem State.mapInjectors_backlog (f : Injector → Injector) : (s.mapInjectors f).backlog = s.backlog := rfl
@[simp] theorem State.mapInjectors_startRecords (f : Injector → Injector) : (s.mapInjectors f).startRecords = s.startRecords := rfl
@[simp] theorem State.mapInjectors_saving (f : Injector → Injector) : (s.mapInjectors f).saving = s.saving := rfl
@[simp] theorem State.mapInjectors_audit (f : Injector → Injector) : (s.mapInjectors f).audit = s.audit := rfl
@[simp] theorem State.mapInjectors_pending (f : Injector → Injector) : (s.mapInjectors f).pending = s.pending := rfl

end Sys2Proof.Machine
end

