-- ==== Sys2Proof/Laws/Frames.lean ====
section
/-! SUPPORT. What the shared operations leave alone: one lemma for each, that the part of the state set apart in
Safety.lean is unchanged. -/

namespace Sys2Proof.Machine

variable (s : State)

theorem State.foldl_apart {α : Type} (f : State → α → State) (h : ∀ s x, (f s x).apart = s.apart) (l : List α) (s : State) :
    (l.foldl f s).apart = s.apart := by
  induction l generalizing s with
  | nil => rfl
  | cons x l ih => exact (ih (f s x)).trans (h s x)

@[simp] theorem State.post_apart (c : EventCode) (k : ObjectKind) (n : Nat) (v : BitVec 32) :
    (s.post c k n v).apart = s.apart := rfl
@[simp] theorem State.modifyPort_apart (p : Port) (f : PortState → PortState) : (s.modifyPort p f).apart = s.apart := rfl
@[simp] theorem State.respond_apart (p : Port) (g : Byte) (r : Reply) : (s.respond p g r).apart = s.apart := rfl
@[simp] theorem State.enqueue_apart (r : Record) : (s.enqueue r).apart = s.apart := rfl
@[simp] theorem State.modifyArm_apart (a : Fin 4) (f : Arm → Arm) : (s.modifyArm a f).apart = s.apart := rfl
@[simp] theorem State.modifyArms_apart (k : ArmMask) (f : Arm → Arm) : (s.modifyArms k f).apart = s.apart := rfl
@[simp] theorem State.mapArms_apart (f : Arm → Arm) : (s.mapArms f).apart = s.apart := rfl
@[simp] theorem State.modifyPump_apart (p : Fin 4) (f : Pump → Pump) : (s.modifyPump p f).apart = s.apart := rfl
@[simp] theorem State.mapPumps_apart (f : Pump → Pump) : (s.mapPumps f).apart = s.apart := rfl
@[simp] theorem State.modifyInjector_apart (j : Fin 8) (f : Injector → Injector) :
    (s.modifyInjector j f).apart = s.apart := rfl
@[simp] theorem State.modifySlot_apart (i : Fin 8) (f : Slot → Slot) : (s.modifySlot i f).apart = s.apart := rfl
@[simp] theorem State.mapSlots_apart (f : Slot → Slot) : (s.mapSlots f).apart = s.apart := rfl
@[simp] theorem State.modifyLoad_apart (f : LoadRecord → LoadRecord) : (s.modifyLoad f).apart = s.apart := rfl
@[simp] theorem State.modifyComp_apart (n : Nat) (f : CompRecord → CompRecord) : (s.modifyComp n f).apart = s.apart := rfl

@[simp] theorem State.modifyResult_apart (b : Binding) (f : ComponentResult → ComponentResult) :
    (s.modifyResult b f).apart = s.apart := rfl

@[simp] theorem State.mapWaiting_apart (f : List Record → List Record) : (s.mapWaiting f).apart = s.apart := by
  unfold State.mapWaiting; split <;> rfl

@[simp] theorem State.refreshImages_apart (l : LoadRecord) : (s.refreshImages l).apart = s.apart :=
  State.mapWaiting_apart s _

@[simp] theorem State.queueImage_apart (l : LoadRecord) : (s.queueImage l).apart = s.apart := by
  unfold State.queueImage; split <;> rfl

@[simp] theorem State.imagePoint_apart : s.imagePoint.apart = s.apart := by
  unfold State.imagePoint; (repeat' split) <;> simp

@[simp] theorem State.imageHandOff_apart : s.imageHandOff.apart = s.apart := by
  unfold State.imageHandOff; (repeat' split) <;> simp

@[simp] theorem State.callCheckpoint_apart : s.callCheckpoint.apart = s.apart := by
  unfold State.callCheckpoint; (repeat' split) <;> first | rfl | simp

@[simp] theorem State.queueLearned_apart (a : Fin 4) : (s.queueLearned a).apart = s.apart := by
  unfold State.queueLearned; (repeat' split) <;> simp

@[simp] theorem State.evalLoad_apart : s.evalLoad.apart = s.apart := by
  unfold State.evalLoad; (repeat' split) <;> rfl

@[simp] theorem State.evalComps_apart : s.evalComps.apart = s.apart := by unfold State.evalComps; split <;> simp

@[simp] theorem State.compChanged_apart (n : Nat) : (s.compChanged n).apart = s.apart := by
  unfold State.compChanged; split <;> simp

@[simp] theorem State.modifyBound_apart (j : Fin 8) (f : ComponentResult → ComponentResult) :
    (s.modifyBound j f).apart = s.apart := by
  unfold State.modifyBound; split <;> simp

@[simp] theorem State.discardOwed_apart (j : Fin 8) : (s.discardOwed j).apart = s.apart := by simp [State.discardOwed]

@[simp] theorem State.cutStroke_apart (j : Fin 8) : (s.cutStroke j).apart = s.apart := by
  unfold State.cutStroke; split <;> simp

@[simp] theorem State.cutStrokes_apart : s.cutStrokes.apart = s.apart := State.foldl_apart _ (by simp) _ _

@[simp] theorem State.flowStops_apart (n : Nat) : (s.flowStops n).apart = s.apart :=
  State.foldl_apart _ (fun s j => by split <;> simp) _ _

@[simp] theorem State.releaseInjector_apart (j : Fin 8) : (s.releaseInjector j).apart = s.apart := by
  simp [State.releaseInjector]

@[simp] theorem State.releaseInjectors_apart (n : Nat) : (s.releaseInjectors n).apart = s.apart :=
  State.foldl_apart _ (fun s j => by split <;> simp) _ _

@[simp] theorem State.compDone_apart (n : Nat) (f : CompRecord → CompRecord) : (s.compDone n f).apart = s.apart := by
  simp [State.compDone]

@[simp] theorem State.driveClose_apart (n : Nat) (r : CloseReason) : (s.driveClose n r).apart = s.apart := by
  unfold State.driveClose; (repeat' split) <;> simp

@[simp] theorem State.driveAll_apart (r : CloseReason) : (s.driveAll r).apart = s.apart :=
  State.foldl_apart _ (by simp) _ _

@[simp] theorem State.settleExpired_apart (a : Fin 4) : (s.settleExpired a).apart = s.apart := by
  unfold State.settleExpired; split
  · dsimp only; split <;> simp
  · rfl

@[simp] theorem State.startSettle_apart (a : Fin 4) (k : Nat) : (s.startSettle a k).apart = s.apart := by
  unfold State.startSettle; split <;> simp

@[simp] theorem State.startSettles_apart (p : Fin 4) : (s.startSettles p).apart = s.apart :=
  State.foldl_apart _ (fun s a => by split <;> simp) _ _

@[simp] theorem State.pumpRunning_apart (p : Fin 4) : (s.pumpRunning p).apart = s.apart := by simp [State.pumpRunning]

@[simp] theorem State.startPump_apart (p : Fin 4) : (s.startPump p).apart = s.apart := by
  unfold State.startPump; dsimp only; split <;> simp

@[simp] theorem State.restartPumps_apart : s.restartPumps.apart = s.apart :=
  State.foldl_apart _ (fun s p => by split <;> simp) _ _

@[simp] theorem State.demandRises_apart (p : Fin 4) : (s.demandRises p).apart = s.apart := by
  unfold State.demandRises; (repeat' split) <;> simp

@[simp] theorem State.demandFalls_apart (p : Fin 4) : (s.demandFalls p).apart = s.apart := by
  unfold State.demandFalls; split <;> simp

@[simp] theorem State.recountPump_apart (p : Fin 4) : (s.recountPump p).apart = s.apart := by
  unfold State.recountPump; dsimp only; (repeat' split) <;> simp

@[simp] theorem State.recount_apart : s.recount.apart = s.apart := State.foldl_apart _ (by simp) _ _

@[simp] theorem State.failPump_apart (p : Fin 4) (k : FailKind) : (s.failPump p k).apart = s.apart := by
  unfold State.failPump; dsimp only
  refine (State.foldl_apart _ (fun s a => ?_) _ _).trans (by simp)
  split
  · split <;> simp
  · rfl

@[simp] theorem State.armFault_apart (a : Fin 4) (c : FaultCause) : (s.armFault a c).apart = s.apart := by
  unfold State.armFault; split
  · rfl
  · split
    · rfl
    · dsimp only; split <;> simp

@[simp] theorem State.postCause_apart (e : EventCode) (c : Cause) : (s.postCause e c).apart = s.apart := by
  unfold State.postCause; split <;> simp

@[simp] theorem State.addCause_apart (c : Cause) : (s.addCause c).apart = s.apart := by
  unfold State.addCause; (repeat' split) <;> simp

@[simp] theorem State.removeCause_apart (c : Cause) : (s.removeCause c).apart = s.apart := by
  unfold State.removeCause; (repeat' split) <;> simp

@[simp] theorem State.judgePermissive_apart : s.judgePermissive.apart = s.apart := by
  unfold State.judgePermissive; split <;> simp

@[simp] theorem State.queueCharge_apart (r : Record) : (s.queueCharge r).apart = s.apart := by
  unfold State.queueCharge; split <;> rfl

@[simp] theorem State.chargePermit_apart (l : LoadRecord) : (s.chargePermit l).apart = s.apart := by
  unfold State.chargePermit; split
  · rfl
  · split
    · rw [State.queueCharge_apart]; rfl
    · rfl

@[simp] theorem State.queueCommit_apart (i : Fin 8) (r : Record) : (s.queueCommit i r).apart = s.apart := rfl

@[simp] theorem State.tryCommit_apart : s.tryCommit.apart = s.apart := by
  unfold State.tryCommit; (repeat' split) <;> simp

@[simp] theorem State.handOff_apart : s.handOff.apart = s.apart := by
  unfold State.handOff; split
  · rfl
  · simp only [State.tryCommit_apart, State.modifySlot_apart, State.chargePermit_apart, State.imageHandOff_apart]; rfl

@[simp] theorem State.enterClosing_apart : s.enterClosing.apart = s.apart := by
  unfold State.enterClosing; dsimp only
  exact (State.removeCause_apart _ _).trans (by simp)

@[simp] theorem State.closeIfDone_apart : s.closeIfDone.apart = s.apart := by
  unfold State.closeIfDone; split
  · rfl
  · split
    · dsimp only; (repeat' split) <;> simp
    · rfl

@[simp] theorem State.compHalted_apart (n : Nat) (c : HaltCause) (f : CompRecord → CompRecord) :
    (s.compHalted n c f).apart = s.apart := by
  unfold State.compHalted; dsimp only; (repeat' split) <;> simp

@[simp] theorem State.releaseLoad_apart : s.releaseLoad.apart = s.apart := rfl

@[simp] theorem State.finishIdle_apart : s.finishIdle.apart = s.apart :=
  State.foldl_apart _ (fun s n => by (repeat' split) <;> simp) _ _

@[simp] theorem State.bindFrom_apart (n : Nat) (a : Fin 4) (r p : Nat) (cs : List Component) :
    (State.bindFrom n a r p cs s).apart = s.apart := by
  induction cs generalizing s p with
  | nil => rfl
  | cons c cs ih => simp only [State.bindFrom]; rw [ih]; split <;> simp

@[simp] theorem State.armTakes_apart (a : Fin 4) (n : Nat) (p : Option (Fin 4)) : (s.armTakes a n p).apart = s.apart := by
  unfold State.armTakes; dsimp only; (repeat' split) <;> simp

@[simp] theorem State.startComp_apart (c : CompRecord) : (s.startComp c).apart = s.apart := by
  unfold State.startComp; dsimp only; rw [State.armTakes_apart, State.compChanged_apart, State.modifyComp_apart]
  split <;> simp

@[simp] theorem State.endClose_apart (a : Fin 4) (c : CompRecord) : (s.endClose a c).apart = s.apart := by
  unfold State.endClose; split <;> simp

@[simp] theorem State.learn_apart (a : Fin 4) (c : CompRecord) : (s.learn a c).apart = s.apart := by
  unfold State.learn; split <;> simp

@[simp] theorem State.noFlowConfirmed_apart (a : Fin 4) : (s.noFlowConfirmed a).apart = s.apart := by
  unfold State.noFlowConfirmed; split <;> simp

@[simp] theorem State.noFlowCount_apart (a : Fin 4) (k : Nat) : (s.noFlowCount a k).apart = s.apart := by
  unfold State.noFlowCount; dsimp only; (repeat' split) <;> simp

@[simp] theorem State.closeExpired_apart (a : Fin 4) (n : Nat) : (s.closeExpired a n).apart = s.apart := by
  simp [State.closeExpired]

@[simp] theorem State.presetClose_apart (a : Fin 4) (c : CompRecord) (g : GateFigures) :
    (s.presetClose a c g).apart = s.apart := by simp [State.presetClose]

@[simp] theorem State.stageArm_apart (a : Fin 4) (n : Nat) (st : ArmState) (v : Valve) (h : Bool) (cs : CompState) :
    (s.stageArm a n st v h cs).apart = s.apart := by simp [State.stageArm]

@[simp] theorem State.leaveLow_apart (a : Fin 4) (c : CompRecord) : (s.leaveLow a c).apart = s.apart := by
  unfold State.leaveLow; dsimp only; (repeat' split) <;> simp

@[simp] theorem State.compare_apart (a : Fin 4) (c : CompRecord) (g : GateFigures) : (s.compare a c g).apart = s.apart := by
  unfold State.compare; (repeat' split) <;> simp

@[simp] theorem State.armGate_apart (a : Fin 4) (n k : Nat) (g : GateFigures) : (s.armGate a n k g).apart = s.apart := by
  unfold State.armGate; (repeat' split) <;> simp

@[simp] theorem State.strayCheck_apart (a : Fin 4) : (s.strayCheck a).apart = s.apart := by
  unfold State.strayCheck; split <;> simp

@[simp] theorem State.setEsd_apart : s.setEsd.apart = s.apart := by
  have h : (({ s with safety := { s.safety with esdLatch := true } } : State).shutDown.addCause .esd).apart = s.apart := by
    simp [State.shutDown]; rfl
  unfold State.setEsd; dsimp only; split <;> simp [h]

end Sys2Proof.Machine
end

