-- ==== Sys2Proof/WellFormed.lean ====
section
/-! DEFINITION. When a command is one that a frame could carry: every number fits its field (a byte, or an unsigned
integer of 2, 3 or 4 bytes), a list of parts fits one payload (R166: at most 60 bytes), a calibration kind called
`other` is none of the four, and the payload in the window is the request's own. Where section 11.5 prints the layout, or
the request carries no argument, the payload must read as the request; elsewhere it must have the length that the widths
of `fits` add up to, and how its bytes spell the arguments is free (assumption log 4). Those widths are those of section
11.5 for PERMIT-PUT, ORDER-LINE, ORDER-LIST and CAL-WRITE; for every other request no layout is printed and they are the
model's choice, the smallest that hold the field's range (assumption log 29). Ranges stricter than the field are NOT
checked here: a value out of range is refused with BAD_ARGUMENT by the owner of the request, which is a meaning. -/

namespace Sys2Proof

/-- An unsigned integer of `n` bytes (R188). -/
def fitsBytes (n v : Nat) : Bool := v < 256 ^ n

/-- A signed integer of two bytes (R188). -/
def fitsSigned16 (v : Int) : Bool := -32768 ≤ v && v ≤ 32767

/-- An optional unsigned integer of `n` bytes (R188). -/
def fitsOption (n : Nat) : Option Nat → Bool
  | none => true
  | some v => fitsBytes n v

def ProductArg.wellFormed (e : ProductArg) : Bool :=
  e.shortName.length ≤ 8 && fitsBytes 2 e.alpha && fitsBytes 1 e.pump

def LineArg.wellFormed (l : LineArg) : Bool :=
  fitsBytes 1 l.compartment && fitsBytes 1 l.arm && fitsBytes 1 l.product && fitsBytes 2 l.preset
    && fitsBytes 1 l.basis && fitsBytes 1 l.recipe

def PermitArg.wellFormed (e : PermitArg) : Bool :=
  fitsBytes 4 e.card && fitsOption 2 e.carrier && fitsBytes 2 e.expiry && fitsBytes 1 e.loads && fitsBytes 1 e.state

def ArmArg.wellFormed (c : ArmArg) : Bool :=
  fitsBytes 2 c.lowStart && fitsBytes 2 c.slowdown && fitsBytes 2 c.maxAnt && fitsBytes 2 c.ant
    && fitsBytes 1 c.closeTimeout && fitsBytes 2 c.strayLimit && fitsBytes 2 c.progress

def PumpArg.wellFormed (c : PumpArg) : Bool :=
  fitsBytes 1 c.startTimeout && fitsBytes 1 c.settle && fitsBytes 1 c.runOn

def ComponentArg.wellFormed (c : ComponentArg) : Bool :=
  fitsBytes 1 c.additive && fitsBytes 2 c.ratio && fitsBytes 1 c.tolerance

def CalValueArg.wellFormed : CalValueArg → Bool
  | .meterConstant k => fitsBytes 4 k
  | .factorCurve count points =>
    fitsBytes 1 count && points.length ≤ 11 && points.all fun p => fitsBytes 2 p.1 && fitsBytes 3 p.2
  | .probeOffset offset => fitsSigned16 offset
  | .strokeVolume s => fitsBytes 4 s
  | .other kind => 4 ≤ kind && fitsBytes 1 kind

def TotalsObject.wellFormed : TotalsObject → Bool
  | .meter n => fitsBytes 1 n
  | .injector n => fitsBytes 1 n
  | .other => true

/-- How many index bytes a section of STATUS-READ carries (R178, R179): COMPARTMENT, ARM and INJECTOR one, ADDITIVE a compartment
number and a position, and every other section none. -/
def sectionIndices : Nat → Nat
  | 1 | 3 | 5 => 1
  | 2 => 2
  | _ => 0

/-- The value of the `k`-th index byte of a request that carries `n` of them; one that is not carried stands as 0. -/
def fitsIndex (n k v : Nat) : Bool := if k ≤ n then fitsBytes 1 v else v == 0

/-- The arguments of a command fit their fields. Event rows carry indices that are in range by their type, so every event
row fits. -/
def Instr.fits : Instr → Bool
  | .nop _ => true
  | .statusRead _ sect index position =>
    fitsBytes 1 sect && fitsIndex (sectionIndices sect) 1 index && fitsIndex (sectionIndices sect) 2 position
  | .totalsRead _ object => object.wellFormed
  | .eventRead _ => true
  | .productPut _ code entry => fitsBytes 1 code && entry.wellFormed
  | .productRead _ code => fitsBytes 1 code
  | .orderBegin _ number binding carrier count =>
    fitsBytes 3 number && fitsOption 4 binding && fitsOption 2 carrier && fitsBytes 1 count
  | .orderLine _ index line => fitsBytes 1 index && line.wellFormed
  | .orderCancel _ number => fitsBytes 3 number
  | .orderAmend _ number compartment preset => fitsBytes 3 number && fitsBytes 1 compartment && fitsBytes 2 preset
  | .compartmentStart _ compartment => fitsBytes 1 compartment
  | .compartmentStop _ compartment => fitsBytes 1 compartment
  | .loadFinish _ => true
  | .loadResume _ => true
  | .loadAbort _ => true
  | .timeSet _ day second => fitsBytes 2 day && fitsBytes 3 second
  | .permitPut _ entry => entry.wellFormed
  | .permitDelete _ card => fitsBytes 4 card
  | .permitBlock _ card => fitsBytes 4 card
  | .permitUnblock _ card => fitsBytes 4 card
  | .permitRead _ card => fitsBytes 4 card
  | .careMaskSet _ _ => true
  | .cardPresent _ card => fitsBytes 4 card
  | .cardWithdraw _ => true
  | .orderList _ position => fitsBytes 1 position
  | .orderSelect _ number => fitsBytes 3 number
  | .armConfig _ arm config => fitsBytes 1 arm && config.wellFormed
  | .armClear _ _ => true
  | .armBlock _ _ => true
  | .armUnblock _ _ => true
  | .pumpConfig _ pump config => fitsBytes 1 pump && config.wellFormed
  | .pumpReset _ pump => fitsBytes 1 pump
  | .injectorAssign _ injector arm additive timeout =>
    fitsBytes 1 injector && fitsBytes 1 arm && fitsBytes 1 additive && fitsBytes 2 timeout
  | .injectorReset _ injector => fitsBytes 1 injector
  | .recipePut _ number _ components =>
    fitsBytes 1 number && components.length ≤ 11 && components.all ComponentArg.wellFormed
  | .recipeRead _ number => fitsBytes 1 number
  | .deadmanConfig _ period warning => fitsBytes 2 period && fitsBytes 1 warning
  | .deadman _ kind => fitsBytes 1 kind
  | .permissiveReport _ _ _ _ => true
  | .stopAll _ _ => true
  | .resume _ => true
  | .esdReset _ => true
  | .meterErrors _ meter => fitsBytes 1 meter
  | .meterClearDebt _ meter => fitsBytes 1 meter
  | .calWrite _ index value => fitsBytes 1 index && value.wellFormed
  | .calRead _ kind index => fitsBytes 1 kind && fitsBytes 1 index
  | .noteConfig _ minutes => fitsBytes 1 minutes
  | .noteRelease _ serial => fitsBytes 4 serial
  | .notePrinted _ serial => fitsBytes 4 serial
  | .noteOpen _ serial first last direction =>
    fitsBytes 4 serial && fitsBytes 1 first && fitsBytes 1 last && fitsBytes 1 direction
  | .noteRead _ => true
  | .selectWindow _ _ => true
  | .quadratureStep _ _ => true
  | .integrityError _ => true
  | .gateExpiry _ => true
  | .pollSlot _ => true
  | .settleTimerExpiry _ => true
  | .closeTimerExpiry _ => true
  | .pumpFeedback _ _ => true
  | .startTimerExpiry _ => true
  | .runOnTimerExpiry _ => true
  | .injectorFeedback _ _ => true
  | .feedbackTimerExpiry _ => true
  | .esdInputChange _ => true
  | .validityTimerExpiry => true
  | .firstExpiry => true
  | .secondExpiry => true
  | .contextTimerExpiry => true
  | .holdTimerExpiry _ => true
  | .sealInputChange _ => true
  | .bayClockSecond => true
  | .recordWriteComplete => true
  | .saveWriteComplete => true
  | .pfailAssertion => true
  | .resetAssertion _ => true
  | .startUp _ => true
  | .start => true
  | .lossOfPower _ => true

/-- The bytes that an optional unsigned integer of `n` bytes takes: a presence byte and the integer (R188). -/
def optionBytes (n : Nat) : Nat := n + 1

/-- The length of a request's payload by the field widths of `fits` (assumption log 29); a request that carries no argument
has none. DESIGN CHOICE: the binding ANY of ORDER-BEGIN, which R3 does not call optional and R188 gives no encoding, is
carried as an absent optional field, so the binding takes a presence byte and 4 bytes (assumption log 29). -/
def Instr.payloadLength : Instr → Nat
  | .statusRead _ sect _ _ => 1 + sectionIndices sect
  | .productRead _ _ | .compartmentStart _ _ | .compartmentStop _ _ | .orderList _ _ | .armClear _ _ | .armBlock _ _
  | .armUnblock _ _ | .pumpReset _ _ | .injectorReset _ _ | .recipeRead _ _ | .deadman _ _ | .stopAll _ _
  | .meterErrors _ _ | .meterClearDebt _ _ | .noteConfig _ _ => 1
  | .totalsRead _ _ | .careMaskSet _ _ | .calRead _ _ _ => 2
  | .orderCancel _ _ | .orderSelect _ _ | .permissiveReport _ _ _ _ | .deadmanConfig _ _ _ => 3
  | .permitDelete _ _ | .permitBlock _ _ | .permitUnblock _ _ | .permitRead _ _ | .cardPresent _ _ | .noteRelease _ _
  | .notePrinted _ _ | .pumpConfig _ _ _ => 4
  | .timeSet _ _ _ | .injectorAssign _ _ _ _ _ => 5
  | .orderAmend _ _ _ _ => 6
  | .noteOpen _ _ _ _ _ => 7
  | .orderLine _ _ _ => 8
  | .orderBegin _ _ _ _ _ => 4 + optionBytes 4 + optionBytes 2
  | .permitPut _ _ => 13
  | .armConfig _ _ _ => 14
  | .productPut _ _ _ => 15
  | .recipePut _ _ _ components => 3 + 5 * components.length
  | .calWrite _ _ (.meterConstant _) | .calWrite _ _ (.strokeVolume _) => 6
  | .calWrite _ _ (.factorCurve _ points) => 3 + 5 * points.length
  | .calWrite _ _ (.probeOffset _) | .calWrite _ _ (.other _) => 4
  | .nop _ | .eventRead _ | .loadFinish _ | .loadResume _ | .loadAbort _ | .cardWithdraw _ | .resume _ | .esdReset _
  | .noteRead _ | .selectWindow _ _ | .quadratureStep _ _ | .integrityError _ | .gateExpiry _ | .pollSlot _
  | .settleTimerExpiry _ | .closeTimerExpiry _ | .pumpFeedback _ _ | .startTimerExpiry _ | .runOnTimerExpiry _
  | .injectorFeedback _ _ | .feedbackTimerExpiry _ | .esdInputChange _ | .validityTimerExpiry | .firstExpiry
  | .secondExpiry | .contextTimerExpiry | .holdTimerExpiry _ | .sealInputChange _ | .bayClockSecond
  | .recordWriteComplete | .saveWriteComplete | .pfailAssertion | .resetAssertion _ | .startUp _ | .start
  | .lossOfPower _ => 0

/-- The payload in a window is that of the request: it reads as the request where the layout is printed or empty (section
11.5), and has the request's length otherwise (assumption logs 4 and 29). -/
def Instr.spelledBy (i : Instr) (w : Win) : Bool :=
  match Machine.reqCode? i with
  | none => true
  | some c => if Machine.printed c then Machine.readRequest w c w.payload = some i else w.payload.length = i.payloadLength

/-- A command that the masters' frames or the field inputs can bring. -/
def Instr.wellFormed (i : Instr) : Bool :=
  i.fits && match Machine.win? i with
    | none => true
    | some w => i.spelledBy w

end Sys2Proof
end

