-- ==== Sys2Proof/Certificates/Slice0/Obligations.lean ====
section
/-! DEFINITION. The statements for the provers. A window of port p and tag g, whose frame carries the payload `body` and after
which the master clocks the bytes `tail`, is written ⟨p, g, body, tail⟩; the state in which its request of code c is taken is
`s.seen c w` (the previous response has gone out and the window's bytes have come in, nothing else has moved), and
`State.answered` adds the reply, with the writes that wait started. -/

open Sys2Proof Sys2Proof.Machine

/-! ### The step -/

/-- A step runs the command at the front of the queue on the state with the queue's rest (assumption log 1). -/
def Obligations.StepRunsTheFrontCommand : Prop :=
  ∀ (c : Instr) (rest : List Instr) (s : State),
    s.pending = c :: rest → step s = exec c { s with pending := rest }

/-- On an empty queue a millisecond passes (the model's choice, assumption log 2). From START on, every timer that runs has a
millisecond less, down to 0: those of the arms, pumps, meters, injectors, context, poll slot and permissives, the hold timers
except in POWER_DOWN, and the deadman timer while a running part has a compartment flowing and the stage is not EXPIRED.
Nothing else moves, and while the part is held or in start-up nothing moves at all. -/
def Obligations.IdleStepPassesTime : Prop :=
  ∀ s : State, s.pending = [] →
    (s.phase = .held ∨ s.phase = .startUp → step s = .next s)
    ∧ (s.phase = .running ∨ s.phase = .powerDown →
      let less (x : Timer) : Timer := x.map fun k => k - 1
      let counts : Bool := s.load.any fun l => l.comps.any fun c => c.state.isFlowing
      ∃ t, step s = .next t
        ∧ (∀ a : Fin 4, t.arms[a]
          = { s.arms[a] with settleTimer := less s.arms[a].settleTimer, closeTimer := less s.arms[a].closeTimer })
        ∧ (∀ p : Fin 4, t.pumps[p] = { s.pumps[p] with timer := less s.pumps[p].timer })
        ∧ (∀ m : Fin 4, t.meters[m] = { s.meters[m] with gateTimer := less s.meters[m].gateTimer })
        ∧ (∀ j : Fin 8, t.injectors[j] = { s.injectors[j] with timer := less s.injectors[j].timer })
        ∧ t.context = s.context.map (fun x => { x with timer := less x.timer })
        ∧ t.scanner = { s.scanner with slotTimer := less s.scanner.slotTimer }
        ∧ (∀ i : Fin 8, t.slots[i] =
          if s.phase = .running then { s.slots[i] with holdTimer := less s.slots[i].holdTimer } else s.slots[i])
        ∧ t.safety = { s.safety with
            validity := less s.safety.validity
            timer := if s.phase = .running ∧ counts = true ∧ s.safety.stage ≠ .expired then s.safety.timer - 1
              else s.safety.timer }
        ∧ { t with
            arms := s.arms, pumps := s.pumps, meters := s.meters, injectors := s.injectors, context := s.context
            scanner := s.scanner, slots := s.slots, safety := s.safety } = s)

/-! ### Reset -/

/-- While RESET is active every output is held inactive: the valves closed, the pumps, strokes and horn off, TCS released, no
ATTN asserted, and nothing but 0 on a data out. So it stands in State.reset, and so every step leaves it: one that begins
RESET turns every output off, and one taken while RESET is active turns none on. -/
def Obligations.ResetHoldsOutputsInactive : Prop :=
  State.reset.phase = .held ∧ State.reset.OutputsOff
    ∧ (∀ p : Port, (State.reset.ports.get p).shifted = [])
    ∧ (∀ (whole : Bool) (s : State), ∃ t u, exec (.resetAssertion whole) s = .next t ∧ exec (.lossOfPower whole) s = .next u
      ∧ t.phase = .held ∧ t.OutputsOff ∧ u.phase = .held ∧ u.OutputsOff)
    ∧ ∀ s t : State, (s.phase = .held → s.OutputsOff) → step s = .next t → t.phase = .held → t.OutputsOff

/-- The invariants of Safety.lean hold of the machine at reset. -/
def Obligations.InvariantsHoldAtReset : Prop :=
  State.reset.ValvesFit ∧ State.reset.QueuesBounded ∧ State.reset.TotalsInRange ∧ State.reset.FlowLawful

/-! ### Invariants that every step keeps -/

/-- Every step keeps each valve command to what its arm's state allows: open only in LOW, FULL and SLOWDOWN, the main
valve only in FULL without the deadman hold. -/
def Obligations.StepKeepsValvesFit : Prop :=
  ∀ s t : State, s.ValvesFit → step s = .next t → t.ValvesFit

/-- Every step keeps arms and load record in agreement, and in such a state product flows only where the rules let it: a
valve is open only while the load is ACTIVE, its cause set is empty and the ESD latch is clear, for a compartment that the
arm serves and that a drive to close would reach. The load state is always that of the table of R12. -/
def Obligations.StepKeepsFlowLawful : Prop :=
  (∀ s t : State, s.FlowLawful → step s = .next t → t.FlowLawful)
  ∧ ∀ s : State, s.FlowLawful → ∀ a : Fin 4, s.arms[a].valve ≠ .closed →
    s.safety.esdLatch = false
      ∧ ∃ n l c, s.arms[a].served = some n ∧ s.load = some l ∧ l.comp? n = some c ∧ c.line.arm = a
        ∧ c.state.isDrivable = true ∧ l.state = .active ∧ l.causes.isEmpty = true

/-- Every step keeps the write queue to eight records, each event queue to sixteen and the order queue to sixteen. -/
def Obligations.StepKeepsQueuesBounded : Prop :=
  ∀ s t : State, s.QueuesBounded → step s = .next t → t.QueuesBounded

/-- No command but those that begin or end the part's life in power lowers a totalizer, and each stays in its range. -/
def Obligations.TotalsNeverFall : Prop :=
  ∀ (c : Instr) (s t : State), restarts c = false → s.TotalsInRange → exec c s = .next t →
    s.TotalsAtLeast t ∧ t.TotalsInRange

/-- The calibration set and its counter change by no command but CAL-WRITE and the restarts, and CAL-WRITE, as its own row or
as a frame of code 72 hex at TP, changes them only under an open seal with no load open, raising the CEC by exactly one. -/
def Obligations.CalibrationChangesOnlyUnsealed : Prop :=
  ∀ (c : Instr) (s t : State), restarts c = false → exec c s = .next t →
    t.cal = s.cal
      ∨ s.sealState = .isOpen ∧ s.load = none ∧ t.cal.cec = s.cal.cec + 1
        ∧ ((∃ w index value, c = .calWrite w index value)
          ∨ ∃ bytes g payload, c = .selectWindow .tp bytes ∧ judgeInbound (bytes.take 65) = .framed g 0x72 payload)

/-! ### Windows and frames -/

/-- A frame is judged to carry exactly the tag, code and payload it was built from, whatever bytes the master clocks after
it. -/
def Obligations.FrameIsJudgedWhole : Prop :=
  ∀ (g : Byte) (code : Nat) (payload extra : List Byte), code < 256 → payload.length ≤ 60 →
    judgeInbound (frame g code payload ++ extra) = .framed g code payload

/-- A permit entry written out as its 13 bytes is read back as it was. -/
def Obligations.PermitBytesReadBack : Prop :=
  ∀ c : PermitContent, c.card < 2 ^ 32 → (∀ k, c.carrier = some k → k < 2 ^ 16) → c.expiry < 2 ^ 16 → c.loads < 256 →
    c.bytes.length = 13
      ∧ readPermit c.bytes
        = { card := c.card, carrier := c.carrier, quals := c.quals, expiry := c.expiry, loads := c.loads,
            state := if c.state = .active then 0 else 1 }

/-- A window whose bytes are the frame of a request, and any bytes after it, acts exactly as the request's own row, wherever the
request's payload reads as that row. So it does for every well-formed row of a request whose payload layout is printed or that
carries no argument. -/
def Obligations.FramedRequestActsAsItsRow : Prop :=
  (∀ (w : Win) (c : ReqCode) (i : Instr) (s : State), w.payload.length ≤ 60 → reqCode? i = some c →
    readRequest w c w.payload = some i → exec (.selectWindow w.port (Win.sent c w)) s = exec i s)
  ∧ ∀ (w : Win) (c : ReqCode) (i : Instr) (s : State), win? i = some w → reqCode? i = some c → printed c = true →
    i.wellFormed = true → exec (.selectWindow w.port (Win.sent c w)) s = exec i s

/-- A window with no well-formed request leaves the pending response absent; one whose CRC fails is answered BAD_FRAME with its
tag; one whose code names no request UNKNOWN_REQUEST; one from a port not listed for its code NOT_PERMITTED; in POWER_DOWN a
permitted request, by its row or by its frame, is answered BUSY; and one whose payload length its code does not allow
BAD_ARGUMENT. That a request without arguments takes no payload, and that a payload which its request's reading refuses has a
length not allowed, are the model's choice (assumption log 4, and for CAL-WRITE of an unknown kind log 30). Before START no
window opens, also where PFAIL has cut start-up short: data out carries 0, and the pending response, the inbound bytes and all
else stay as they were. None of these moves anything outside its port. -/
def Obligations.WindowsAreRefusedAtThePort : Prop :=
  let unopened (p : Port) (clocked : Nat) (s : State) (o : Host.Outcome State Fault Refusal) : Prop :=
    ∃ t, o = .next t ∧ t.ports.get p = { s.ports.get p with shifted := List.replicate clocked 0#8 }
      ∧ (∀ q, q ≠ p → t.ports.get q = s.ports.get q) ∧ { t with ports := s.ports } = s
  (∀ (p : Port) (bytes : List Byte) (s : State),
    let v := s.window p bytes.length (bytes.take 65)
    let refused (g : Byte) (status : Status) : Prop :=
      exec (.selectWindow p bytes) s = .next (v.respond p g { status, payload := .none })
    (s.phase = .running ∨ s.phase = .powerDown ∧ s.started = true →
      (judgeInbound (bytes.take 65) = .malformed → exec (.selectWindow p bytes) s = .next v)
      ∧ (∀ g, judgeInbound (bytes.take 65) = .badCrc g → refused g .badFrame)
      ∧ ∀ g code payload, judgeInbound (bytes.take 65) = .framed g code payload →
        (reqCodeOf code = none → refused g .unknownRequest)
        ∧ ∀ c, reqCodeOf code = some c →
          (permitted c p = false → refused g .notPermitted)
          ∧ (permitted c p = true → s.phase = .powerDown → refused g .busy)
          ∧ (permitted c p = true → s.phase = .running →
            (c ∈ [ReqCode.nop, .eventRead, .loadFinish, .loadResume, .loadAbort, .cardWithdraw, .resume, .esdReset, .noteRead] →
              payload ≠ [] → refused g .badArgument)
            ∧ (c = .permitPut → payload.length ≠ 13 → refused g .badArgument)
            ∧ (c = .orderLine → payload.length ≠ 8 → refused g .badArgument)
            ∧ (c = .orderList → payload.length ≠ 1 → refused g .badArgument)
            ∧ (c = .calWrite → payload.length < 2 → refused g .badArgument)
            ∧ (∀ kind index value, c = .calWrite → payload = kind :: index :: value →
              (kind = 0#8 ∨ kind = 3#8 → value.length ≠ 4 → refused g .badArgument)
              ∧ (kind = 1#8 → value = [] → refused g .badArgument)
              ∧ (∀ count points, kind = 1#8 → value = count :: points → points.length ≠ 5 * count.toNat →
                refused g .badArgument)
              ∧ (kind = 2#8 → value.length ≠ 2 → refused g .badArgument))
            ∧ (∀ w : Win, readRequest w c payload = none → refused g .badArgument)))
    ∧ (s.phase = .held ∨ s.phase = .startUp ∨ s.phase = .powerDown ∧ s.started = false →
      unopened p bytes.length s (exec (.selectWindow p bytes) s)))
  ∧ ∀ (i : Instr) (c : ReqCode) (w : Win) (s : State), reqCode? i = some c →
    (s.phase = .held ∨ s.phase = .startUp ∨ s.phase = .powerDown ∧ s.started = false →
      unopened w.port (Win.sent c w).length s (exec (withWin w i) s))
    ∧ (s.phase = .powerDown ∧ s.started = true → permitted c w.port = true →
      exec (withWin w i) s = .next ((s.seen c w).respond w.port w.tag { status := .busy, payload := .none }))
    ∧ (s.phase = .running ∨ s.phase = .powerDown ∧ s.started = true → permitted c w.port = false →
      exec (withWin w i) s = .next ((s.seen c w).respond w.port w.tag { status := .notPermitted, payload := .none }))

/-! ### Reads -/

/-- NOP is answered OK with no payload; its window carries out the pending response, the NULL response where none is, and zeros
after it, and changes nothing but its own port. STATUS-READ of each section is answered OK with the fields of its owners as they
stand and changes nothing but the port and the writes that start; an unknown section or an index outside its range is refused
with BAD_ARGUMENT, a section of the load with STATE where no load is open, and a compartment or component that the load lacks
with NOT_FOUND. That the outbound position counts the bytes of the NULL response, that COMPARTMENT carries the compartment
number with the line, and that a context's time left and the ESD input level may be absent, are the model's choice (assumption
logs 35, 36 and 37). -/
def Obligations.NopAndStatusRead : Prop :=
  (∀ (w : Win) (s : State), s.phase = .running →
    let x := s.ports.get w.port
    let out := (x.pending.getD ⟨0#8, .none, .none⟩).bytes
    let sent := Win.sent .nop w
    ∃ t, exec (.nop w) s = .next t
      ∧ (∀ p, p ≠ w.port → t.ports.get p = s.ports.get p)
      ∧ t.ports.get w.port = { x with
          pending := some ⟨w.tag, .ok, .none⟩, inbound := sent.take 65, outPosition := min sent.length out.length
          shifted := out.take sent.length ++ List.replicate (sent.length - out.length) 0#8 }
      ∧ t.writing = !s.queue.isEmpty
      ∧ { t with ports := s.ports, writing := s.writing } = s)
  ∧ ∀ (w : Win) (x y : Nat) (s : State), s.phase = .running →
    let read (sect i j : Nat) (status : Status) (payload : Payload) : Prop :=
      exec (.statusRead w sect i j) s = .next ((s.seen .statusRead w).answered w status payload)
    let given (c : CompRecord) (index : Nat) : CompStatus :=
      ⟨index, c.line, c.state, c.gross, c.net,
        if c.sumG = 0 then none else some (c.sumGT.sign * ((2 * c.sumGT.natAbs + c.sumG) / (2 * c.sumG) : Nat)),
        c.maxFlow, c.antUsed, c.closeReason, c.haltCause, c.flags⟩
    read 0 x y .ok (.bay ⟨s.clock,
      s.load.map fun l =>
        ⟨l.state, l.card, l.number, l.slot, l.carrier, l.openTime, l.causes, l.totalsUncertain⟩,
      s.context.map fun z => ⟨z.card, z.eligible.length, z.timer⟩, s.orders.length,
      s.staging.map fun g => (g.number, (g.lines.filter Option.isSome).length)⟩)
    ∧ (x = 0 ∨ 8 < x → read 1 x y .badArgument .none)
    ∧ (x = 0 ∨ 8 < x ∨ y = 0 ∨ 2 < y → read 2 x y .badArgument .none)
    ∧ (1 ≤ x → x ≤ 8 → s.load = none → read 1 x y .state .none ∧ (1 ≤ y → y ≤ 2 → read 2 x y .state .none))
    ∧ (∀ l, s.load = some l → 1 ≤ x → x ≤ 8 →
      ((∀ c ∈ l.comps, c.line.compartment ≠ x) →
        read 1 x y .notFound .none ∧ (1 ≤ y → y ≤ 2 → read 2 x y .notFound .none))
      ∧ ∀ before c after, l.comps = before ++ c :: after → c.line.compartment = x →
        (∀ b ∈ before, b.line.compartment ≠ x) →
        read 1 x y .ok (.compartment (given c (before.length + 1)))
        ∧ (1 ≤ y → y ≤ 2 →
          ((∀ r ∈ c.additives, r.position ≠ y) → read 2 x y .notFound .none)
          ∧ ∀ r, c.additives.find? (fun r => r.position == y) = some r → read 2 x y .ok (.additive r)))
    ∧ (∀ a : Fin 4, read 3 a.val y .ok (.arm ⟨s.arms[a].state, s.arms[a].valve, decide (s.arms[a].valve = .full),
      decide (s.arms[a].valve ≠ .closed), s.arms[a].served, s.arms[a].faultCause, s.arms[a].blocked, s.arms[a].hold,
      s.arms[a].stray, s.arms[a].config.ant, s.meters[a].debt, s.probes[a].held, s.probes[a].invalidRun⟩))
    ∧ (4 ≤ x → read 3 x y .badArgument .none)
    ∧ read 4 x y .ok (.pumps ([0, 1, 2, 3].map fun p : Fin 4 =>
      ⟨s.pumps[p].state, s.pumps[p].run, s.pumps[p].feedback, s.pumps[p].demand, s.pumps[p].failKind⟩))
    ∧ (∀ j : Fin 8, read 5 j.val y .ok (.injector ⟨s.injectors[j].state, s.injectors[j].assign.arm,
      s.injectors[j].assign.additive, s.injectors[j].binding, s.injectors[j].owed, s.injectors[j].consecutive,
      s.injectors[j].output, s.injectors[j].feedback⟩))
    ∧ (8 ≤ x → read 5 x y .badArgument .none)
    ∧ read 6 x y .ok (.safety ⟨s.safety, if s.safety.stale then ⟨false, false, false⟩ else s.safety.reported,
      s.sealState, s.cal.cec⟩)
    ∧ read 7 x y .ok (.notes ([0, 1, 2, 3, 4, 5, 6, 7].map fun i : Fin 8 =>
      ⟨s.slots[i].state, s.slots[i].serial, s.slots[i].printed, s.slots[i].holdExpired⟩) s.serial s.holdMinutes)
    ∧ ∀ sect, 7 < sect → read sect x y .badArgument .none

/-- PRODUCT-READ, RECIPE-READ, PERMIT-READ, TOTALS-READ and CAL-READ are answered OK with what they read, and with BAD_ARGUMENT
for a product code, recipe number, object, item kind or index out of range; they change nothing but the port and the writes that
start. That CAL-READ's answer names the item's kind and unit beside its value is the model's choice (assumption log 37). -/
def Obligations.ReadsAnswerWhatIsHeld : Prop :=
  ∀ (g : Byte) (body tail : List Byte) (s : State), s.phase = .running →
    (∀ code : Fin 16, exec (.productRead ⟨.tp, g, body, tail⟩ code.val) s
      = .next ((s.seen .productRead ⟨.tp, g, body, tail⟩).answered ⟨.tp, g, body, tail⟩ .ok (.product s.products[code])))
    ∧ (∀ i : Fin 16, exec (.recipeRead ⟨.tp, g, body, tail⟩ (i.val + 1)) s
      = .next ((s.seen .recipeRead ⟨.tp, g, body, tail⟩).answered ⟨.tp, g, body, tail⟩ .ok (.recipe s.recipes[i])))
    ∧ (∀ card e, s.permits.find? (fun x => x.content.card == card) = some e →
      exec (.permitRead ⟨.tp, g, body, tail⟩ card) s
        = .next ((s.seen .permitRead ⟨.tp, g, body, tail⟩).answered ⟨.tp, g, body, tail⟩ .ok (.permit e)))
    ∧ (∀ (p : Port) (m : Fin 4), exec (.totalsRead ⟨p, g, body, tail⟩ (.meter m.val)) s
      = .next ((s.seen .totalsRead ⟨p, g, body, tail⟩).answered ⟨p, g, body, tail⟩ .ok
        (.meterTotals s.meters[m].gross s.meters[m].net s.meters[m].last s.meters[m].debt s.cal.cec s.sealState)))
    ∧ (∀ (p : Port) (j : Fin 8), exec (.totalsRead ⟨p, g, body, tail⟩ (.injector j.val)) s
      = .next ((s.seen .totalsRead ⟨p, g, body, tail⟩).answered ⟨p, g, body, tail⟩ .ok
        (.injectorTotals s.injectors[j].total s.cal.stroke[j] s.cal.cec s.sealState)))
    ∧ (∀ m : Fin 4, exec (.calRead ⟨.tp, g, body, tail⟩ 0 m.val) s
      = .next ((s.seen .calRead ⟨.tp, g, body, tail⟩).answered ⟨.tp, g, body, tail⟩ .ok
        (.calibration (.meterConstant m s.cal.meterK[m]) s.cal.cec s.sealState)))
    ∧ (∀ m : Fin 4, exec (.calRead ⟨.tp, g, body, tail⟩ 1 m.val) s
      = .next ((s.seen .calRead ⟨.tp, g, body, tail⟩).answered ⟨.tp, g, body, tail⟩ .ok
        (.calibration (.factorCurve m s.cal.curve[m]) s.cal.cec s.sealState)))
    ∧ (∀ m : Fin 4, exec (.calRead ⟨.tp, g, body, tail⟩ 2 m.val) s
      = .next ((s.seen .calRead ⟨.tp, g, body, tail⟩).answered ⟨.tp, g, body, tail⟩ .ok
        (.calibration (.probeOffset m s.cal.offset[m]) s.cal.cec s.sealState)))
    ∧ (∀ j : Fin 8, exec (.calRead ⟨.tp, g, body, tail⟩ 3 j.val) s
      = .next ((s.seen .calRead ⟨.tp, g, body, tail⟩).answered ⟨.tp, g, body, tail⟩ .ok
        (.calibration (.strokeVolume j s.cal.stroke[j]) s.cal.cec s.sealState)))
    ∧ (∀ code : Nat, 16 ≤ code → exec (.productRead ⟨.tp, g, body, tail⟩ code) s
      = .next ((s.seen .productRead ⟨.tp, g, body, tail⟩).answered ⟨.tp, g, body, tail⟩ .badArgument .none))
    ∧ (∀ n : Nat, n = 0 ∨ 16 < n → exec (.recipeRead ⟨.tp, g, body, tail⟩ n) s
      = .next ((s.seen .recipeRead ⟨.tp, g, body, tail⟩).answered ⟨.tp, g, body, tail⟩ .badArgument .none))
    ∧ (∀ (p : Port) (x : TotalsObject),
      (match x with | .meter n => 4 ≤ n | .injector n => 8 ≤ n | .other => True) →
      exec (.totalsRead ⟨p, g, body, tail⟩ x) s
        = .next ((s.seen .totalsRead ⟨p, g, body, tail⟩).answered ⟨p, g, body, tail⟩ .badArgument .none))
    ∧ ∀ kind index : Nat, 4 ≤ kind ∨ 8 ≤ index ∨ kind ≠ 3 ∧ 4 ≤ index →
      exec (.calRead ⟨.tp, g, body, tail⟩ kind index) s
        = .next ((s.seen .calRead ⟨.tp, g, body, tail⟩).answered ⟨.tp, g, body, tail⟩ .badArgument .none)

/-- EVENT-READ takes the oldest records, up to four, from the head of its port's queue, returns them with the overflow
mark, and clears the mark. -/
def Obligations.EventReadTakesUpToFour : Prop :=
  ∀ (w : Win) (s : State), s.phase = .running →
    ∃ t, exec (.eventRead w) s = .next t
      ∧ (t.ports.get w.port).pending
        = some ⟨w.tag, .ok, .events ((s.ports.get w.port).events.take 4) (s.ports.get w.port).overflow⟩
      ∧ (t.ports.get w.port).events = (s.ports.get w.port).events.drop 4
      ∧ (t.ports.get w.port).overflow = false
      ∧ (∀ p, p ≠ w.port → t.ports.get p = s.ports.get p)
      ∧ { t with ports := s.ports, writing := s.writing } = s

/-- ORDER-LIST is refused with STATE where no context stands and with BAD_ARGUMENT for a position above 15; otherwise it is
answered OK with the count of the eligible orders, up to four of them from the start position, each with its number, lines,
compartments and products, and the position after them where more remain. -/
def Obligations.OrderListPages : Prop :=
  ∀ (g : Byte) (body tail : List Byte) (start : Nat) (s : State), s.phase = .running →
    let w : Win := ⟨.pp, g, body, tail⟩
    (s.context = none → exec (.orderList w start) s = .next ((s.seen .orderList w).answered w .state .none))
    ∧ ∀ x, s.context = some x →
      (15 < start → exec (.orderList w start) s = .next ((s.seen .orderList w).answered w .badArgument .none))
      ∧ (start ≤ 15 →
        exec (.orderList w start) s
          = .next ((s.seen .orderList w).answered w .ok
            (.orders x.eligible.length
              (((x.eligible.drop start).take 4).filterMap fun n =>
                (s.orders.find? fun o => o.number == n).map fun o =>
                  ⟨o.number, o.lines.map fun l => (l.compartment, l.product)⟩)
              (if start + 4 < x.eligible.length then some (start + 4) else none))))

/-! ### Configuration -/

/-- PRODUCT-PUT and RECIPE-PUT with no load open, every field in its range, the entry defined or named by no queued line,
and a place in the write queue: the entry is replaced, its record queued, the answer ACCEPTED. A pump of FF hex is NONE. -/
def Obligations.TableWritesAccepted : Prop :=
  ∀ (g : Byte) (body tail : List Byte) (s : State), s.phase = .running → s.load = none → s.queue.length < 8 →
    let w : Win := ⟨.tp, g, body, tail⟩
    let v (c : ReqCode) := s.seen c w
    (∀ (code : Fin 16) (name : List Byte) (alpha : Nat) (required : QualSet) (pump : Option (Fin 4)) (defined : Bool),
      1 ≤ name.length → name.length ≤ 8 → (∀ b ∈ name, nameChar b = true) → alpha ≤ 20000 →
      (defined = true ∨ ∀ o ∈ s.orders, ∀ l ∈ o.lines, l.product ≠ code) →
      exec (.productPut w code.val ⟨name, alpha, required, pump.elim 255 Fin.val, if defined then .yes else .no⟩) s
        = .next (State.answered w .accepted .none { (v .productPut) with
            products := s.products.set code ⟨name, alpha, required, pump, defined⟩
            queue := s.queue ++ [.product code ⟨name, alpha, required, pump, defined⟩] }))
    ∧ ∀ (i : Fin 16) (cs : List Component) (defined : Bool), cs.length = 1 ∨ cs.length = 2 →
      (∀ c ∈ cs, c.additive ≤ 7 ∧ 10 ≤ c.ratio ∧ c.ratio ≤ 10000 ∧ 1 ≤ c.tolerance ∧ c.tolerance ≤ 20) →
      (cs.map Component.additive).Nodup →
      (defined = true ∨ ∀ o ∈ s.orders, ∀ l ∈ o.lines, l.recipe ≠ i.val + 1) →
      exec (.recipePut w (i.val + 1) (if defined then .yes else .no)
          (cs.map fun c => ⟨c.additive, c.ratio, c.tolerance, if c.mandatory then .yes else .no⟩)) s
        = .next (State.answered w .accepted .none { (v .recipePut) with
            recipes := s.recipes.set i ⟨defined, cs⟩
            queue := s.queue ++ [.recipe i ⟨defined, cs⟩] })

/-- A configuration write is refused with the first that applies. PRODUCT-PUT and RECIPE-PUT: LOAD_OPEN while a load record exists,
BAD_ARGUMENT for a field out of its range, IN_USE where the entry is marked undefined and a queued line names it, BUSY with no
place in the write queue. ARM-CONFIG and PUMP-CONFIG: BAD_ARGUMENT, STATE for an arm that is not IDLE or a pump that is neither
STOPPED nor FAILED or has demand, BUSY. INJECTOR-ASSIGN: BAD_ARGUMENT, STATE for an injector neither IDLE nor DISABLED or an old or
new arm that is not IDLE, BUSY. DEADMAN-CONFIG: BAD_ARGUMENT, LOAD_OPEN, BUSY. NOTE-CONFIG, ARM-BLOCK and ARM-UNBLOCK: BAD_ARGUMENT,
BUSY. A mask of an arm beyond A3 is out of range (the model's choice, assumption log 18), and so is a yes or no that is neither
(assumption log 34). A refused request changes nothing but the port and the writes that start. -/
def Obligations.ConfigurationRefused : Prop :=
  ∀ (g : Byte) (body tail : List Byte) (s : State), s.phase = .running →
    let w : Win := ⟨.tp, g, body, tail⟩
    let refused (c : ReqCode) (i : Instr) (status : Status) : Prop := exec i s = .next ((s.seen c w).answered w status .none)
    (∀ (code : Nat) (e : ProductArg),
      let good : Prop := code < 16 ∧ 1 ≤ e.shortName.length ∧ e.shortName.length ≤ 8
        ∧ (∀ b ∈ e.shortName, nameChar b = true) ∧ e.alpha ≤ 20000 ∧ (e.pump < 4 ∨ e.pump = 255) ∧ e.defined ≠ .other
      let named : Prop := ∃ o ∈ s.orders, ∃ l ∈ o.lines, l.product.val = code
      let refused := refused .productPut (.productPut w code e)
      (s.load.isSome = true → refused .loadOpen)
      ∧ (s.load = none →
        (¬ good → refused .badArgument)
        ∧ (good → e.defined = .no → named → refused .inUse)
        ∧ (good → e.defined = .yes ∨ ¬ named → 8 ≤ s.queue.length → refused .busy)))
    ∧ (∀ (n : Nat) (d : YesNo) (cs : List ComponentArg),
      let good : Prop := 1 ≤ n ∧ n ≤ 16 ∧ d ≠ .other ∧ (cs.length = 1 ∨ cs.length = 2) ∧ (cs.map ComponentArg.additive).Nodup
        ∧ ∀ c ∈ cs, c.additive ≤ 7 ∧ 10 ≤ c.ratio ∧ c.ratio ≤ 10000 ∧ 1 ≤ c.tolerance ∧ c.tolerance ≤ 20
          ∧ c.mandatory ≠ .other
      let named : Prop := ∃ o ∈ s.orders, ∃ l ∈ o.lines, l.recipe = n
      let refused := refused .recipePut (.recipePut w n d cs)
      (s.load.isSome = true → refused .loadOpen)
      ∧ (s.load = none →
        (¬ good → refused .badArgument)
        ∧ (good → d = .no → named → refused .inUse)
        ∧ (good → d = .yes ∨ ¬ named → 8 ≤ s.queue.length → refused .busy)))
    ∧ (∀ (a : Nat) (c : ArmArg),
      let good : Prop := c.lowStart ≤ 500 ∧ c.slowdown ≤ 1000 ∧ c.maxAnt ≤ 200 ∧ c.ant ≤ c.maxAnt ∧ 2 ≤ c.closeTimeout
        ∧ c.closeTimeout ≤ 30 ∧ c.strayLimit ≤ 20 ∧ 10 ≤ c.progress ∧ c.progress ≤ 1000
      let refused := refused .armConfig (.armConfig w a c)
      (4 ≤ a ∨ ¬ good → refused .badArgument)
      ∧ (good → ∀ b : Fin 4, b.val = a →
        (s.arms[b].state ≠ .idle → refused .state)
        ∧ (s.arms[b].state = .idle → 8 ≤ s.queue.length → refused .busy)))
    ∧ (∀ p x y z : Nat,
      let good : Prop := 1 ≤ x ∧ x ≤ 60 ∧ y ≤ 10 ∧ z ≤ 120
      let refused := refused .pumpConfig (.pumpConfig w p ⟨x, y, z⟩)
      (4 ≤ p ∨ ¬ good → refused .badArgument)
      ∧ (good → ∀ q : Fin 4, q.val = p →
        let still : Prop := (s.pumps[q].state = .stopped ∨ s.pumps[q].state = .failed) ∧ s.pumps[q].demand = 0
        (¬ still → refused .state) ∧ (still → 8 ≤ s.queue.length → refused .busy)))
    ∧ (∀ j arm code timeout : Nat,
      let good : Prop := (arm < 4 ∨ arm = 255) ∧ code ≤ 7 ∧ 100 ≤ timeout ∧ timeout ≤ 2000
      let refused := refused .injectorAssign (.injectorAssign w j arm code timeout)
      (8 ≤ j ∨ ¬ good → refused .badArgument)
      ∧ (good → ∀ k : Fin 8, k.val = j →
        let free : Prop := (s.injectors[k].state = .idle ∨ s.injectors[k].state = .disabled)
          ∧ (∀ b, s.injectors[k].assign.arm = some b → s.arms[b].state = .idle)
          ∧ ∀ b : Fin 4, b.val = arm → s.arms[b].state = .idle
        (¬ free → refused .state) ∧ (free → 8 ≤ s.queue.length → refused .busy)))
    ∧ (∀ d x : Nat,
      let refused := refused .deadmanConfig (.deadmanConfig w d x)
      (d < 30 ∨ 300 < d ∨ x < 15 ∨ 60 < x → refused .badArgument)
      ∧ (30 ≤ d → d ≤ 300 → 15 ≤ x → x ≤ 60 →
        (s.load.isSome = true → refused .loadOpen)
        ∧ (s.load = none → 8 ≤ s.queue.length → refused .busy)))
    ∧ (∀ n : Nat,
      let refused := refused .noteConfig (.noteConfig w n)
      (n < 1 ∨ 60 < n → refused .badArgument) ∧ (1 ≤ n → n ≤ 60 → 8 ≤ s.queue.length → refused .busy))
    ∧ ∀ m : ArmMask,
      (16 ≤ m.toNat → refused .armBlock (.armBlock w m) .badArgument ∧ refused .armUnblock (.armUnblock w m) .badArgument)
      ∧ (m.toNat < 16 → 8 ≤ s.queue.length →
        refused .armBlock (.armBlock w m) .busy ∧ refused .armUnblock (.armUnblock w m) .busy)

/-- ARM-CONFIG of an IDLE arm, PUMP-CONFIG of a STOPPED or FAILED pump with no demand, and INJECTOR-ASSIGN of an IDLE or DISABLED
injector to an IDLE arm or to none, its old arm IDLE too: the configuration is replaced whole, its record queued, the answer
ACCEPTED. -/
def Obligations.EquipmentConfigured : Prop :=
  ∀ (g : Byte) (body tail : List Byte) (s : State), s.phase = .running → s.queue.length < 8 →
    let w : Win := ⟨.tp, g, body, tail⟩
    let v (c : ReqCode) := s.seen c w
    (∀ (a : Fin 4) (c : ArmArg), s.arms[a].state = .idle → c.lowStart ≤ 500 → c.slowdown ≤ 1000 → c.maxAnt ≤ 200 →
      c.ant ≤ c.maxAnt → 2 ≤ c.closeTimeout → c.closeTimeout ≤ 30 → c.strayLimit ≤ 20 → 10 ≤ c.progress →
      c.progress ≤ 1000 →
      let config : ArmConfig :=
        ⟨c.lowStart * 1000, c.slowdown * 1000, c.maxAnt * 1000, c.ant * 1000, c.closeTimeout, c.strayLimit * 1000,
          c.progress * 1000⟩
      exec (.armConfig w a.val c) s
        = .next (State.answered w .accepted .none { (v .armConfig) with
            arms := s.arms.set a { s.arms[a] with config := config }
            queue := s.queue ++ [.arm a config false] }))
    ∧ (∀ (p : Fin 4) (x y z : Nat), s.pumps[p].state = .stopped ∨ s.pumps[p].state = .failed → s.pumps[p].demand = 0 →
      1 ≤ x → x ≤ 60 → y ≤ 10 → z ≤ 120 →
      exec (.pumpConfig w p.val ⟨x, y, z⟩) s
        = .next (State.answered w .accepted .none { (v .pumpConfig) with
            pumps := s.pumps.set p { s.pumps[p] with config := ⟨x, y, z⟩ }
            queue := s.queue ++ [.pump p ⟨x, y, z⟩] }))
    ∧ ∀ (j : Fin 8) (arm : Option (Fin 4)) (code timeout : Nat),
      s.injectors[j].state = .idle ∨ s.injectors[j].state = .disabled →
      (∀ b, s.injectors[j].assign.arm = some b → s.arms[b].state = .idle) → (∀ a, arm = some a → s.arms[a].state = .idle) →
      code ≤ 7 → 100 ≤ timeout → timeout ≤ 2000 →
      exec (.injectorAssign w j.val (arm.elim 255 Fin.val) code timeout) s
        = .next (State.answered w .accepted .none { (v .injectorAssign) with
            injectors := s.injectors.set j
              { s.injectors[j] with
                assign := ⟨arm, code, timeout⟩, consecutive := 0
                state := if arm = none then .disabled else .idle }
            queue := s.queue ++ [.injector j ⟨arm, code, timeout⟩] })

/-- ARM-BLOCK and ARM-UNBLOCK set the blocked flag of every arm of the mask in any arm state and queue one block record of
all four flags; DEADMAN-CONFIG and NOTE-CONFIG replace what they configure and queue its record. -/
def Obligations.BlocksAndTimesConfigured : Prop :=
  ∀ (g : Byte) (body tail : List Byte) (s : State), s.phase = .running → s.queue.length < 8 →
    let w : Win := ⟨.tp, g, body, tail⟩
    let v (c : ReqCode) := s.seen c w
    (∀ m : ArmMask, m.toNat < 16 →
      ∃ t : State, exec (.armBlock w m) s = .next (State.answered w .accepted .none t)
        ∧ (∀ a : Fin 4, t.arms[a] = { s.arms[a] with blocked := s.arms[a].blocked || m.getLsbD a.val })
        ∧ t.queue = s.queue ++ [.block #v[t.arms[0].blocked, t.arms[1].blocked, t.arms[2].blocked, t.arms[3].blocked]]
        ∧ { t with arms := s.arms, queue := s.queue } = (v .armBlock))
    ∧ (∀ m : ArmMask, m.toNat < 16 →
      ∃ t : State, exec (.armUnblock w m) s = .next (State.answered w .accepted .none t)
        ∧ (∀ a : Fin 4, t.arms[a] = { s.arms[a] with blocked := s.arms[a].blocked && !m.getLsbD a.val })
        ∧ t.queue = s.queue ++ [.block #v[t.arms[0].blocked, t.arms[1].blocked, t.arms[2].blocked, t.arms[3].blocked]]
        ∧ { t with arms := s.arms, queue := s.queue } = (v .armUnblock))
    ∧ (∀ d x, s.load = none → 30 ≤ d → d ≤ 300 → 15 ≤ x → x ≤ 60 →
      exec (.deadmanConfig w d x) s
        = .next (State.answered w .accepted .none { (v .deadmanConfig) with
            safety := { s.safety with period := d, warning := x }
            queue := s.queue ++ [.deadman d x] }))
    ∧ ∀ n, 1 ≤ n → n ≤ 60 →
      exec (.noteConfig w n) s
        = .next (State.answered w .accepted .none { (v .noteConfig) with holdMinutes := n, queue := s.queue ++ [.noteConfig n] })

/-- An accepted CAL-WRITE replaces its item, raises the CEC by one, queues one record with the new CEC and carries it in the
answer; a meter constant also sets its meter's R_i to 0. -/
def Obligations.CalWriteAccepted : Prop :=
  ∀ (g : Byte) (body tail : List Byte) (s : State), s.phase = .running → s.queue.length < 8 → s.sealState = .isOpen →
    s.load = none → s.cal.cec < 65535 →
    let w : Win := ⟨.tp, g, body, tail⟩
    let v (c : ReqCode) := s.seen c w
    (∀ (m : Fin 4) (x : Nat), 1000 ≤ x → x ≤ 2000000 →
      exec (.calWrite w m.val (.meterConstant x)) s
        = .next (State.answered w .accepted (.cec (s.cal.cec + 1)) { (v .calWrite) with
            cal := { s.cal with meterK := s.cal.meterK.set m x, cec := s.cal.cec + 1 }
            meters := s.meters.set m { s.meters[m] with remI := 0 }
            queue := s.queue ++ [.calibration (.meterConstant m x) (s.cal.cec + 1)] }))
    ∧ (∀ (m : Fin 4) (c : Curve), c.rest.length ≤ 3 → (c.first :: c.rest).Pairwise (fun x y => x.1 < y.1) →
      (∀ x ∈ c.first :: c.rest, x.1 ≤ 60000 ∧ 95000 ≤ x.2 ∧ x.2 ≤ 105000) →
      exec (.calWrite w m.val (.factorCurve (c.rest.length + 1) (c.first :: c.rest))) s
        = .next (State.answered w .accepted (.cec (s.cal.cec + 1)) { (v .calWrite) with
            cal := { s.cal with curve := s.cal.curve.set m c, cec := s.cal.cec + 1 }
            queue := s.queue ++ [.calibration (.factorCurve m c) (s.cal.cec + 1)] }))
    ∧ (∀ (p : Fin 4) (o : Int), -200 ≤ o → o ≤ 200 →
      exec (.calWrite w p.val (.probeOffset o)) s
        = .next (State.answered w .accepted (.cec (s.cal.cec + 1)) { (v .calWrite) with
            cal := { s.cal with offset := s.cal.offset.set p o, cec := s.cal.cec + 1 }
            queue := s.queue ++ [.calibration (.probeOffset p o) (s.cal.cec + 1)] }))
    ∧ ∀ (j : Fin 8) (x : Nat), 100 ≤ x → x ≤ 100000 →
      exec (.calWrite w j.val (.strokeVolume x)) s
        = .next (State.answered w .accepted (.cec (s.cal.cec + 1)) { (v .calWrite) with
            cal := { s.cal with stroke := s.cal.stroke.set j x, cec := s.cal.cec + 1 }
            queue := s.queue ++ [.calibration (.strokeVolume j x) (s.cal.cec + 1)] })

/-- The level of the SEAL input decides the seal state, and a change tells the new state to TP, but not in POWER_DOWN. CAL-WRITE
is refused with SEALED under a closed seal, before every other check, then with LOAD_OPEN while a load record exists, then
with COUNTER_FULL at a CEC of 65535, then with BAD_ARGUMENT for a kind, index or value out of range, a point count that is not
1 to 4 or not the number of points (the latter the model's choice, assumption log 30), or q_j that do not strictly increase, and
last with BUSY with no place in the write queue. A refused CAL-WRITE changes nothing but the port and the writes that start. -/
def Obligations.CalWriteNeedsOpenSeal : Prop :=
  ∀ (g : Byte) (body tail : List Byte) (index : Nat) (x : CalValueArg) (active : Bool) (s : State),
    let w : Win := ⟨.tp, g, body, tail⟩
    let level : SealState := if active then .isSealed else .isOpen
    let inRange : Prop := match x with
      | .meterConstant k => index < 4 ∧ 1000 ≤ k ∧ k ≤ 2000000
      | .factorCurve count points => index < 4 ∧ count = points.length ∧ 1 ≤ count ∧ count ≤ 4
        ∧ (∀ y ∈ points, y.1 ≤ 60000 ∧ 95000 ≤ y.2 ∧ y.2 ≤ 105000) ∧ points.Pairwise fun y z => y.1 < z.1
      | .probeOffset o => index < 4 ∧ -200 ≤ o ∧ o ≤ 200
      | .strokeVolume v => index < 8 ∧ 100 ≤ v ∧ v ≤ 100000
      | .other _ => False
    (s.phase ≠ .held → s.sealState = level → exec (.sealInputChange active) s = .next s)
    ∧ (s.phase = .running → s.sealState ≠ level →
      exec (.sealInputChange active) s
        = .next (State.post .sealChanged .none 0 (if active then 0 else 1) { s with sealState := level }))
    ∧ (s.phase = .powerDown → s.sealState ≠ level → exec (.sealInputChange active) s = .next { s with sealState := level })
    ∧ (s.phase = .running →
      (s.sealState = .isSealed → exec (.calWrite w index x) s = .next ((s.seen .calWrite w).answered w .isSealed .none))
      ∧ (s.sealState = .isOpen → s.load.isSome = true →
        exec (.calWrite w index x) s = .next ((s.seen .calWrite w).answered w .loadOpen .none))
      ∧ (s.sealState = .isOpen → s.load = none → s.cal.cec = 65535 →
        exec (.calWrite w index x) s = .next ((s.seen .calWrite w).answered w .counterFull .none))
      ∧ (s.sealState = .isOpen → s.load = none → s.cal.cec < 65535 →
        (¬inRange → exec (.calWrite w index x) s = .next ((s.seen .calWrite w).answered w .badArgument .none))
        ∧ (inRange → 8 ≤ s.queue.length →
          exec (.calWrite w index x) s = .next ((s.seen .calWrite w).answered w .busy .none))))

/-! ### Orders -/

/-- ORDER-LINE with no staging buffer is refused with STATE. With one it is refused with BAD_ARGUMENT for an index outside the
order, a field out of its range, a product or recipe that is not defined, or the compartment of a line received at another
index; otherwise, and where a line at another index is still missing, it stores its line at its index, posts nothing and is
answered OK. -/
def Obligations.OrderLineStored : Prop :=
  ∀ (n : Byte) (body tail : List Byte) (i : Nat) (a : LineArg) (s : State), s.phase = .running →
    let w : Win := ⟨.tp, n, body, tail⟩
    let refused (status : Status) : Prop := exec (.orderLine w i a) s = .next ((s.seen .orderLine w).answered w status .none)
    (s.staging = none → refused .state)
    ∧ ∀ g, s.staging = some g →
      let bad : Prop := i < 1 ∨ g.lines.length < i ∨ a.compartment < 1 ∨ 8 < a.compartment ∨ a.preset < 1 ∨ 50000 < a.preset
        ∨ 4 ≤ a.arm ∨ 1 < a.basis ∨ 16 ≤ a.product ∨ 16 < a.recipe
        ∨ (∃ p : Fin 16, p.val = a.product ∧ s.products[p].defined = false)
        ∨ (∃ r : Fin 16, r.val + 1 = a.recipe ∧ s.recipes[r].defined = false)
        ∨ ∃ j l, g.lines[j]? = some (some l) ∧ j + 1 ≠ i ∧ l.compartment = a.compartment
      (bad → refused .badArgument)
      ∧ ∀ line : OrderLine,
        a = ⟨line.compartment, line.arm.val, line.product.val, line.preset, if line.basis = .gross then 0 else 1, line.recipe⟩ →
        ¬ bad → (∃ j, j < g.lines.length ∧ j + 1 ≠ i ∧ g.lines[j]? = some none) →
        exec (.orderLine w i a) s
          = .next (State.answered w .ok .none
            { s.seen .orderLine w with staging := some { g with lines := g.lines.set (i - 1) (some line) } })

/-- The line that completes the staging buffer posts the order. Where a line names a product or recipe that is no longer defined,
the first such line is removed again and the answer is BAD_ARGUMENT with its index (the first of several: assumption log 16); where
the order queue holds sixteen orders the answer is FULL and the staging buffer stays, complete; otherwise the order joins the tail
of the queue and, where it is bound to the card of a standing context or to ANY, of the eligible list, the staging buffer becomes
absent, and ORDER_POSTED tells its number to TP. -/
def Obligations.OrderPosted : Prop :=
  ∀ (n : Byte) (body tail : List Byte) (i : Nat) (g : Staging) (line : OrderLine) (s : State), s.phase = .running → s.staging = some g →
    i < g.lines.length →
    (∀ j, j < g.lines.length → j ≠ i → ∃ l, g.lines[j]? = some (some l) ∧ l.compartment ≠ line.compartment) →
    1 ≤ line.compartment → line.compartment ≤ 8 → 1 ≤ line.preset → line.preset ≤ 50000 →
    s.products[line.product].defined = true →
    (line.recipe = 0 ∨ ∃ r : Fin 16, line.recipe = r.val + 1 ∧ s.recipes[r].defined = true) →
    let w : Win := ⟨.tp, n, body, tail⟩
    let lines := g.lines.set i (some line)
    let usable (k : Nat) : Prop := ∀ l, lines[k]? = some (some l) → s.products[l.product].defined = true
      ∧ (l.recipe = 0 ∨ ∃ r : Fin 16, l.recipe = r.val + 1 ∧ s.recipes[r].defined = true)
    let answer (status : Status) (payload : Payload) (t : State) : Prop :=
      exec (.orderLine w (i + 1) ⟨line.compartment, line.arm.val, line.product.val, line.preset,
        if line.basis = .gross then 0 else 1, line.recipe⟩) s = .next (State.answered w status payload t)
    (∀ k, k < lines.length → ¬ usable k → (∀ j, j < k → usable j) →
      answer .badArgument (.lineIndex (k + 1)) { s.seen .orderLine w with staging := some { g with lines := lines.set k none } })
    ∧ ((∀ k, k < lines.length → usable k) →
      (16 ≤ s.orders.length → answer .full .none { s.seen .orderLine w with staging := some { g with lines := lines } })
      ∧ (s.orders.length < 16 →
        answer .ok .none (State.post .orderPosted .none 0 (w32 g.number)
          { s.seen .orderLine w with
            staging := none
            orders := s.orders ++ [⟨g.number, g.binding, g.carrier, lines.filterMap id⟩]
            context := s.context.map fun x =>
              if g.binding = none ∨ g.binding = some x.card then { x with eligible := x.eligible ++ [g.number] } else x })))

/-- ORDER-BEGIN is refused with the first that applies of BAD_ARGUMENT, DUPLICATE for a number that the queue or the open load
holds, and FULL; a number or code that no field could carry is out of range too (assumption log 29). Otherwise it discards any
staging, that of the same number included, and starts a new order with no lines received. ORDER-CANCEL removes a queued order of
the number given, and its number from the eligible list of a standing context (R34; how R7 reads beside it is assumption log 27);
failing that it discards the staging of that number; a number that only the open load holds is refused with IN_USE, and one that
nothing holds with NOT_FOUND. -/
def Obligations.OrdersBegunAndCancelled : Prop :=
  ∀ (g : Byte) (body tail : List Byte) (number : Nat) (s : State), s.phase = .running →
    let w : Win := ⟨.tp, g, body, tail⟩
    let queued : Prop := ∃ o ∈ s.orders, o.number = number
    let loaded : Prop := ∃ l, s.load = some l ∧ l.number = number
    (∀ (count : Nat) (binding carrier : Option Nat),
      let bad : Prop := number < 1 ∨ 999999 < number ∨ binding = some 0 ∨ (∃ b, binding = some b ∧ 2 ^ 32 ≤ b)
        ∨ carrier = some 0 ∨ (∃ k, carrier = some k ∧ 65535 < k) ∨ count < 1 ∨ 8 < count
      let refused (status : Status) : Prop :=
        exec (.orderBegin w number binding carrier count) s = .next ((s.seen .orderBegin w).answered w status .none)
      (bad → refused .badArgument)
      ∧ (¬ bad →
        (queued ∨ loaded → refused .duplicate)
        ∧ (¬ queued → ¬ loaded →
          (16 ≤ s.orders.length → refused .full)
          ∧ (s.orders.length < 16 →
            exec (.orderBegin w number binding carrier count) s
              = .next (State.answered w .ok .none { s.seen .orderBegin w with
                  staging := some ⟨number, binding, carrier, List.replicate count none⟩ })))))
    ∧ (queued →
      exec (.orderCancel w number) s
        = .next (State.answered w .ok .none { s.seen .orderCancel w with
            orders := s.orders.filter fun o => o.number != number
            context := s.context.map fun x =>
              { x with eligible := x.eligible.filter fun n => n != number } }))
    ∧ (¬ queued → (∃ o, s.staging = some o ∧ o.number = number) →
      exec (.orderCancel w number) s = .next (State.answered w .ok .none { s.seen .orderCancel w with staging := none }))
    ∧ (¬ queued → (∀ o, s.staging = some o → o.number ≠ number) →
      (loaded → exec (.orderCancel w number) s = .next ((s.seen .orderCancel w).answered w .inUse .none))
      ∧ (¬ loaded → exec (.orderCancel w number) s = .next ((s.seen .orderCancel w).answered w .notFound .none)))

/-- ORDER-AMEND is refused with BAD_ARGUMENT for a preset outside 1 to 50000, and with NOT_FOUND where neither a queued order nor
the open load has the number, or where that order has no such compartment. On a line of a queued order it replaces the preset and
nothing else of any order. On the open load: a PENDING compartment has its preset replaced, an image point; one in STARTING,
LOW_START, FULL or SLOWDOWN, and one HALTED, is answered OK where the new preset lies above what has been delivered and the arm's
anticipation. At or below that the answer is CLAMPED with both figures and the compartment is marked AMENDED: a started one is
driven to close, a HALTED one is DONE at once, its results judged and its injectors released, and closes the load where it was the
last. A compartment in CLOSING or DONE is refused with STATE. -/
def Obligations.PresetAmended : Prop :=
  ∀ (g : Byte) (body tail : List Byte) (number compartment preset : Nat) (s : State), s.phase = .running →
    let w : Win := ⟨.tp, g, body, tail⟩
    let refused (status : Status) : Prop :=
      exec (.orderAmend w number compartment preset) s = .next ((s.seen .orderAmend w).answered w status .none)
    (preset < 1 ∨ 50000 < preset → refused .badArgument)
    ∧ (1 ≤ preset → preset ≤ 50000 →
      ((∀ o ∈ s.orders, o.number ≠ number) → (∀ l, s.load = some l → l.number ≠ number) → refused .notFound)
      ∧ (∀ o : Order, s.orders.find? (fun x => x.number == number) = some o →
        ((∀ l ∈ o.lines, l.compartment ≠ compartment) → refused .notFound)
        ∧ (∀ l ∈ o.lines, l.compartment = compartment →
          exec (.orderAmend w number compartment preset) s
            = .next (State.answered w .ok .none { s.seen .orderAmend w with
                orders := s.orders.map fun x =>
                  if x.number = number then
                    { x with lines := x.lines.map fun y => if y.compartment = compartment then { y with preset } else y }
                  else x })))
      ∧ ∀ l : LoadRecord, s.load = some l → l.number = number → (∀ o ∈ s.orders, o.number ≠ number) →
        ((∀ c ∈ l.comps, c.line.compartment ≠ compartment) → refused .notFound)
        ∧ ∀ c : CompRecord, l.comps.find? (fun x => x.line.compartment == compartment) = some c →
          let ant := s.arms[c.line.arm].config.ant
          let replaced : Prop := exec (.orderAmend w number compartment preset) s
            = .next ((((s.seen .orderAmend w).modifyComp compartment fun x =>
                { x with line := { x.line with preset } }).imagePoint).answered w .ok .none)
          (c.state = .pending → replaced)
          ∧ (c.state = .starting ∨ c.state = .lowStart ∨ c.state = .full ∨ c.state = .slowdown ∨ c.state = .halted →
            c.delivered + ant < preset * 1000 → replaced)
          ∧ (c.state = .starting ∨ c.state = .lowStart ∨ c.state = .full ∨ c.state = .slowdown →
            preset * 1000 ≤ c.delivered + ant →
            exec (.orderAmend w number compartment preset) s
              = .next ((((s.seen .orderAmend w).modifyComp compartment fun x =>
                  { x with line := { x.line with preset }, flags := { x.flags with amended := true } }).driveClose compartment
                    .amend).answered w .clamped (.amendJudged c.delivered ant)))
          ∧ (c.state = .halted → preset * 1000 ≤ c.delivered + ant →
            ∃ (t : State) (u : LoadRecord) (c' : CompRecord),
              exec (.orderAmend w number compartment preset) s
                = .next (State.answered w .clamped (.amendJudged c.delivered ant) t)
              ∧ t.load = some u ∧ u.comps.find? (fun x => x.line.compartment == compartment) = some c'
              ∧ c' = { c with
                  state := .done, line := { c.line with preset }, flags := { c.flags with amended := true }
                  additives := c'.additives }
              ∧ s.ResultsAtDone c c' ∧ s.InjectorsAtDone compartment t
              ∧ (∀ x ∈ l.comps, x.line.compartment ≠ compartment → x ∈ u.comps)
              ∧ ((∀ x ∈ l.comps, x.line.compartment ≠ compartment → x.state = .done) → u.state = .closing
                ∧ u.closeTime.isSome = true)
              ∧ ((∃ x ∈ l.comps, x.line.compartment ≠ compartment ∧ x.state ≠ .done) → u.closeTime = l.closeTime)
              ∧ t.meters = s.meters ∧ t.arms = s.arms ∧ t.orders = s.orders)
          ∧ (c.state = .closing ∨ c.state = .done → refused .state))

/-! ### The permit unit -/

/-- PERMIT-PUT is refused with BAD_ARGUMENT for a field out of its range (a number that no field could carry among them, assumption
log 29), with FULL for a card that a table of 64 entries does not hold, and with BUSY with no place in the write queue. Otherwise a
card not in the table is added, not in use and with no pending action; an entry not in use is replaced at once; an entry in use
keeps its content and takes the one given as its pending REPLACE. Each queues one permit record of the card and is answered
ACCEPTED. -/
def Obligations.PermitPutAccepted : Prop :=
  ∀ (g : Byte) (body tail : List Byte) (arg : PermitArg) (s : State), s.phase = .running →
    let w : Win := ⟨.tp, g, body, tail⟩
    let v := s.seen .permitPut w
    let bad : Prop := arg.card = 0 ∨ 2 ^ 32 ≤ arg.card ∨ arg.carrier = some 0 ∨ (∃ k, arg.carrier = some k ∧ 65535 < k)
      ∨ 65535 < arg.expiry ∨ 255 < arg.loads ∨ 1 < arg.state
    let refused (status : Status) : Prop := exec (.permitPut w arg) s = .next (v.answered w status .none)
    (bad → refused .badArgument)
    ∧ (¬ bad → (∀ e ∈ s.permits, e.content.card ≠ arg.card) → 64 ≤ s.permits.length → refused .full)
    ∧ (¬ bad → (∃ e ∈ s.permits, e.content.card = arg.card) ∨ s.permits.length < 64 → 8 ≤ s.queue.length → refused .busy)
    ∧ ∀ c : PermitContent, ¬ bad → s.queue.length < 8 →
      arg = ⟨c.card, c.carrier, c.quals, c.expiry, c.loads, if c.state = .active then 0 else 1⟩ →
      ((∀ e ∈ s.permits, e.content.card ≠ c.card) → s.permits.length < 64 →
        exec (.permitPut w arg) s
          = .next (State.answered w .accepted .none { v with
              permits := s.permits ++ [⟨c, false, .none⟩]
              queue := s.queue ++ [.permit c.card (some ⟨c, false, .none⟩) true] }))
      ∧ (∀ e, s.permits.find? (fun x => x.content.card == c.card) = some e → e.inUse = false →
        exec (.permitPut w arg) s
          = .next (State.answered w .accepted .none { v with
              permits := s.permits.map fun x => if x.content.card = c.card then ⟨c, false, .none⟩ else x
              queue := s.queue ++ [.permit c.card (some ⟨c, false, .none⟩) true] }))
      ∧ ∀ e, s.permits.find? (fun x => x.content.card == c.card) = some e → e.inUse = true →
        exec (.permitPut w arg) s
          = .next (State.answered w .accepted .none { v with
              permits := s.permits.map fun x =>
                if x.content.card = e.content.card then { e with action := .replace c } else x
              queue := s.queue ++ [.permit e.content.card (some { e with action := .replace c }) true] })

/-- PERMIT-DELETE of an entry not in use removes it at once and drops the context of its card, while the context of another
card stays; of an entry in use it becomes the pending DELETE. PERMIT-BLOCK and PERMIT-UNBLOCK set the entry's state, in use or
not. An unknown card is refused with NOT_FOUND, and a known one with BUSY with no place in the write queue. -/
def Obligations.PermitChangesAccepted : Prop :=
  ∀ (g : Byte) (body tail : List Byte) (card : Nat) (s : State), s.phase = .running →
    let w : Win := ⟨.tp, g, body, tail⟩
    let v (c : ReqCode) := s.seen c w
    ((∀ e ∈ s.permits, e.content.card ≠ card) →
      exec (.permitDelete w card) s = .next ((v .permitDelete).answered w .notFound .none)
        ∧ exec (.permitBlock w card) s = .next ((v .permitBlock).answered w .notFound .none)
        ∧ exec (.permitUnblock w card) s = .next ((v .permitUnblock).answered w .notFound .none)
        ∧ exec (.permitRead w card) s = .next ((v .permitRead).answered w .notFound .none))
    ∧ (∀ e, s.permits.find? (fun x => x.content.card == card) = some e → 8 ≤ s.queue.length →
      exec (.permitDelete w card) s = .next ((v .permitDelete).answered w .busy .none)
        ∧ exec (.permitBlock w card) s = .next ((v .permitBlock).answered w .busy .none)
        ∧ exec (.permitUnblock w card) s = .next ((v .permitUnblock).answered w .busy .none))
    ∧ ∀ e, s.permits.find? (fun x => x.content.card == card) = some e → s.queue.length < 8 →
      (e.inUse = false → (∀ x, s.context = some x → x.card ≠ card) →
        exec (.permitDelete w card) s
          = .next (State.answered w .accepted .none { (v .permitDelete) with
              permits := s.permits.filter fun x => x.content.card != card
              queue := s.queue ++ [.permit card none true] }))
      ∧ (∀ x, e.inUse = false → s.context = some x → x.card = card →
        exec (.permitDelete w card) s
          = .next (State.answered w .accepted .none (State.post .authDropped .reason Reason.deleted.number (w32 card)
            { (v .permitDelete) with
              permits := s.permits.filter fun x => x.content.card != card
              queue := s.queue ++ [.permit card none true]
              context := none })))
      ∧ (e.inUse = true →
        exec (.permitDelete w card) s
          = .next (State.answered w .accepted .none { (v .permitDelete) with
              permits := s.permits.map fun x =>
                if x.content.card = e.content.card then { e with action := .delete } else x
              queue := s.queue ++ [.permit e.content.card (some { e with action := .delete }) true] }))
      ∧ exec (.permitBlock w card) s
        = .next (State.answered w .accepted .none { (v .permitBlock) with
            permits := s.permits.map fun x =>
              if x.content.card = e.content.card then { e with content := { e.content with state := .blocked } } else x
            queue := s.queue
              ++ [.permit e.content.card (some { e with content := { e.content with state := .blocked } }) true] })
      ∧ exec (.permitUnblock w card) s
        = .next (State.answered w .accepted .none { (v .permitUnblock) with
            permits := s.permits.map fun x =>
              if x.content.card = e.content.card then { e with content := { e.content with state := .active } } else x
            queue := s.queue
              ++ [.permit e.content.card (some { e with content := { e.content with state := .active } }) true] })

/-- TIME-SET replaces both fields of the clock and marks it set, and is refused for a second of day past 86399 or a day number
past its range (that the day's range is checked too is assumption log 29); CARE-MASK-SET replaces the care mask and returns it; each
second advances the clock, the second of day rolling over at 86399 into a day number that stops at 65535. That the clock
advances in POWER_DOWN too is the model's inference (assumption log 23). -/
def Obligations.ClockAndCareMask : Prop :=
  ∀ (g : Byte) (body tail : List Byte) (s : State),
    let w : Win := ⟨.tp, g, body, tail⟩
    (∀ day second, s.phase = .running → day ≤ 65535 → second ≤ 86399 →
      exec (.timeSet w day second) s
        = .next (State.answered w .ok .none { s.seen .timeSet w with clock := ⟨day, second, true⟩ }))
    ∧ (∀ day second, s.phase = .running → 86399 < second ∨ 65535 < day →
      exec (.timeSet w day second) s = .next ((s.seen .timeSet w).answered w .badArgument .none))
    ∧ (∀ m, s.phase = .running →
      exec (.careMaskSet w m) s = .next (State.answered w .ok (.quals m) { s.seen .careMaskSet w with careMask := m }))
    ∧ (s.phase ≠ .held → s.clock.second < 86399 →
      exec .bayClockSecond s = .next { s with clock := { s.clock with second := s.clock.second + 1 } })
    ∧ (s.phase ≠ .held → s.clock.second = 86399 → s.clock.day < 65535 →
      exec .bayClockSecond s = .next { s with clock := { s.clock with second := 0, day := s.clock.day + 1 } })
    ∧ (s.phase ≠ .held → s.clock.second = 86399 → s.clock.day = 65535 →
      exec .bayClockSecond s = .next { s with clock := { s.clock with second := 0 } })

/-- CARD-PRESENT whose nine checks pass creates the context with the eligible orders and a timer of 120 s, posts
AUTH_GRANTED, and is answered OK with the count and the permit's carrier. -/
def Obligations.CardGranted : Prop :=
  ∀ (g : Byte) (body tail : List Byte) (e : PermitEntry) (s : State), s.phase = .running → s.clock.isSet = true → s.load = none →
    s.context = none → s.safety.esdLatch = false →
    s.permits.find? (fun x => x.content.card == e.content.card) = some e → e.content.state = .active →
    s.clock.day ≤ e.content.expiry → 0 < e.content.loads → (∃ i : Fin 8, s.slots[i].state = .free) →
    s.serial < 4294967295 →
    (∃ o ∈ s.orders, o.binding = none ∨ o.binding = some e.content.card) →
    let w : Win := ⟨.pp, g, body, tail⟩
    let list := (s.orders.filter fun o => o.binding == none || o.binding == some e.content.card).map Order.number
    exec (.cardPresent w e.content.card) s
      = .next (State.answered w .ok (.granted list.length e.content.carrier)
        (State.post .authGranted .none 0 (w32 e.content.card)
          { s.seen .cardPresent w with context := some ⟨e.content.card, list, some 120000⟩ }))

/-- CARD-PRESENT is denied for the first check that fails, in the order of the table: the reason goes to AUTH_DENIED and to
the answer, and nothing else changes. At a serial counter of 4294967295 no slot counts as FREE, whatever the slot states. -/
def Obligations.CardDeniedInOrder : Prop :=
  ∀ (g : Byte) (body tail : List Byte) (card : Nat) (s : State), s.phase = .running →
    let w : Win := ⟨.pp, g, body, tail⟩
    let denied (status : Status) (r : Reason) : Prop := exec (.cardPresent w card) s
      = .next (((s.seen .cardPresent w).post .authDenied .reason r.number (w32 card)).answered w status (.reason r))
    (s.clock.isSet = false → denied .timeNotSet .timeNotSet)
    ∧ (s.clock.isSet = true → (s.load.isSome = true ∨ s.context.isSome = true) → denied .bayBusy .bayBusy)
    ∧ (s.clock.isSet = true → s.load = none → s.context = none →
      (s.safety.esdLatch = true → denied .state .esd)
      ∧ (s.safety.esdLatch = false →
        ((∀ e ∈ s.permits, e.content.card ≠ card) → denied .notFound .unknown)
        ∧ ∀ e, s.permits.find? (fun x => x.content.card == card) = some e →
          (e.content.state = .blocked → denied .blocked .blocked)
          ∧ (e.content.state = .active → e.content.expiry < s.clock.day → denied .state .expired)
          ∧ (e.content.state = .active → s.clock.day ≤ e.content.expiry → e.content.loads = 0 → denied .state .noLoads)
          ∧ (e.content.state = .active → s.clock.day ≤ e.content.expiry → 0 < e.content.loads →
            ((∀ i : Fin 8, s.slots[i].state ≠ .free) ∨ s.serial = 4294967295 → denied .full .notesFull)
            ∧ ((∃ i : Fin 8, s.slots[i].state = .free) → s.serial < 4294967295 →
              (∀ o ∈ s.orders, o.binding ≠ none ∧ o.binding ≠ some card) → denied .notFound .noOrder))))

/-- CARD-WITHDRAW ends a standing context and posts AUTH_DROPPED with WITHDRAWN; so does the context timer, with TIMEOUT, once its
time has run out, and not before. With no context CARD-WITHDRAW is refused with STATE. -/
def Obligations.ContextEnds : Prop :=
  ∀ (g : Byte) (body tail : List Byte) (s : State), s.phase = .running →
    let w : Win := ⟨.pp, g, body, tail⟩
    (s.context = none → exec (.cardWithdraw w) s = .next ((s.seen .cardWithdraw w).answered w .state .none))
    ∧ ∀ x, s.context = some x →
      exec (.cardWithdraw w) s
        = .next (State.answered w .ok .none (State.post .authDropped .reason Reason.withdrawn.number (w32 x.card)
          { s.seen .cardWithdraw w with context := none }))
      ∧ (x.timer = some 0 → exec .contextTimerExpiry s
        = .next (State.post .authDropped .reason Reason.timeout.number (w32 x.card) { s with context := none }))
      ∧ (x.timer ≠ some 0 → exec .contextTimerExpiry s = .next s)

/-- ORDER-SELECT is refused in the order of its rule: STATE with no context, NOT_FOUND for a number off the eligible list; BLOCKED,
or STATE with EXPIRED or NO_LOADS, where the permit has come to fail, each with its reason, the context dropped and told by
AUTH_DROPPED; QUALIFICATION with the set of those missing; BUSY with no place in the write queue. One that passes opens the load: the
record is created from the order, the permit's entry and the causes that stand, the permit is in use with its record queued ahead
of the opening image, the context ends, the order leaves the queue, the lowest FREE slot is RESERVED, the deadman stands at its
start, and LOAD_OPENED and LOAD_STATE are posted. -/
def Obligations.SelectionOpensLoad : Prop :=
  (∀ (g : Byte) (body tail : List Byte) (number : Nat) (s : State), s.phase = .running →
    let w : Win := ⟨.pp, g, body, tail⟩
    let refused (status : Status) (payload : Payload) : Prop :=
      exec (.orderSelect w number) s = .next ((s.seen .orderSelect w).answered w status payload)
    (s.context = none → refused .state .none)
    ∧ ∀ x, s.context = some x →
      (number ∉ x.eligible → refused .notFound .none)
      ∧ ∀ e o, number ∈ x.eligible → s.permits.find? (fun y => y.content.card == x.card) = some e →
        s.orders.find? (fun y => y.number == number) = some o →
        let dropped (status : Status) (r : Reason) : Prop := exec (.orderSelect w number) s
          = .next (State.answered w status (.reason r) (State.post .authDropped .reason r.number (w32 x.card)
            { s.seen .orderSelect w with context := none }))
        let lacking (q : Nat) : Prop := (∃ l ∈ o.lines, s.products[l.product].required.getLsbD q = true)
          ∧ s.careMask.getLsbD q = true ∧ e.content.quals.getLsbD q = false
        (e.content.state = .blocked → dropped .blocked .blocked)
        ∧ (e.content.state = .active → e.content.expiry < s.clock.day → dropped .state .expired)
        ∧ (e.content.state = .active → s.clock.day ≤ e.content.expiry → e.content.loads = 0 → dropped .state .noLoads)
        ∧ (e.content.state = .active → s.clock.day ≤ e.content.expiry → 0 < e.content.loads →
          (∀ missing : QualSet, missing ≠ 0#16 → (∀ q : Fin 16, missing.getLsbD q.val = true ↔ lacking q.val) →
            refused .qualification (.quals missing))
          ∧ ((∀ q : Fin 16, ¬ lacking q.val) → 8 ≤ s.queue.length → refused .busy .none)))
  ∧ ∀ (g : Byte) (body tail : List Byte) (x : Context) (e : PermitEntry) (o : Order) (slot : Fin 8) (s : State), s.phase = .running →
    s.context = some x → o.number ∈ x.eligible → s.permits.find? (fun y => y.content.card == x.card) = some e →
    s.orders.find? (fun y => y.number == o.number) = some o → e.content.state = .active →
    s.clock.day ≤ e.content.expiry → 0 < e.content.loads →
    (∀ q : Fin 16, (∃ l ∈ o.lines, s.products[l.product].required.getLsbD q.val = true) →
      s.careMask.getLsbD q.val = true → e.content.quals.getLsbD q.val = true) →
    s.queue.length < 8 → s.slots[slot].state = .free → (∀ i : Fin 8, i < slot → s.slots[i].state ≠ .free) →
    (∀ r ∈ s.queue, r.isImage = false) → (∀ r ∈ s.backlog, r.isImage = false) →
    let w : Win := ⟨.pp, g, body, tail⟩
    ∃ t u, exec (.orderSelect w o.number) s = .next (State.answered w .ok (.selected o.number slot) t) ∧ t.load = some u
      ∧ u.card = x.card ∧ u.carrier = o.carrier.or e.content.carrier ∧ u.number = o.number ∧ u.slot = slot
      ∧ u.comps.map CompRecord.line = o.lines
      ∧ (∀ c ∈ u.comps, c.state = .pending ∧ c.gross = 0 ∧ c.net = 0 ∧ c.additives = [] ∧ c.closeReason = none)
      ∧ u.openTime = ⟨s.clock.day, s.clock.second⟩ ∧ u.closeTime = none ∧ u.cecAtOpen = s.cal.cec
      ∧ u.causes = ⟨s.safety.esdLatch, !s.safety.effective.isFull, false, s.safety.stopAllLatch, false⟩
      ∧ (u.state = if u.causes.isEmpty then .opened else .suspended)
      ∧ t.permits = s.permits.map (fun y => if y.content.card = x.card then { e with inUse := true } else y)
      ∧ t.queue = s.queue ++ .permit x.card (some { e with inUse := true }) false
        :: (if s.queue.length < 7 then [.image u] else [])
      ∧ t.imageOwed = decide (s.queue.length = 7) ∧ t.context = none
      ∧ t.orders = s.orders.filter (fun y => y.number != o.number) ∧ t.slots[slot].state = .reserved
      ∧ (∀ i : Fin 8, i ≠ slot → t.slots[i] = s.slots[i])
      ∧ t.safety.timer = s.safety.period * 1000 ∧ t.safety.armed = false ∧ t.safety.stage = .normal
      ∧ t.safety.horn = false ∧ t.meters = s.meters ∧ t.arms = s.arms ∧ t.cal = s.cal
      ∧ t.ports = ((s.seen .orderSelect w).ports.offer ⟨.loadOpened, .noteSlot, slot.val, w32 o.number, s.clock.second⟩).offer
        ⟨.loadState, .none, 0, if u.causes.isEmpty then 0 else 2, s.clock.second⟩

/-! ### The open load -/

/-- COMPARTMENT-START of a PENDING or HALTED compartment that no check refuses: the opening totalizers are taken if absent, a
PENDING one has the components of its recipe bound to IDLE injectors, the close reason goes, the load is ACTIVE, and the arm
takes the compartment. With no pump it opens its trim valve at once. On a pump that runs, because it was RUNNING, is taken back from
RUN_ON, or was STOPPED and has its feedback on as it starts, it waits the settle time in PRIMING, and opens its trim valve at once
where that is 0. It waits without a timer on a STARTING pump, on a STOPPED one, which it starts, and on one that an ESD latch keeps
STOPPED; a FAILED pump has the compartment driven to close with PUMP. -/
def Obligations.CompartmentStarts : Prop :=
  ∀ (g : Byte) (body tail : List Byte) (c : CompRecord) (cs : List Component) (before after : List CompRecord) (l : LoadRecord)
    (s : State), s.phase = .running → s.load = some l → l.state ≠ .closing → l.causes.isEmpty = true →
    l.comps = before ++ c :: after → (l.comps.map fun x => x.line.compartment).Nodup →
    (∀ x ∈ before, x.line.arm = c.line.arm → x.state = .done) →
    s.arms[c.line.arm].blocked = false → s.arms[c.line.arm].state = .idle →
    (∀ p : Fin 4, s.pumps[p].demand = s.demandCount p) → (cs.map Component.additive).Nodup →
    let n := c.line.compartment
    let a := c.line.arm
    let w : Win := ⟨.pp, g, body, tail⟩
    let found (x : Component) : Option (Fin 8) := [0, 1, 2, 3, 4, 5, 6, 7].find? fun j : Fin 8 =>
      s.injectors[j].assign.arm == some a && s.injectors[j].assign.additive == x.additive && s.injectors[j].state == .idle
    (c.state = .pending ∧ c.additives = []
        ∧ (c.line.recipe = 0 ∧ cs = [] ∨ ∃ i : Fin 16, c.line.recipe = i.val + 1 ∧ cs = s.recipes[i].components)
        ∧ (∀ x ∈ cs, x.mandatory = true → found x ≠ none)
      ∨ c.state = .halted ∧ cs = []
        ∧ ∀ r ∈ c.additives, ∀ j : Fin 8, r.component.mandatory = true → r.injector = some j →
          s.injectors[j].state ≠ .fault) →
    let started (st : CompState) : List CompRecord := before ++ { c with
      state := st, closeReason := none, opening := some (c.opening.getD ⟨s.meters[a].gross, s.meters[a].net⟩)
      additives := c.additives ++ cs.zipIdx.map fun x =>
        ⟨x.2 + 1, c.line.recipe, x.1, found x.1, (found x.1).map fun j => s.cal.stroke[j], 0, 0, 0, 0, 0, none, none,
          .pending, (found x.1).isNone, false⟩ } :: after
    let taking (st : ArmState) (v : Valve) (settle : Timer) : Arm := { s.arms[a] with
      served := some n, state := st, valve := v, settleTimer := settle, closeTimer := none, zeroRun := 0
      learnable := false, faultDuringClose := false, hold := false }
    ∃ (t : State) (u : LoadRecord), exec (.compartmentStart w n) s = .next (State.answered w .ok .none t) ∧ t.load = some u
      ∧ u.state = .active ∧ u.causes = l.causes ∧ t.meters = s.meters ∧ t.safety = s.safety
      ∧ (∀ b : Fin 4, b ≠ a → t.arms[b] = s.arms[b])
      ∧ (∀ q : Fin 4, s.products[c.line.product].pump ≠ some q → t.pumps[q] = s.pumps[q])
      ∧ (∀ (x : Component × Nat) (j : Fin 8), x ∈ cs.zipIdx → found x.1 = some j →
        t.injectors[j] = { s.injectors[j] with state := .armed, binding := some ⟨n, x.2 + 1⟩, owed := 0 })
      ∧ (∀ j : Fin 8, (∀ x ∈ cs, found x ≠ some j) → s.injectors[j].state ≠ .stroking → t.injectors[j] = s.injectors[j])
      ∧ (s.products[c.line.product].pump = none → u.comps = started .lowStart ∧ t.arms[a] = taking .low .low none)
      ∧ ∀ p : Fin 4, s.products[c.line.product].pump = some p →
        let x := s.pumps[p]
        let settling : Prop :=
          (x.config.settle = 0 → u.comps = started .lowStart ∧ t.arms[a] = taking .low .low none)
          ∧ (0 < x.config.settle →
            u.comps = started .starting ∧ t.arms[a] = taking .priming .closed (some (x.config.settle * 1000)))
        (x.state = .running → t.pumps[p] = { x with demand := x.demand + 1 } ∧ settling)
        ∧ (x.state = .runOn → x.demand = 0 →
          t.pumps[p] = { x with demand := 1, state := .running, timer := none } ∧ settling)
        ∧ (x.state = .stopped → x.demand = 0 → x.feedback = true → s.safety.esdLatch = false →
          t.pumps[p] = { x with demand := 1, state := .running, run := true, timer := none } ∧ settling)
        ∧ (x.state = .stopped → x.demand = 0 → s.safety.esdLatch = true →
          t.pumps[p] = { x with demand := 1 } ∧ u.comps = started .starting ∧ t.arms[a] = taking .priming .closed none)
        ∧ (x.state = .starting → t.pumps[p] = { x with demand := x.demand + 1 } ∧ u.comps = started .starting
          ∧ t.arms[a] = taking .priming .closed none)
        ∧ (x.state = .stopped → x.demand = 0 → x.feedback = false → s.safety.esdLatch = false →
          t.pumps[p] = { x with
              demand := 1, state := .starting, run := true, timer := some (x.config.startTimeout * 1000) }
            ∧ u.comps = started .starting ∧ t.arms[a] = taking .priming .closed none)
        ∧ (x.state = .failed → (∀ j : Fin 8, s.injectors[j].state ≠ .stroking) → t.pumps[p] = { x with demand := x.demand + 1 }
          ∧ u.comps = (started .closing).map (fun y =>
            if y.line.compartment = n then { y with closeReason := some (.halt .pump) } else y)
          ∧ t.arms[a] = { taking .closing .closed none with closeTimer := some (s.arms[a].config.closeTimeout * 1000) })

/-- COMPARTMENT-START is refused in the order of its rule: no load or a CLOSING one, no such line, a cause standing, a
compartment that is neither PENDING nor HALTED, a blocked arm, an arm that is not IDLE, an earlier line of the arm whose
compartment is not DONE, and last a mandatory component that finds no IDLE injector at the first start or whose injector is in
FAULT at a later one. -/
def Obligations.StartRefusedInOrder : Prop :=
  ∀ (g : Byte) (body tail : List Byte) (n : Nat) (s : State), s.phase = .running →
    let w : Win := ⟨.pp, g, body, tail⟩
    let refused (status : Status) : Prop :=
      exec (.compartmentStart w n) s = .next ((s.seen .compartmentStart w).answered w status .none)
    (s.load = none → refused .state)
    ∧ ∀ l, s.load = some l →
      (l.state = .closing → refused .state)
      ∧ (l.state ≠ .closing →
        ((∀ c ∈ l.comps, c.line.compartment ≠ n) → refused .notFound)
        ∧ ∀ before c after, l.comps = before ++ c :: after → c.line.compartment = n →
          (∀ x ∈ before, x.line.compartment ≠ n) →
          (l.causes.isEmpty = false → refused .suspended)
          ∧ (l.causes.isEmpty = true →
            (c.state ≠ .pending → c.state ≠ .halted → refused .state)
            ∧ (c.state = .pending ∨ c.state = .halted →
              (s.arms[c.line.arm].blocked = true → refused .blocked)
              ∧ (s.arms[c.line.arm].blocked = false → s.arms[c.line.arm].state ≠ .idle → refused .state)
              ∧ (s.arms[c.line.arm].blocked = false → s.arms[c.line.arm].state = .idle →
                ((∃ x ∈ before, x.line.arm = c.line.arm ∧ x.state ≠ .done) → refused .state)
                ∧ ((∀ x ∈ before, x.line.arm = c.line.arm → x.state = .done) →
                  (∀ (i : Fin 16) (x : Component), c.state = .pending → c.line.recipe = i.val + 1 →
                    x ∈ s.recipes[i].components → x.mandatory = true →
                    (∀ j : Fin 8, s.injectors[j].assign.arm = some c.line.arm →
                      s.injectors[j].assign.additive = x.additive → s.injectors[j].state ≠ .idle) →
                    refused .noInjector)
                  ∧ ∀ (r : ComponentResult) (j : Fin 8), c.state = .halted → r ∈ c.additives →
                    r.component.mandatory = true → r.injector = some j → s.injectors[j].state = .fault →
                    refused .noInjector)))))

/-- COMPARTMENT-STOP is refused with STATE where no load is open or the load is CLOSING, and with NOT_FOUND for a compartment
that no line names. It drives a compartment in STARTING, LOW_START, FULL or SLOWDOWN to close with halt cause DRIVER and is
answered OK; one in another state is refused with STATE. -/
def Obligations.StopDrivesCompartment : Prop :=
  ∀ (g : Byte) (body tail : List Byte) (n : Nat) (s : State), s.phase = .running →
    let w : Win := ⟨.pp, g, body, tail⟩
    let refused (status : Status) : Prop := exec (.compartmentStop w n) s = .next ((s.seen .compartmentStop w).answered w status .none)
    (s.load = none → refused .state)
    ∧ ∀ l, s.load = some l →
      (l.state = .closing → refused .state)
      ∧ (l.state ≠ .closing →
        ((∀ c ∈ l.comps, c.line.compartment ≠ n) → refused .notFound)
        ∧ ∀ c, l.comps.find? (fun x => x.line.compartment == n) = some c →
          (c.state = .starting ∨ c.state = .lowStart ∨ c.state = .full ∨ c.state = .slowdown →
            exec (.compartmentStop w n) s = .next (((s.seen .compartmentStop w).driveClose n (.halt .driver)).answered w .ok .none))
          ∧ (c.state = .pending ∨ c.state = .closing ∨ c.state = .halted ∨ c.state = .done → refused .state))

/-- A close drive that finds its compartment staging puts the compartment into CLOSING with the reason, its arm into
CLOSING with the valve closed, the settle timer and the hold gone, the close timer at its timeout and the no-flow count at
0, and posts COMPARTMENT_STATE. A stroke in flight for the compartment runs on, and the strokes owed behind it become skipped at
their components. Every other compartment, arm and injector, and every pump and meter, is left as it was; a drive that finds the
compartment elsewhere changes nothing. -/
def Obligations.CloseDriveClosesValve : Prop :=
  ∀ (r : CloseReason) (c : CompRecord) (l : LoadRecord) (s : State), s.load = some l →
    l.comps.find? (fun x => x.line.compartment == c.line.compartment) = some c →
    (c.state = .pending ∨ c.state = .closing ∨ c.state = .halted ∨ c.state = .done →
      s.driveClose c.line.compartment r = s)
    ∧ (c.state = .starting ∨ c.state = .lowStart ∨ c.state = .full ∨ c.state = .slowdown →
      s.arms[c.line.arm].state.isStaging = true →
      ∃ u, (s.driveClose c.line.compartment r).load = some u
        ∧ u.comps = l.comps.map (fun x =>
          if x.line.compartment = c.line.compartment then
            { x with
              state := .closing, closeReason := some r, additives := s.skipOwed c.line.compartment x.additives }
          else x)
        ∧ u.causes = l.causes
        ∧ (s.driveClose c.line.compartment r).arms
          = s.arms.set c.line.arm
            { s.arms[c.line.arm] with
              state := .closing, valve := .closed, settleTimer := none, hold := false
              closeTimer := some (s.arms[c.line.arm].config.closeTimeout * 1000), zeroRun := 0, learnable := false }
        ∧ (s.driveClose c.line.compartment r).pumps = s.pumps
        ∧ (s.driveClose c.line.compartment r).meters = s.meters
        ∧ (∀ j : Fin 8,
          ((∃ p, s.injectors[j].binding = some ⟨c.line.compartment, p⟩) → s.injectors[j].state = .stroking →
            (s.driveClose c.line.compartment r).injectors[j] = { s.injectors[j] with owed := 0 })
          ∧ ((∀ p, s.injectors[j].binding ≠ some ⟨c.line.compartment, p⟩) ∨ s.injectors[j].state ≠ .stroking →
            (s.driveClose c.line.compartment r).injectors[j] = s.injectors[j]))
        ∧ ∀ p : Port, p ≠ .sp → (s.ports.get p).events.length < 16 →
          ⟨.compartmentState, .compartment, c.line.compartment, w32 5, s.clock.second⟩
            ∈ ((s.driveClose c.line.compartment r).ports.get p).events)

/-- LOAD-FINISH is refused with STATE where no load is open, where it is CLOSING, and where a compartment is active. Otherwise
it makes every PENDING compartment DONE with NOT_LOADED and every HALTED one DONE with SHORT, judges their additives and
releases their injectors, puts the load into CLOSING, takes the close time, charges the permit with its pending action, composes
the note in the load's slot and is answered ACCEPTED. Where nothing waits, the close image, the charged permit record and the
commit record follow each other in the write queue; that one image, refreshed as the command goes on, is all that stands before
them beside a checkpoint rests on the model's choice that a write starts at the end of a command (assumption log 7). -/
def Obligations.FinishClosesLoad : Prop :=
  (∀ (g : Byte) (body tail : List Byte) (s : State), s.phase = .running →
    let w : Win := ⟨.pp, g, body, tail⟩
    (s.load = none ∨ (∃ l, s.load = some l ∧ (l.state = .closing ∨ ∃ c ∈ l.comps, c.state.isActive = true)) →
      exec (.loadFinish w) s = .next ((s.seen .loadFinish w).answered w .state .none)))
  ∧ ∀ (g : Byte) (body tail : List Byte) (l : LoadRecord) (s : State), s.phase = .running → s.load = some l → l.state ≠ .closing →
    (∀ c ∈ l.comps, c.state = .pending ∨ c.state = .halted ∨ c.state = .done) →
    (l.comps.map fun c => c.line.compartment).Nodup →
    let w : Win := ⟨.pp, g, body, tail⟩
    ∃ (t : State) (u : LoadRecord), exec (.loadFinish w) s = .next (State.answered w .accepted .none t)
      ∧ t.load = some u ∧ u.state = .closing
      ∧ (∀ c ∈ u.comps, c.state = .done)
      ∧ u.comps.map (fun c => (c.line, c.gross, c.net, c.opening, c.closing, c.haltCause))
        = l.comps.map (fun c => (c.line, c.gross, c.net, c.opening, c.closing, c.haltCause))
      ∧ u.comps.map (fun c => c.flags.notLoaded)
        = l.comps.map (fun c => c.flags.notLoaded || c.state == .pending)
      ∧ u.comps.map (fun c => c.flags.short) = l.comps.map (fun c => c.flags.short || c.state == .halted)
      ∧ (∀ c ∈ l.comps, c.state = .pending ∨ c.state = .halted →
        ∃ c' ∈ u.comps, c'.line = c.line ∧ s.ResultsAtDone c c')
      ∧ (∀ c ∈ l.comps, c.state = .done → c ∈ u.comps)
      ∧ (∀ (j : Fin 8) (p : Nat), ∀ c ∈ l.comps, c.state ≠ .done → s.injectors[j].binding = some ⟨c.line.compartment, p⟩ →
        s.injectors[j].ReleasedTo t.injectors[j])
      ∧ (∀ j : Fin 8, (∀ p : Nat, ∀ c ∈ l.comps, c.state ≠ .done → s.injectors[j].binding ≠ some ⟨c.line.compartment, p⟩) →
        t.injectors[j] = s.injectors[j])
      ∧ t.meters = s.meters ∧ t.pumps = s.pumps ∧ t.arms = s.arms
      ∧ t.safety = { s.safety with stage := .normal, horn := false, timer := s.safety.period * 1000 }
      ∧ (l.closeTime = none →
        let stamp : Option Stamp := if s.clock.isSet then some ⟨s.clock.day, s.clock.second⟩ else none
        let gross := (u.comps.map CompRecord.gross).sum
        let additives : List NoteAdditive :=
          u.comps.flatMap fun c => c.additives.map fun r => ⟨c.line.compartment, r⟩
        let lines := u.comps.length + additives.length + 2
        let note : Note :=
          { header := ⟨if gross = 0 then .void
                else if u.comps.all (fun c => !c.flags.notLoaded && !c.flags.short) then .complete else .short,
              l.number, l.card, l.carrier, l.openTime, stamp, l.cecAtOpen, l.totalsUncertain, lines⟩
            comps := u.comps.zipIdx.map fun x =>
              ⟨x.2 + 1, x.1.line.compartment, x.1.line.arm, s.products[x.1.line.product].shortName, x.1.line.preset,
                x.1.line.basis, x.1.gross, x.1.net, x.1.average, x.1.maxFlow, x.1.opening, x.1.closing, x.1.flags,
                x.1.additives.any ComponentResult.markOut, x.1.additives.any ComponentResult.markSkipped, x.1.haltCause⟩
            additives
            trailer := ⟨gross, (u.comps.map CompRecord.net).sum, lines⟩ }
        let charged (e : PermitEntry) : Option PermitEntry :=
          match e.action with
          | .none => some ⟨{ e.content with
              loads := if 0 < gross ∧ e.content.loads ≠ 255 then e.content.loads - 1 else e.content.loads }, false, .none⟩
          | .replace c => some ⟨c, false, .none⟩
          | .delete => none
        u.closeTime = some (if s.clock.isSet then .taken ⟨s.clock.day, s.clock.second⟩ else .notSet)
        ∧ t.slots[l.slot].note = some note
        ∧ (t.slots[l.slot].state = .composing ∨ t.slots[l.slot].state = .committing)
        ∧ (∀ i : Fin 8, i ≠ l.slot → t.slots[i] = s.slots[i])
        ∧ ((∀ e ∈ s.permits, e.content.card = l.card → e.inUse = false) → t.permits = s.permits)
        ∧ ∀ e, s.permits.find? (fun x => x.content.card == l.card) = some e → e.inUse = true →
          t.permits = (match charged e with
            | some e' => s.permits.map fun x => if x.content.card = l.card then e' else x
            | none => s.permits.filter fun x => x.content.card != l.card)
          ∧ (s.queue = [] → s.writing = false → s.backlog = [] → s.chargeOwed = none → s.checkpointOwed = false →
            t.slots[l.slot].state = .committing
            ∧ ∃ q, t.queue = q ++ [.permit l.card (charged e) false, .commit l.slot note (s.serial + 1)]
              ∧ .image u ∈ q ∧ ∀ r ∈ q, r = .image u ∨ r = .checkpoint s.totals))

/-- LOAD-ABORT is refused with STATE where no load is open or it is CLOSING. Otherwise it puts the load into CLOSING at once and
is answered ACCEPTED; a compartment that was staging is in CLOSING with reason ABORT, its strokes in flight running on and those
owed behind them skipped, one already in CLOSING keeps its reason, and no compartment is left PENDING, HALTED or flowing. -/
def Obligations.AbortClosesLoad : Prop :=
  (∀ (g : Byte) (body tail : List Byte) (s : State), s.phase = .running →
    let w : Win := ⟨.tp, g, body, tail⟩
    (s.load = none ∨ (∃ l, s.load = some l ∧ l.state = .closing) →
      exec (.loadAbort w) s = .next ((s.seen .loadAbort w).answered w .state .none)))
  ∧ ∀ (g : Byte) (body tail : List Byte) (l : LoadRecord) (s : State), s.phase = .running → s.load = some l → l.state ≠ .closing →
    (l.comps.map fun c => c.line.compartment).Nodup →
    let w : Win := ⟨.tp, g, body, tail⟩
    ∃ t u, exec (.loadAbort w) s = .next (State.answered w .accepted .none t) ∧ t.load = some u ∧ u.state = .closing
      ∧ (∀ c ∈ u.comps, c.state = .closing ∨ c.state = .done)
      ∧ u.comps.map (fun c => (c.line.compartment, c.gross, c.net))
        = l.comps.map (fun c => (c.line.compartment, c.gross, c.net))
      ∧ (∀ c ∈ l.comps, c.state = .starting ∨ c.state = .lowStart ∨ c.state = .full ∨ c.state = .slowdown →
        s.drivenComp (.halt .abort) c ∈ u.comps
          ∧ (s.arms[c.line.arm].state.isStaging = true → t.arms[c.line.arm] = s.arms[c.line.arm].driven)
          ∧ ∀ (j : Fin 8) (p : Nat), s.injectors[j].binding = some ⟨c.line.compartment, p⟩ →
            t.injectors[j] = s.injectors[j].flowStopped)
      ∧ (∀ c ∈ l.comps, c.state = .closing → ∃ c' ∈ u.comps, c'.line = c.line ∧ c'.state = .closing
        ∧ c'.closeReason = c.closeReason ∧ c'.flags = c.flags)
      ∧ (∀ c ∈ l.comps, c.state = .pending ∨ c.state = .halted → ∃ c' ∈ u.comps, c'.line = c.line ∧ c'.state = .done
        ∧ c'.flags = { c.flags with notLoaded := c.flags.notLoaded || c.state == .pending
                                    short := c.flags.short || c.state == .halted })
      ∧ t.meters = s.meters ∧ t.pumps = s.pumps

/-- LOAD-RESUME removes POWER alone; CAUSE_CLEARED, the image point and the load state follow, in the order that the model infers
(assumption log 15). A load without POWER, and no load, are refused with STATE. -/
def Obligations.ResumeRemovesPower : Prop :=
  ∀ (g : Byte) (body tail : List Byte) (s : State), s.phase = .running →
    let w : Win := ⟨.pp, g, body, tail⟩
    (∀ l, s.load = some l → l.causes.power = true →
      exec (.loadResume w) s
        = .next ((((((s.seen .loadResume w).modifyLoad fun x => { x with causes := { x.causes with power := false } }).post
          .causeCleared .none 0 (w32 Cause.power.number)).imagePoint).evalLoad).answered w .ok .none))
    ∧ (∀ l, s.load = some l → l.causes.power = false →
      exec (.loadResume w) s = .next ((s.seen .loadResume w).answered w .state .none))
    ∧ (s.load = none → exec (.loadResume w) s = .next ((s.seen .loadResume w).answered w .state .none))

/-! ### Resets of the equipment -/

/-- ARM-CLEAR of IDLE arms and of FAULT arms with no compartment in CLOSING returns the FAULT arms to IDLE and zeroes every stray
volume of the mask; where an arm of the mask is neither it is refused with STATE and the mask of those arms, and it changes no arm. A
mask of an arm beyond A3 is out of range (the model's choice, assumption log 18). PUMP-RESET takes a FAILED pump with no demand to
STOPPED; INJECTOR-RESET takes an injector in FAULT to ARMED where its compartment is not DONE and otherwise to IDLE and unbound, and
is refused with STATE for one not in FAULT. METER-ERRORS returns the error counter and METER-CLEAR-DEBT the debt of an IDLE
arm's meter, as they stood, and set them to 0. Each of these four is refused with BAD_ARGUMENT for a number out of range. -/
def Obligations.EquipmentReset : Prop :=
  ∀ (g : Byte) (body tail : List Byte) (s : State), s.phase = .running →
    let w : Win := ⟨.tp, g, body, tail⟩
    let v (c : ReqCode) := s.seen c w
    (∀ m : ArmMask, 16 ≤ m.toNat → exec (.armClear w m) s = .next ((v .armClear).answered w .badArgument .none))
    ∧ (∀ n : Nat, 4 ≤ n →
      exec (.pumpReset w n) s = .next ((v .pumpReset).answered w .badArgument .none)
        ∧ exec (.meterErrors w n) s = .next ((v .meterErrors).answered w .badArgument .none)
        ∧ exec (.meterClearDebt w n) s = .next ((v .meterClearDebt).answered w .badArgument .none))
    ∧ (∀ n : Nat, 8 ≤ n → exec (.injectorReset w n) s = .next ((v .injectorReset).answered w .badArgument .none))
    ∧ (∀ m named : ArmMask, m.toNat < 16 → named ≠ 0#8 → named.toNat < 16 →
      (∀ a : Fin 4, named.getLsbD a.val = true ↔ m.getLsbD a.val = true
        ∧ (s.arms[a].state ≠ .idle ∧ s.arms[a].state ≠ .fault
          ∨ s.arms[a].state = .fault ∧ ∃ n l c, s.arms[a].served = some n ∧ s.load = some l
            ∧ l.comps.find? (fun x => x.line.compartment == n) = some c ∧ c.state = .closing)) →
      exec (.armClear w m) s = .next ((v .armClear).answered w .state (.arms named)))
    ∧ (∀ m : ArmMask, m.toNat < 16 →
      (∀ a : Fin 4, m.getLsbD a.val = true → s.arms[a].state = .idle ∨ s.arms[a].state = .fault) →
      (∀ (a : Fin 4) (n : Nat) (l : LoadRecord) (c : CompRecord), m.getLsbD a.val = true → s.arms[a].served = some n →
        s.load = some l → l.comps.find? (fun x => x.line.compartment == n) = some c → c.state ≠ .closing) →
      ∃ t : State, exec (.armClear w m) s = .next (State.answered w .ok .none t)
        ∧ (∀ a : Fin 4, t.arms[a] =
          if m.getLsbD a.val then
            { s.arms[a] with
              state := .idle, stray := 0
              faultCause := if s.arms[a].state = .fault then none else s.arms[a].faultCause }
          else s.arms[a])
        ∧ { t with arms := s.arms } = (v .armClear))
    ∧ (∀ p : Fin 4, s.pumps[p].state = .failed → s.pumps[p].demand = 0 →
      exec (.pumpReset w p.val) s
        = .next (State.answered w .ok .none { (v .pumpReset) with
            pumps := s.pumps.set p { s.pumps[p] with state := .stopped, failKind := none } }))
    ∧ (∀ p : Fin 4, s.pumps[p].state ≠ .failed ∨ 0 < s.pumps[p].demand →
      exec (.pumpReset w p.val) s = .next ((v .pumpReset).answered w .state .none))
    ∧ (∀ j : Fin 8, s.injectors[j].state ≠ .fault →
      exec (.injectorReset w j.val) s = .next ((v .injectorReset).answered w .state .none))
    ∧ (∀ j : Fin 8, s.injectors[j].state = .fault →
      (∀ b l c, s.injectors[j].binding = some b → s.load = some l →
        l.comps.find? (fun x => x.line.compartment == b.compartment) = some c → c.state = .done) →
      exec (.injectorReset w j.val) s
        = .next (State.answered w .ok .none { (v .injectorReset) with
            injectors := s.injectors.set j
              { s.injectors[j] with consecutive := 0, owed := 0, state := .idle, binding := none } }))
    ∧ (∀ (j : Fin 8) (b : Binding) (l : LoadRecord) (c : CompRecord), s.injectors[j].state = .fault →
      s.injectors[j].binding = some b → s.load = some l →
      l.comps.find? (fun x => x.line.compartment == b.compartment) = some c → c.state ≠ .done →
      exec (.injectorReset w j.val) s
        = .next (State.answered w .ok .none { (v .injectorReset) with
            injectors := s.injectors.set j { s.injectors[j] with consecutive := 0, owed := 0, state := .armed } }))
    ∧ (∀ m : Fin 4, exec (.meterErrors w m.val) s
      = .next (State.answered w .ok (.meterErrors s.meters[m].errorCounter) { (v .meterErrors) with
          meters := s.meters.set m { s.meters[m] with errorCounter := 0 } }))
    ∧ (∀ m : Fin 4, s.arms[m].state = .idle →
      exec (.meterClearDebt w m.val) s
        = .next (State.answered w .ok (.debt s.meters[m].debt) { (v .meterClearDebt) with
            meters := s.meters.set m { s.meters[m] with debt := 0 } }))
    ∧ ∀ m : Fin 4, s.arms[m].state ≠ .idle →
      exec (.meterClearDebt w m.val) s = .next ((v .meterClearDebt).answered w .state .none)

/-! ### The safety unit -/

/-- A DEADMAN of a kind that is neither RELEASE nor PRESS is refused with BAD_ARGUMENT. A RELEASE arms the pointer; a PRESS
without it renews nothing; a PRESS after it puts stage, horn, pointer and timer back, clears every hold and takes DEADMAN out of
the load's causes, with CAUSE_CLEARED where it stood. A count that has reached 0 in stage NORMAL warns: horn on, pointer off,
the timer at W, every arm in FULL held at LOW. One that has reached 0 in stage WARNING drives every drivable compartment to
close with DEADMAN in the causes and posts CAUSE_RAISED. An expiry row with time left changes nothing. That CAUSE_RAISED is the
last event, and LOAD_STATE behind CAUSE_CLEARED, is the model's inference (assumption log 15). -/
def Obligations.DeadmanRenewsAndExpires : Prop :=
  ∀ (g : Byte) (body tail : List Byte) (s : State), s.phase = .running →
    let w : Win := ⟨.pp, g, body, tail⟩
    let v (c : ReqCode) := s.seen c w
    (∀ kind : Nat, 2 ≤ kind → exec (.deadman w kind) s = .next ((v .deadman).answered w .badArgument .none))
    ∧ exec (.deadman w 0) s
      = .next (State.answered w .ok (.deadman true s.safety.stage s.safety.timer)
        { (v .deadman) with safety := { s.safety with armed := true } })
    ∧ (s.safety.armed = false →
      exec (.deadman w 1) s = .next ((v .deadman).answered w .ok (.deadman false s.safety.stage s.safety.timer)))
    ∧ (s.safety.armed = true →
      ∃ t : State, exec (.deadman w 1) s
          = .next (State.answered w .ok (.deadman false .normal (s.safety.period * 1000)) t)
        ∧ t.safety = { s.safety with armed := false, stage := .normal, horn := false, timer := s.safety.period * 1000 }
        ∧ (∀ a : Fin 4, t.arms[a] = { s.arms[a] with hold := false })
        ∧ (∀ l, s.load = some l → (∃ u, t.load = some u ∧ u.causes = { l.causes with deadman := false } ∧ u.comps = l.comps)
          ∧ s.CauseJudged .deadman false l (v .deadman).ports t)
        ∧ (s.load = none → t.ports = (v .deadman).ports)
        ∧ t.pumps = s.pumps ∧ t.meters = s.meters ∧ t.injectors = s.injectors ∧ t.slots = s.slots ∧ t.audit = s.audit)
    ∧ (0 < s.safety.timer → exec .firstExpiry s = .next s ∧ exec .secondExpiry s = .next s)
    ∧ ∀ (l : LoadRecord), s.load = some l → (∃ c ∈ l.comps, c.state.isFlowing = true) → s.safety.timer = 0 →
      (s.safety.stage = .normal →
        ∃ t, exec .firstExpiry s = .next t
          ∧ t.safety = { s.safety with
              stage := .warning, horn := true, armed := false, timer := s.safety.warning * 1000 }
          ∧ (∀ a : Fin 4, t.arms[a] =
            if s.arms[a].state = .full then { s.arms[a] with hold := true, valve := .low } else s.arms[a])
          ∧ t.ports = s.ports.offer ⟨.deadmanWarning, .none, 0, w32 s.safety.warning, s.clock.second⟩
          ∧ { t with safety := s.safety, arms := s.arms, ports := s.ports } = s)
      ∧ (s.safety.stage = .warning → l.causes.deadman = false → (l.comps.map fun c => c.line.compartment).Nodup →
        ∃ t u, exec .secondExpiry s = .next t ∧ t.load = some u ∧ u.causes = { l.causes with deadman := true }
          ∧ t.safety = { s.safety with stage := .expired, timer := 0 }
          ∧ s.CauseRaised .deadman l s.ports t
          ∧ (∀ c ∈ u.comps, c.state.isDrivable = false)
          ∧ (∀ c ∈ l.comps, c.state.isDrivable = true →
            ∃ c' ∈ u.comps, c'.line = c.line ∧ c'.state = .closing ∧ c'.closeReason = some (.halt .deadman))
          ∧ t.pumps = s.pumps ∧ t.meters = s.meters)

/-- A report replaces the reported flags, clears stale, restarts the validity timer at 2 s and is answered with the flags as
they are then effective; when the timer's time has run out the flags go stale and the effective set is empty, and with time
left, or while it is stopped, nothing happens. A report that changes the effective set posts PERMISSIVE, and the expiry posts
PERMISSIVE_STALE and PERMISSIVE, each with the flags then effective. Either way PERMISSIVE stands in the causes of a load that
is not CLOSING exactly while the effective set is not full: where that raises it, every drivable compartment is driven to close
and CAUSE_RAISED is posted, and where that takes it out, CAUSE_CLEARED. A flag that is neither present nor absent is refused.
That CAUSE_RAISED is the last event, and LOAD_STATE behind CAUSE_CLEARED, is the model's inference (assumption log 15). -/
def Obligations.PermissivesJudged : Prop :=
  ∀ (g : Byte) (body tail : List Byte) (s : State), s.phase = .running →
    let w : Win := ⟨.sp, g, body, tail⟩
    let given (b : Bool) : FlagValue := if b then .present else .absent
    (∀ x y z : Bool,
      ∃ t : State, exec (.permissiveReport w (given x) (given y) (given z)) s
          = .next (State.answered w .ok (.permissives ⟨x, y, z⟩) t)
        ∧ t.safety = { s.safety with reported := ⟨x, y, z⟩, stale := false, validity := some 2000 }
        ∧ t.safety.effective = ⟨x, y, z⟩
        ∧ (∀ l, s.load = some l → l.state ≠ .closing → ∃ u, t.load = some u
          ∧ u.causes = { l.causes with permissive := !(x && y && z) } ∧ (x && y && z → u.comps = l.comps))
        ∧ (let v := s.seen .permissiveReport w
          let told := if s.safety.effective = ⟨x, y, z⟩ then v.ports
            else v.ports.offer ⟨.permissive, .none, 0, w32 (x.toNat + 2 * y.toNat + 4 * z.toNat), s.clock.second⟩
          (s.load = none → t.ports = told)
          ∧ ∀ l, s.load = some l → s.CauseJudged .permissive (l.state != .closing && !(x && y && z)) l told t)
        ∧ t.pumps = s.pumps ∧ t.meters = s.meters ∧ t.cal = s.cal ∧ t.orders = s.orders)
    ∧ (∀ y z, exec (.permissiveReport w .other y z) s = .next ((s.seen .permissiveReport w).answered w .badArgument .none)
      ∧ exec (.permissiveReport w y .other z) s = .next ((s.seen .permissiveReport w).answered w .badArgument .none)
      ∧ exec (.permissiveReport w y z .other) s = .next ((s.seen .permissiveReport w).answered w .badArgument .none))
    ∧ (s.safety.validity ≠ some 0 → exec .validityTimerExpiry s = .next s)
    ∧ (s.safety.validity = some 0 →
      ∃ t, exec .validityTimerExpiry s = .next t
        ∧ t.safety = { s.safety with stale := true, validity := none } ∧ t.safety.effective = ⟨false, false, false⟩
        ∧ (∀ l, s.load = some l → l.state ≠ .closing → ∃ u, t.load = some u
          ∧ u.causes = { l.causes with permissive := true })
        ∧ (let told := (s.ports.offer ⟨.permissiveStale, .none, 0, 0, s.clock.second⟩).offer
            ⟨.permissive, .none, 0, w32 8, s.clock.second⟩
          (s.load = none → t.ports = told)
          ∧ ∀ l, s.load = some l → s.CauseJudged .permissive (l.state != .closing) l told t)
        ∧ t.pumps = s.pumps ∧ t.meters = s.meters ∧ t.cal = s.cal ∧ t.orders = s.orders)

/-- STOP-ALL takes its bay form on an empty mask and on one that holds every busy arm: the latch is set and, with a load open
that does not hold it, STOP_ALL enters the causes, every drivable compartment is driven to close and CAUSE_RAISED is posted. A
mask that is not empty and leaves out a busy arm drives the compartments of its own busy arms with SAFETY, the strokes owed to
them skipped, and touches no other arm, no latch and no cause. RESUME takes back the latch and the cause, with CAUSE_CLEARED
where it stood. That CAUSE_RAISED is the last event, and LOAD_STATE behind CAUSE_CLEARED, is the model's inference (assumption
log 15). -/
def Obligations.StopAllAndResume : Prop :=
  ∀ (g : Byte) (body tail : List Byte) (s : State), s.phase = .running →
    let w : Win := ⟨.sp, g, body, tail⟩
    let v (c : ReqCode) := s.seen c w
    let busy (a : Fin 4) : Prop := ∃ n l c, s.arms[a].served = some n ∧ s.load = some l
      ∧ l.comps.find? (fun x => x.line.compartment == n) = some c ∧ c.state.isActive = true
    let bay (m : ArmMask) : Prop := m.toNat < 16 ∧ (m = 0#8 ∨ ∀ a : Fin 4, busy a → m.getLsbD a.val = true)
    (s.load = none →
      (∀ m : ArmMask, m.toNat < 16 → exec (.stopAll w m) s
        = .next (State.answered w .ok (.stopForm true) { (v .stopAll) with safety := { s.safety with stopAllLatch := true } }))
      ∧ (s.safety.stopAllLatch = true →
        exec (.resume w) s
          = .next (State.answered w .ok .none { (v .resume) with safety := { s.safety with stopAllLatch := false } })))
    ∧ (s.safety.stopAllLatch = false → exec (.resume w) s = .next ((v .resume).answered w .state .none))
    ∧ (∀ m : ArmMask, 16 ≤ m.toNat → exec (.stopAll w m) s = .next ((v .stopAll).answered w .badArgument .none))
    ∧ ∀ l, s.load = some l → (l.comps.map fun c => c.line.compartment).Nodup →
      (∀ m, bay m → l.causes.stopAll = true → exec (.stopAll w m) s
        = .next (State.answered w .ok (.stopForm true) { (v .stopAll) with safety := { s.safety with stopAllLatch := true } }))
      ∧ (∀ m, bay m → l.causes.stopAll = false →
        ∃ (t : State) (u : LoadRecord), exec (.stopAll w m) s = .next (State.answered w .ok (.stopForm true) t)
          ∧ t.load = some u ∧ u.causes = { l.causes with stopAll := true }
          ∧ s.CauseRaised .stopAll l (v .stopAll).ports t
          ∧ t.safety = { s.safety with stopAllLatch := true } ∧ (∀ c ∈ u.comps, c.state.isDrivable = false)
          ∧ (∀ c ∈ l.comps, c.state.isDrivable = true →
            ∃ c' ∈ u.comps, c'.line = c.line ∧ c'.state = .closing ∧ c'.closeReason = some (.halt .stopAll))
          ∧ t.pumps = s.pumps ∧ t.meters = s.meters)
      ∧ (s.safety.stopAllLatch = true →
        ∃ (t : State) (u : LoadRecord), exec (.resume w) s = .next (State.answered w .ok .none t) ∧ t.load = some u
          ∧ u.causes = { l.causes with stopAll := false } ∧ u.comps = l.comps
          ∧ s.CauseJudged .stopAll false l (v .resume).ports t
          ∧ t.safety = { s.safety with stopAllLatch := false } ∧ t.arms = s.arms ∧ t.pumps = s.pumps)
      ∧ ∀ (m : ArmMask) (b : Fin 4), m ≠ 0#8 → m.toNat < 16 → m.getLsbD b.val = false → busy b →
        (∀ (a : Fin 4) (x : CompRecord), x ∈ l.comps → s.arms[a].served = some x.line.compartment → x.line.arm = a) →
        ∃ (t : State) (u : LoadRecord), exec (.stopAll w m) s = .next (State.answered w .ok (.stopForm false) t)
          ∧ t.load = some u ∧ u.causes = l.causes ∧ t.safety = s.safety ∧ t.pumps = s.pumps
          ∧ (∀ a : Fin 4, m.getLsbD a.val = false → t.arms[a] = s.arms[a])
          ∧ ∀ x ∈ l.comps, m.getLsbD x.line.arm.val = true → s.arms[x.line.arm].served = some x.line.compartment →
            x.state.isDrivable = true →
            s.drivenComp (.halt .safety) x ∈ u.comps
              ∧ ∀ (j : Fin 8) (p : Nat), s.injectors[j].binding = some ⟨x.line.compartment, p⟩ →
                t.injectors[j] = s.injectors[j].flowStopped

/-- An assertion of the ESD input with the latch clear sets the latch in that event: every valve is CLOSED, every pump that runs
is STOPPED without run-on, every stroke is cut, and ESD enters the causes of a load with every drivable compartment driven,
CAUSE_RAISED and ESD being the last events posted; during start-up it does so too, without posting its own event or that of the
cause. An assertion with the latch already set changes no more than the level, and nothing is posted; the return of the input
changes no latch; and in POWER_DOWN the input sets none. ESD-RESET clears the latch and the cause once the input has returned,
starts again every STOPPED pump with demand, posts CAUSE_CLEARED where the cause stood and at its end ESD with value 1, and is
refused with STATE otherwise. The order of the events of one command, ESD behind those of the cause, is the model's inference
(assumption log 15). -/
def Obligations.EsdLatchedAndReset : Prop :=
  ∀ (g : Byte) (body tail : List Byte) (s : State),
    let w : Win := ⟨.sp, g, body, tail⟩
    (s.phase = .running ∨ s.phase = .startUp → s.safety.esdInput ≠ some true → s.safety.esdLatch = false →
      ∃ t, exec (.esdInputChange true) s = .next t
        ∧ t.safety = { s.safety with esdInput := some true, esdLatch := true }
        ∧ (∀ a : Fin 4, t.arms[a].valve = .closed ∧ t.arms[a].state.isStaging = false)
        ∧ (∀ p : Fin 4, t.pumps[p] =
          if s.pumps[p].state = .stopped ∨ s.pumps[p].state = .failed then s.pumps[p]
          else { s.pumps[p] with state := .stopped, run := false, timer := none })
        ∧ (∀ j : Fin 8, t.injectors[j].state ≠ .stroking
          ∧ (s.injectors[j].state = .stroking →
            t.injectors[j] = { s.injectors[j] with state := .armed, output := false, timer := none, owed := 0 })
          ∧ (s.injectors[j].state ≠ .stroking → t.injectors[j] = s.injectors[j]))
        ∧ (∀ l, s.load = some l → l.causes.esd = false → (l.comps.map fun c => c.line.compartment).Nodup →
          ∃ u, t.load = some u ∧ u.causes = { l.causes with esd := true } ∧ (∀ c ∈ u.comps, c.state.isDrivable = false)
            ∧ (∀ c ∈ l.comps, c.state.isDrivable = true →
              ∃ c' ∈ u.comps, c'.line = c.line ∧ c'.state = .closing ∧ c'.closeReason = some (.halt .esd))
            ∧ (s.phase = .running → ∃ q, s.ports.EndedBy ⟨.causeRaised, .none, 0, 0, s.clock.second⟩ q
              ∧ t.ports = q.offer ⟨.esd, .none, 0, 0, s.clock.second⟩))
        ∧ (s.phase = .running → s.load = none → t.ports = s.ports.offer ⟨.esd, .none, 0, 0, s.clock.second⟩)
        ∧ (s.phase = .startUp →
          (∀ l, s.load = some l → (l.state = .suspended ∨ l.state = .closing) ∧ ∀ c ∈ l.comps, c.state.isActive = false) →
          t.ports = s.ports)
        ∧ t.meters = s.meters ∧ t.orders = s.orders)
    ∧ (∀ on : Bool, s.phase = .running ∨ s.phase = .startUp → s.safety.esdLatch = true ∨ on = false →
      exec (.esdInputChange on) s
        = .next (State.startWrite { s with safety := { s.safety with esdInput := some on } }))
    ∧ (∀ on : Bool, s.phase = .powerDown →
      exec (.esdInputChange on) s = .next { s with safety := { s.safety with esdInput := some on } })
    ∧ (s.phase = .running → s.safety.esdLatch = false ∨ s.safety.esdInput = some true →
      exec (.esdReset w) s = .next ((s.seen .esdReset w).answered w .state .none))
    ∧ (s.phase = .running → s.safety.esdLatch = true → s.safety.esdInput ≠ some true →
      ∃ t : State, exec (.esdReset w) s = .next (State.answered w .ok .none t)
        ∧ t.safety = { s.safety with esdLatch := false }
        ∧ (∀ l, s.load = some l → ∃ u, t.load = some u ∧ u.causes = { l.causes with esd := false })
        ∧ (let v := s.seen .esdReset w
          let told := if s.load.any (fun l => l.causes.esd) then
              v.ports.offer ⟨.causeCleared, .none, 0, 0, s.clock.second⟩
            else v.ports
          told.EndedBy ⟨.esd, .none, 0, 1, s.clock.second⟩ t.ports)
        ∧ (∀ p : Fin 4, s.pumps[p].state = .stopped → 0 < s.pumps[p].demand → t.pumps[p].run = true)
        ∧ (∀ p : Fin 4, s.pumps[p].state ≠ .stopped ∨ s.pumps[p].demand = 0 → t.pumps[p] = s.pumps[p])
        ∧ t.meters = s.meters ∧ t.orders = s.orders)

/-! ### Delivery notes -/

/-- NOTE-PRINTED marks the STORED note that holds the serial; the expiry of its hold timer marks it too; a note with neither
mark is held for print and NOTE-RELEASE refuses it. A release frees the slot, queues one release record, loses every reader
of the note and posts NOTE_RELEASED; with a place lacking it is BUSY. A serial that no STORED note holds is NOT_FOUND. -/
def Obligations.NotesHeldAndReleased : Prop :=
  ∀ (g : Byte) (body tail : List Byte) (n : Nat) (s : State), s.phase = .running →
    let w : Win := ⟨.tp, g, body, tail⟩
    let p : Win := ⟨.pp, g, body, tail⟩
    let v (c : ReqCode) := s.seen c w
    ((∀ i : Fin 8, s.slots[i].state = .stored → s.slots[i].serial ≠ some n) →
      exec (.noteRelease w n) s = .next ((v .noteRelease).answered w .notFound .none)
        ∧ exec (.notePrinted p n) s = .next ((s.seen .notePrinted p).answered p .notFound .none))
    ∧ ∀ i : Fin 8, s.slots[i].state = .stored → s.slots[i].serial = some n →
      (∀ j : Fin 8, j < i → s.slots[j].state = .stored → s.slots[j].serial ≠ some n) →
      exec (.notePrinted p n) s
        = .next (State.answered p .ok .none { s.seen .notePrinted p with
            slots := (s.seen .notePrinted p).slots.set i { (s.seen .notePrinted p).slots[i] with printed := true } })
      ∧ (s.slots[i].printed = false → s.slots[i].holdExpired = false →
        exec (.noteRelease w n) s = .next ((v .noteRelease).answered w .heldForPrint .none))
      ∧ (s.slots[i].printed = true ∨ s.slots[i].holdExpired = true →
        (8 ≤ s.queue.length → exec (.noteRelease w n) s = .next ((v .noteRelease).answered w .busy .none))
        ∧ (s.queue.length < 8 →
          exec (.noteRelease w n) s
            = .next (State.answered w .ok .none (State.post .noteReleased .noteSlot i.val (w32 n) { (v .noteRelease) with
                slots := s.slots.set i ⟨.free, none, none, false, none, false⟩
                queue := s.queue ++ [.release i]
                tpReader := s.tpReader.map fun r => if r.serial = n then { r with lost := true } else r
                ppReader := s.ppReader.map fun r => if r.serial = n then { r with lost := true } else r }))))
      ∧ (s.slots[i].holdTimer ≠ some 0 → exec (.holdTimerExpiry i) s = .next s)
      ∧ (s.slots[i].holdTimer = some 0 →
        exec (.holdTimerExpiry i) s
          = .next { s with slots := s.slots.set i { s.slots[i] with holdTimer := none, holdExpired := true } })

/-- NOTE-OPEN from TP or PP is refused with NOT_FOUND for a serial that no STORED note holds, then with BAD_ARGUMENT for a
direction that is neither UP nor DOWN, then with BAD_ARGUMENT for a window outside the note; otherwise it replaces the port's
reader by one at the first line for UP and at the last for DOWN, its header owed, and leaves the other port's. NOTE-READ then
returns the header, and after it the line at the cursor, moving the cursor inside the window and marking the read that wraps it;
it is refused with STATE without a reader and with NOT_FOUND on a lost one. Every number below the line count names a line: 0 the
header, then the compartment lines, then the additive lines, and last the trailer. -/
def Obligations.NoteReaderWalks : Prop :=
  (∀ (n k : Nat) (m : Note), k < m.lineCount → ∃ line, m.line? n k = some line
    ∧ (k = 0 → line = .header n m.header)
    ∧ (∀ h : k - 1 < m.comps.length, 1 ≤ k → line = .comp m.comps[k - 1])
    ∧ (∀ h : k - 1 - m.comps.length < m.additives.length, m.comps.length < k →
      line = .additive m.additives[k - 1 - m.comps.length])
    ∧ (k + 1 = m.lineCount → line = .trailer m.trailer))
  ∧ ∀ (p : Port) (g : Byte) (body tail : List Byte) (n first last : Nat) (s : State), s.phase = .running → p ≠ .sp →
    let w : Win := ⟨p, g, body, tail⟩
    let v (c : ReqCode) := s.seen c w
    let reader : Option Reader := if p = .tp then s.tpReader else s.ppReader
    let reading (c : ReqCode) (r : Option Reader) : State :=
      if p = .tp then { (v c) with tpReader := r } else { (v c) with ppReader := r }
    ((∀ i : Fin 8, s.slots[i].state = .stored → s.slots[i].serial ≠ some n) → ∀ direction : Nat,
      exec (.noteOpen w n first last direction) s = .next ((v .noteOpen).answered w .notFound .none))
    ∧ (reader = none → exec (.noteRead w) s = .next ((v .noteRead).answered w .state .none))
    ∧ (∀ r, reader = some r → r.lost = true → exec (.noteRead w) s = .next ((v .noteRead).answered w .notFound .none))
    ∧ ∀ (i : Fin 8) (m : Note) (d : Direction), s.slots[i].state = .stored → s.slots[i].serial = some n →
      s.slots[i].note = some m → (∀ j : Fin 8, j < i → s.slots[j].state = .stored → s.slots[j].serial ≠ some n) →
      let up : Nat := if d = .up then 0 else 1
      let at? (cursor : Nat) (owed : Bool) : Option Reader := some ⟨n, first, last, d, cursor, owed, false⟩
      (∀ direction : Nat, 2 ≤ direction →
        exec (.noteOpen w n first last direction) s = .next ((v .noteOpen).answered w .badArgument .none))
      ∧ (last < first ∨ m.lineCount ≤ last →
        exec (.noteOpen w n first last up) s = .next ((v .noteOpen).answered w .badArgument .none))
      ∧ (first ≤ last → last < m.lineCount →
        exec (.noteOpen w n first last up) s
          = .next ((reading .noteOpen (at? (if d = .up then first else last) true)).answered w .ok
            (.noteOpened m.lineCount m.header.status)))
      ∧ (∀ cursor, reader = at? cursor true →
        exec (.noteRead w) s
          = .next ((reading .noteRead (at? cursor false)).answered w .ok (.noteLine 0 false (.header n m.header))))
      ∧ ∀ cursor line, reader = at? cursor false → m.line? n cursor = some line →
        exec (.noteRead w) s
          = .next ((reading .noteRead (at? (if d = .up then if last ≤ cursor then first else cursor + 1
              else if cursor ≤ first then last else cursor - 1) false)).answered w .ok
            (.noteLine cursor (if d = .up then decide (last ≤ cursor) else decide (cursor ≤ first)) line))

/-! ### Metering -/

/-- The decoder follows one input of a pulse pair from position to position: the forward count rises on the step from 3 to 0, the
backward count on the step from 0 to 3, and a sample in which both inputs changed counts an error and no pulse. A held part
and a stopped channel count nothing. -/
def Obligations.DecoderCountsPulses : Prop :=
  ∀ (m : Fin 4) (input : PulseInput) (s : State),
    (s.phase = .held ∨ s.meters[m].decoding = false →
      exec (.quadratureStep m input) s = .next s ∧ exec (.integrityError m) s = .next s)
    ∧ (s.phase ≠ .held → s.meters[m].decoding = true →
      let x := s.meters[m]
      (∃ p : Fin 4, p.val = (if input = .chA then x.position.val ^^^ 1 else 3 - x.position.val)
        ∧ exec (.quadratureStep m input) s
          = .next { s with meters := s.meters.set m { x with
              position := p
              forward := if input = .chB ∧ x.position = 3 then min 4095 (x.forward + 1) else x.forward
              backward := if input = .chB ∧ x.position = 0 then min 4095 (x.backward + 1) else x.backward } })
      ∧ ∃ p : Fin 4, p.val = (x.position.val + 2) % 4
        ∧ exec (.integrityError m) s
          = .next { s with meters := s.meters.set m { x with
              position := p, errors := min 4095 (x.errors + 1), errorCounter := min 65535 (x.errorCounter + 1) } })

/-- At the end of a poll slot of a running part an answer that is present, checks, names the channel asked and is marked valid gives the probe its
reading and clears the invalid run; any other answer keeps the held value and lengthens the run, and the tenth in a row posts
TEMP_FAULT. The next slot belongs to the next channel. Before the slot's end nothing happens. -/
def Obligations.PollSlotSamplesProbe : Prop :=
  (∀ (r : ConverterAnswer) (s : State), s.scanner.slotTimer ≠ some 0 → exec (.pollSlot r) s = .next s)
  ∧ ∀ (r : ConverterAnswer) (s : State), s.phase = .running → s.scanner.slotTimer = some 0 →
    let n := s.scanner.channel
    let good : Prop := r.status.getLsbD 7 = true ∧ r.status.getLsbD 6 = true ∧ r.status.toNat % 4 = n.val
      ∧ (r.status.toNat + r.tempHigh.toNat + r.tempLow.toNat + r.check.toNat) % 256 = 255
    let next : Scanner := ⟨n + 1, BitVec.ofNat 8 (n + 1).val, some 250⟩
    let run := min 255 (s.probes[n].invalidRun + 1)
    let missed : State := { s with probes := s.probes.set n { s.probes[n] with invalidRun := run }, scanner := next }
    (good →
      exec (.pollSlot r) s
        = .next { s with
            probes := s.probes.set n
              ⟨if r.tempHigh.toNat < 128 then r.tempHigh.toNat * 256 + r.tempLow.toNat
                else (r.tempHigh.toNat * 256 + r.tempLow.toNat : Int) - 65536, 0⟩
            scanner := next })
    ∧ (¬ good → s.probes[n].invalidRun ≠ 9 → exec (.pollSlot r) s = .next missed)
    ∧ (¬ good → s.probes[n].invalidRun = 9 →
      exec (.pollSlot r) s
        = .next (missed.post .tempFault .arm n.val (BitVec.ofInt 32 s.probes[n].held)))

/-- The arithmetic of a gate loses nothing and stays in its ranges: each division's quotient and remainder make up its dividend,
each remainder lies below its divisor, and the flow rate is capped at 60000. The factor is that of the curve at the flow rate: the
first point's below it, the last point's at or past it, and between two points the interpolation, truncated toward zero. The
correction is that of the temperature and coefficient, rounded to the nearest part per million, a half up. The factor stays within
the curve's range, the correction between 856480 and 1100320, the debt at or below 4095, and the learned anticipation at or below its
maximum. -/
def Obligations.GateArithmeticExact : Prop :=
  (∀ (x : Meter) (n k alpha : Nat) (c : Curve) (temp : Int), 0 < k → x.remI < k → x.remG < 100000 → x.remN < 1000000 →
    (c.first :: c.rest).Pairwise (fun p q => p.1 < q.1) → (∀ p ∈ c.first :: c.rest, 95000 ≤ p.2 ∧ p.2 ≤ 105000) →
    alpha ≤ 20000 → -4000 ≤ temp → temp ≤ 8000 →
    let r := x.gateFigures n k c temp alpha
    r.1.indicated * k + r.2.1 = n * 1000000 + x.remI ∧ r.2.1 < k
      ∧ r.1.flow = min (r.1.indicated * 6) 60000 ∧ 95000 ≤ r.1.factor ∧ r.1.factor ≤ 105000
      ∧ (r.1.flow < c.first.1 → r.1.factor = c.first.2)
      ∧ (∀ before p, c.first :: c.rest = before ++ [p] → p.1 ≤ r.1.flow → r.1.factor = p.2)
      ∧ (∀ before p q after, c.first :: c.rest = before ++ p :: q :: after → p.1 ≤ r.1.flow → r.1.flow < q.1 →
        (r.1.factor : Int)
          = p.2 + ((q.2 - p.2 : Int) * (r.1.flow - p.1 : Int)).tdiv (q.1 - p.1 : Int))
      ∧ (let x : Int := alpha * (temp - 1500)
        ∃ second : Nat, (second : Int) * 5000000000 ≤ 4 * x ^ 2 ∧ 4 * x ^ 2 < (second + 1 : Int) * 5000000000
          ∧ (r.1.vcf : Int) * 1000 ≤ 1000000000 - x - second + 500
          ∧ (1000000000 - x - second + 500 : Int) < (r.1.vcf + 1 : Int) * 1000)
      ∧ r.1.gross * 100000 + r.2.2.1 = r.1.indicated * r.1.factor + x.remG ∧ r.2.2.1 < 100000
      ∧ 856480 ≤ r.1.vcf ∧ r.1.vcf ≤ 1100320
      ∧ r.1.net * 1000000 + r.2.2.2 = r.1.gross * r.1.vcf + x.remN ∧ r.2.2.2 < 1000000)
  ∧ (∀ d b f : Nat, debtAfterB d b ≤ 4095
    ∧ (d + b ≤ 4095 → (f - min (debtAfterB d b) f) + d + b = f + (debtAfterB d b - min (debtAfterB d b) f)))
  ∧ ∀ (ant maxAnt : Nat) (overrun : Int), learnedAnt ant maxAnt overrun ≤ maxAnt

/-- A gate starts the next with its counts at 0, adds its backward pulses to the reverse debt and repays it from the forward
ones, adds its figures to the totalizers and keeps them as the last: for every arm state, and in POWER_DOWN as well as in a
running part. Its volume goes to the compartment that the arm serves, while it is active, and there to gross, net, the
temperature sums, the maximum flow and the flags REVERSE_FLOW, TEMP_HELD and TEMP_FAULT; else it goes to the arm's stray volume.
In POWER_DOWN the events are posted, but arm and injectors take no action and nothing joins the queue. In a running part
PROGRESS is the last event posted at each crossing of the progress interval, and a checkpoint stands in the queue, or is owed,
at each crossing of 500000 mL by the gross totalizer; where the arm has nothing to act on, nothing else changes but the
additives. Before a gate's time has run out nothing happens. No two arms serve one compartment in a lawful state. -/
def Obligations.GateRoutesItsVolume : Prop :=
  (∀ (m : Fin 4) (s : State), s.meters[m].gateTimer ≠ some 0 → exec (.gateExpiry m) s = .next s)
  ∧ (∀ s : State, s.FlowLawful → ∀ a b : Fin 4, b ≠ a → s.arms[b].served = none ∨ s.arms[b].served ≠ s.arms[a].served)
  ∧ ∀ (m : Fin 4) (s : State), s.phase = .running ∨ s.phase = .powerDown → s.meters[m].gateTimer = some 0 →
    (∀ b : Fin 4, b ≠ m → s.arms[b].served = none ∨ s.arms[b].served ≠ s.arms[m].served) →
    let x := s.meters[m]
    let arm := s.arms[m]
    let dest : Option CompRecord :=
      (s.load.bind fun l => l.comps.find? fun y => arm.served == some y.line.compartment).filter fun y => y.state.isActive
    let debt := min 4095 (x.debt + x.backward)
    let failed : Prop := 10 ≤ x.errors ∧ x.forward + x.backward < x.errors * 100
    let limit : Prop := debt = 4095 ∧ x.debt < 4095
    let f := x.gateFigures (x.forward - min debt x.forward) s.cal.meterK[m] s.cal.curve[m]
      (clampInt (-4000) 8000 (s.probes[m].held + s.cal.offset[m]))
      (match dest with
        | none => 0
        | some c => s.products[c.line.product].alpha)
    let metered : Meter := { x with
      forward := 0, backward := 0, errors := 0, gateTimer := some 100, debt := debt - min debt x.forward
      gross := min (2 ^ 64 - 1) (x.gross + f.1.gross), net := min (2 ^ 64 - 1) (x.net + f.1.net)
      remI := f.2.1, remG := f.2.2.1, remN := f.2.2.2, last := some f.1 }
    let filled (c : CompRecord) : CompRecord := { c with
      gross := min (2 ^ 32 - 1) (c.gross + f.1.gross), net := min (2 ^ 32 - 1) (c.net + f.1.net)
      sumGT := c.sumGT + f.1.gross * f.1.temp, sumG := c.sumG + f.1.gross, maxFlow := max c.maxFlow f.1.flow
      flags := { c.flags with
        reverseFlow := c.flags.reverseFlow || decide (0 < debt)
        tempHeld := c.flags.tempHeld || decide (0 < f.1.gross ∧ 0 < s.probes[m].invalidRun)
        tempFault := c.flags.tempFault || decide (0 < f.1.gross ∧ 10 ≤ s.probes[m].invalidRun) } }
    let stray := min (2 ^ 32 - 1) (arm.stray + f.1.gross)
    let alarms : Ports :=
      let q := if failed ∧ arm.state ≠ .fault then s.ports.offer ⟨.pulseFault, .arm, m.val, w32 x.errors, s.clock.second⟩
        else s.ports
      if limit then q.offer ⟨.reverseLimit, .arm, m.val, w32 4095, s.clock.second⟩ else q
    let told (c : CompRecord) (q : Ports) : Ports :=
      if c.gross / arm.config.progress < (filled c).gross / arm.config.progress then
        q.offer ⟨.progress, .compartment, c.line.compartment, w32 (filled c).gross, s.clock.second⟩
      else q
    let checkpointed (t : State) : Prop :=
      (x.gross / 500000 = t.meters[m].gross / 500000 → t.queue = s.queue)
      ∧ (x.gross / 500000 < t.meters[m].gross / 500000 → (∀ r ∈ s.queue, r.isCheckpoint = false) →
        s.checkpointOwed = false →
        (s.queue.length < 8 → t.queue = s.queue ++ [.checkpoint t.totals] ∧ t.checkpointOwed = false)
        ∧ (8 ≤ s.queue.length → t.queue = s.queue ∧ t.checkpointOwed = true))
    ∃ t, exec (.gateExpiry m) s = .next t ∧ t.meters = s.meters.set m metered
      ∧ (s.phase = .running → x.gross / 500000 < metered.gross / 500000 →
        Record.checkpoint t.totals ∈ t.queue ∨ t.checkpointOwed = true)
      ∧ (dest = none → t.arms[m].stray = stray
        ∧ (s.phase = .powerDown →
          t = State.startWrite { s with
            meters := s.meters.set m metered, arms := s.arms.set m { arm with stray }, ports := alarms })
        ∧ (s.phase = .running →
          arm.state = .fault ∨ ¬ failed ∧ ¬ limit ∧ (arm.state ≠ .idle ∨ stray ≤ arm.config.strayLimit) →
          t.arms = s.arms.set m { arm with stray } ∧ t.ports = alarms ∧ t.load = s.load ∧ t.pumps = s.pumps
            ∧ t.injectors = s.injectors ∧ t.safety = s.safety ∧ checkpointed t))
      ∧ ∀ (l : LoadRecord) (c : CompRecord), s.load = some l → dest = some c →
        t.arms[m].stray = arm.stray
        ∧ (s.phase = .running → c.gross / arm.config.progress < (filled c).gross / arm.config.progress →
          s.ports.EndedBy ⟨.progress, .compartment, c.line.compartment, w32 (filled c).gross, s.clock.second⟩ t.ports)
        ∧ (s.phase = .powerDown →
          t = State.startWrite { s with
            meters := s.meters.set m metered, ports := told c alarms
            load := some { l with comps := l.comps.map fun y =>
              if y.line.compartment = c.line.compartment then filled y else y } })
        ∧ ∃ u c', t.load = some u ∧ u.comps.find? (fun y => y.line.compartment == c.line.compartment) = some c'
          ∧ c' = { filled c with
              state := c'.state, closing := c'.closing, antUsed := c'.antUsed, closeReason := c'.closeReason
              haltCause := c'.haltCause, additives := c'.additives, flags := { (filled c).flags with short := c'.flags.short } }
          ∧ (let rest : Int := (c.line.preset * 1000 : Nat)
              - (match c.line.basis with
                | .gross => (filled c).gross
                | .net => (filled c).net : Nat)
            s.phase = .running → ¬ failed → ¬ limit → c.line.basis = .gross ∨ s.probes[m].invalidRun < 10 →
            arm.state = .priming
              ∨ (arm.config.ant : Int) < rest
                ∧ (arm.state = .low ∧ (filled c).gross < arm.config.lowStart ∨ arm.state = .slowdown
                  ∨ arm.state = .full ∧ (arm.config.slowdown : Int) < rest ∧ (arm.hold = true ∨ arm.valve = .full)) →
            t.arms = s.arms ∧ t.ports = told c s.ports ∧ c' = { filled c with additives := c'.additives }
              ∧ t.pumps = s.pumps ∧ t.safety = s.safety ∧ checkpointed t
              ∧ ∀ j : Fin 8, (∀ r ∈ c.additives, r.injector ≠ some j) → t.injectors[j] = s.injectors[j])

/-- At the end of a gate the arm acts on its compartment's new figures: it closes with PRESET when the rest of the preset is within the
anticipation; it leaves LOW at the low-start volume, for SLOWDOWN where the rest is within the slowdown volume and else for
FULL, held at LOW while the deadman warns; in FULL it slows down, or opens its main valve once the hold is gone; in PRIMING it
waits. A third gate in a row without a pulse confirms no-flow, on an arm in CLOSING and on one in FAULT: the compartment is DONE or
HALTED by its close reason with the meter's readings, and in a CLOSING load goes on to DONE with SHORT, its results judged and its
injectors released at DONE; the arm drops it, and a stop at the preset teaches the anticipation. A gate of too many errors and one
that brings the debt to 4095 put the arm in FAULT and close its compartment, or leave its close to the count, and post PULSE_FAULT and
REVERSE_LIMIT; these and a stray volume past its limit fault an IDLE arm, and a probe in temperature fault closes a NET
compartment. -/
def Obligations.GateMovesItsArm : Prop :=
  ∀ (m : Fin 4) (s : State), s.phase = .running → s.meters[m].gateTimer = some 0 →
    let x := s.meters[m]
    let arm := s.arms[m]
    let debt := min 4095 (x.debt + x.backward)
    let figures (alpha : Nat) := x.gateFigures (x.forward - min debt x.forward) s.cal.meterK[m] s.cal.curve[m]
      (clampInt (-4000) 8000 (s.probes[m].held + s.cal.offset[m])) alpha
    let failed : Prop := 10 ≤ x.errors ∧ x.forward + x.backward < x.errors * 100
    let limit : Prop := debt = 4095 ∧ x.debt < 4095
    let pulseFault : Event := ⟨.pulseFault, .arm, m.val, w32 x.errors, s.clock.second⟩
    let reverseLimit : Event := ⟨.reverseLimit, .arm, m.val, w32 4095, s.clock.second⟩
    let counted : Prop := ∀ p : Fin 4, s.pumps[p].demand = s.demandCount p
    (∃ t, exec (.gateExpiry m) s = .next t ∧ ∀ p : Port,
      (failed → arm.state ≠ .fault → (s.ports.get p).events.length < 16 → pulseFault ∈ (t.ports.get p).events)
      ∧ (limit → ¬ failed ∨ arm.state = .fault → (s.ports.get p).events.length < 16 → reverseLimit ∈ (t.ports.get p).events)
      ∧ (limit → failed → counted → (s.ports.get p).events.length ≤ 12 → reverseLimit ∈ (t.ports.get p).events))
    ∧ (arm.served = none → arm.state = .idle → failed ∨ limit →
      ∃ t, exec (.gateExpiry m) s = .next t
      ∧ (failed → t.arms[m] = { arm with
          state := .fault, faultCause := some .pulseFault, stray := min (2 ^ 32 - 1) (arm.stray + (figures 0).1.gross) })
      ∧ (¬ failed → t.arms[m] = { arm with
          state := .fault, faultCause := some .reverseLimit, stray := min (2 ^ 32 - 1) (arm.stray + (figures 0).1.gross) })
      ∧ (counted → (failed → ¬ limit → t.ports = s.ports.offer pulseFault)
        ∧ (¬ failed → limit → t.ports = s.ports.offer reverseLimit)
        ∧ (failed → limit → t.ports = (s.ports.offer pulseFault).offer reverseLimit)))
    ∧ (arm.served = none → arm.state = .idle → ¬ failed → ¬ limit →
      let stray := min (2 ^ 32 - 1) (arm.stray + (figures 0).1.gross)
      ∃ t, exec (.gateExpiry m) s = .next t
      ∧ (stray ≤ arm.config.strayLimit → t.arms = s.arms.set m { arm with stray } ∧ t.ports = s.ports)
      ∧ (arm.config.strayLimit < stray →
        t.arms[m] = { arm with stray, state := .fault, faultCause := some .strayFlow }
          ∧ (counted → t.ports = s.ports.offer ⟨.strayFlow, .arm, m.val, w32 stray, s.clock.second⟩)))
    ∧ ∀ (l : LoadRecord) (c : CompRecord), s.load = some l →
      l.comps.find? (fun y => y.line.compartment == c.line.compartment) = some c → arm.served = some c.line.compartment →
      c.line.arm = m → (∀ b : Fin 4, b ≠ m → s.arms[b].served ≠ some c.line.compartment) → c.state.isActive = true →
      let f := figures s.products[c.line.product].alpha
      let gross := min (2 ^ 32 - 1) (c.gross + f.1.gross)
      let net := min (2 ^ 32 - 1) (c.net + f.1.net)
      let volume := match c.line.basis with
        | .gross => f.1.gross
        | .net => f.1.net
      let delivered := match c.line.basis with
        | .gross => gross
        | .net => net
      let rest : Int := (c.line.preset * 1000 : Nat) - (delivered : Int)
      ∃ (t : State) (u : LoadRecord) (c' : CompRecord), exec (.gateExpiry m) s = .next t ∧ t.load = some u
        ∧ u.comps.find? (fun y => y.line.compartment == c.line.compartment) = some c'
        ∧ c'.line = c.line ∧ c'.gross = gross ∧ c'.net = net
        ∧ (let warm : Prop := c.line.basis = .gross ∨ s.probes[m].invalidRun < 10
          let closed : Arm := { arm with
            state := .closing, valve := .closed, settleTimer := none, hold := false
            closeTimer := some (arm.config.closeTimeout * 1000), zeroRun := 0, learnable := false }
          let faulted (cause : FaultCause) : Arm := { closed with
            state := .fault, faultCause := some cause, faultDuringClose := true, zeroRun := if x.forward = 0 then 1 else 0 }
          let hit (cause : FaultCause) : Arm := { arm with
            state := .fault, faultCause := some cause, faultDuringClose := true }
          (arm.state.isStaging = true → c.state.isDrivable = true →
            (failed → t.arms[m] = faulted .pulseFault ∧ c'.state = .closing
              ∧ c'.closeReason = some (.halt .pulseFault))
            ∧ (¬ failed → limit → t.arms[m] = faulted .reverseLimit ∧ c'.state = .closing
              ∧ c'.closeReason = some (.halt .reverseLimit))
            ∧ (¬ failed → ¬ limit → ¬ warm →
              t.arms[m] = { closed with zeroRun := if x.forward = 0 then 1 else 0 } ∧ c'.state = .closing
                ∧ c'.closeReason = some (.halt .temp)))
          ∧ (arm.state = .priming → ¬ failed → ¬ limit → warm → t.arms[m] = arm ∧ c'.state = c.state)
          ∧ (arm.state.isFlowing = true → c.state.isDrivable = true → ¬ failed → ¬ limit → warm →
            (rest ≤ arm.config.ant →
              t.arms[m] = { closed with learnable := decide ((arm.config.ant : Int) < rest + volume) }
                ∧ c'.state = .closing ∧ c'.closeReason = some .preset ∧ c'.antUsed = some arm.config.ant)
            ∧ ((arm.config.ant : Int) < rest →
              (arm.state = .low → gross < arm.config.lowStart → t.arms[m] = arm ∧ c'.state = c.state)
              ∧ (arm.state = .low → arm.config.lowStart ≤ gross →
                (rest ≤ arm.config.slowdown →
                  t.arms[m] = { arm with state := .slowdown, valve := .low, hold := false } ∧ c'.state = .slowdown)
                ∧ ((arm.config.slowdown : Int) < rest →
                  t.arms[m] = { arm with
                      state := .full, valve := if s.safety.stage = .warning then .low else .full
                      hold := decide (s.safety.stage = .warning) }
                    ∧ c'.state = .full))
              ∧ (arm.state = .full →
                (rest ≤ arm.config.slowdown →
                  t.arms[m] = { arm with state := .slowdown, valve := .low, hold := false } ∧ c'.state = .slowdown)
                ∧ ((arm.config.slowdown : Int) < rest →
                  t.arms[m] = (if arm.hold then arm else { arm with valve := .full }) ∧ c'.state = c.state))
              ∧ (arm.state = .slowdown → t.arms[m] = arm ∧ c'.state = c.state)))
          ∧ ∀ struck : Arm, c.state = .closing →
            (arm.state = .fault ∧ struck = arm ∨ arm.state = .closing ∧
              (¬ failed ∧ ¬ limit ∧ struck = arm ∨ failed ∧ struck = hit .pulseFault
                ∨ ¬ failed ∧ limit ∧ struck = hit .reverseLimit)) →
            (x.forward ≠ 0 → t.arms[m] = { struck with zeroRun := 0 } ∧ c'.state = .closing)
            ∧ (x.forward = 0 → arm.zeroRun < 2 →
              t.arms[m] = { struck with zeroRun := arm.zeroRun + 1 } ∧ c'.state = .closing)
            ∧ (x.forward = 0 → 2 ≤ arm.zeroRun →
              c'.closing = some ⟨t.meters[m].gross, t.meters[m].net⟩
              ∧ t.arms[m].state = (if struck.state = .fault then .fault else .idle) ∧ t.arms[m].faultCause = struck.faultCause
              ∧ t.arms[m].served = none ∧ t.arms[m].closeTimer = none ∧ t.arms[m].valve = arm.valve
              ∧ (c'.state = .done → s.ResultsAtDone { c with gross } c' ∧ s.InjectorsAtDone c.line.compartment t)
              ∧ (∀ cause, c.closeReason = some (.halt cause) →
                c'.haltCause = some cause ∧ t.arms[m].config = arm.config
                ∧ (l.state ≠ .closing → c'.state = .halted ∧ c'.additives = c.additives ∧ t.injectors = s.injectors)
                ∧ (l.state = .closing → c'.state = .done ∧ c'.flags.short = true))
              ∧ (c.closeReason = some .amend → c'.state = .done ∧ t.arms[m].config = arm.config)
              ∧ (c.closeReason = some .preset → c'.state = .done
                ∧ t.arms[m].config = { arm.config with
                    ant := if arm.learnable = true ∧ struck.faultDuringClose = false then
                        (min (max 0 ((arm.config.ant : Int) + (-rest).tdiv 4)) arm.config.maxAnt).toNat
                      else arm.config.ant })))

/-! ### Arm timers, pumps and injectors -/

/-- The settle timer's expiry in PRIMING opens the trim valve: arm in LOW, compartment in LOW_START. The close timer's expiry
before no-flow, on an arm in CLOSING or in FAULT, posts VALVE_LEAK and leaves the compartment DONE with VALVE_LEAK, and SHORT with
its halt cause where a halt closed it; each component result is judged on the final gross with the strokes then cut off and owed,
the injectors bound to the compartment are released and no other is touched; and the arm, its compartment dropped, is in FAULT, with
fault during close set where it was not in FAULT before. With time left neither row does anything. -/
def Obligations.ArmTimersExpire : Prop :=
  (∀ (a : Fin 4) (s : State), (s.arms[a].settleTimer ≠ some 0 → exec (.settleTimerExpiry a) s = .next s)
    ∧ (s.arms[a].closeTimer ≠ some 0 → exec (.closeTimerExpiry a) s = .next s))
  ∧ ∀ (a : Fin 4) (c : CompRecord) (l : LoadRecord) (s : State), s.phase = .running ∨ s.phase = .powerDown → s.load = some l →
    l.comps.find? (fun x => x.line.compartment == c.line.compartment) = some c →
    s.arms[a].served = some c.line.compartment → (∀ b : Fin 4, b ≠ a → s.arms[b].served ≠ some c.line.compartment) →
    (s.arms[a].settleTimer = some 0 → s.arms[a].state = .priming →
      ∃ t u, exec (.settleTimerExpiry a) s = .next t
        ∧ t.arms = s.arms.set a { s.arms[a] with state := .low, valve := .low, settleTimer := none } ∧ t.load = some u
        ∧ u.comps = l.comps.map (fun x =>
          if x.line.compartment = c.line.compartment then { x with state := .lowStart } else x)
        ∧ u.causes = l.causes ∧ t.pumps = s.pumps ∧ t.meters = s.meters ∧ t.injectors = s.injectors)
    ∧ (s.arms[a].closeTimer = some 0 → s.arms[a].state = .closing ∨ s.arms[a].state = .fault →
      ∃ t u c', exec (.closeTimerExpiry a) s = .next t
        ∧ t.arms[a] = { s.arms[a] with
            state := .fault, served := none, closeTimer := none, zeroRun := 0
            faultCause := if s.arms[a].state = .fault then s.arms[a].faultCause else some .valveLeak
            faultDuringClose := if s.arms[a].state = .fault then s.arms[a].faultDuringClose else true }
        ∧ t.load = some u ∧ t.meters = s.meters
        ∧ (∀ p : Port, (s.ports.get p).events.length < 16 →
          ⟨.valveLeak, .arm, a.val, w32 c.line.compartment, s.clock.second⟩ ∈ (t.ports.get p).events)
        ∧ u.comps.find? (fun x => x.line.compartment == c.line.compartment) = some c'
        ∧ c' = { c with
            state := .done, closing := some ⟨s.meters[a].gross, s.meters[a].net⟩, additives := c'.additives
            flags := { c.flags with valveLeak := true, short := c'.flags.short }, haltCause := c'.haltCause }
        ∧ (∀ cause, c.closeReason = some (.halt cause) → c'.flags.short = true ∧ c'.haltCause = some cause)
        ∧ (c.closeReason = some .preset ∨ c.closeReason = some .amend → c'.flags.short = c.flags.short
          ∧ c'.haltCause = c.haltCause)
        ∧ s.ResultsAtDone c c' ∧ s.InjectorsAtDone c.line.compartment t)

/-- Feedback on takes a STARTING pump with demand to RUNNING and starts the settle timer of every arm that waits on it, and one
whose demand has fallen to 0 at once to RUN_ON, or to STOPPED where its run-on time is 0; feedback off fails a pump in RUNNING
or RUN_ON as LOST, and the start timer's expiry one in STARTING as START, with PUMP_FAIL posted, its output off, and every
staging arm of it closing its compartment with reason PUMP; the run-on timer's expiry stops the pump. Neither timer's row does
anything before its time has run out. -/
def Obligations.PumpsStartFailAndStop : Prop :=
  ∀ (p : Fin 4) (s : State), s.phase = .running →
    let failed (kind : FailKind) (t : State) : Prop :=
      t.pumps[p].state = .failed ∧ t.pumps[p].run = false ∧ t.pumps[p].timer = none ∧ t.pumps[p].failKind = some kind
        ∧ (∀ q : Fin 4, q ≠ p → t.pumps[q] = s.pumps[q]) ∧ t.meters = s.meters
        ∧ (∀ q : Port, (s.ports.get q).events.length < 16 →
          ⟨.pumpFail, .pump, p.val, w32 (if kind = .start then 0 else 1), s.clock.second⟩ ∈ (t.ports.get q).events)
        ∧ ∀ (a : Fin 4) (l : LoadRecord) (c : CompRecord), s.load = some l →
          l.comps.find? (fun x => x.line.compartment == c.line.compartment) = some c →
          s.arms[a].served = some c.line.compartment → c.line.arm = a → s.products[c.line.product].pump = some p →
          s.arms[a].state.isStaging = true → c.state.isDrivable = true →
          t.arms[a].state = .closing ∧ t.arms[a].valve = .closed ∧ t.arms[a].settleTimer = none
            ∧ ((∀ (b : Fin 4) (x : CompRecord), x ∈ l.comps → s.arms[b].served = some x.line.compartment → x.line.arm = b) →
              ∃ u, t.load = some u ∧ u.comps.find? (fun x => x.line.compartment == c.line.compartment)
                = some (s.drivenComp (.halt .pump) c))
    (s.pumps[p].state = .starting → 0 < s.pumps[p].demand →
      ∃ t, exec (.pumpFeedback p true) s = .next t
        ∧ t.pumps = s.pumps.set p { s.pumps[p] with feedback := true, state := .running, timer := none }
        ∧ t.meters = s.meters
        ∧ ∀ (a : Fin 4) (l : LoadRecord) (c : CompRecord), s.load = some l →
          l.comps.find? (fun x => x.line.compartment == c.line.compartment) = some c →
          s.arms[a].served = some c.line.compartment → s.products[c.line.product].pump = some p →
          s.arms[a].state = .priming → s.arms[a].settleTimer = none → 0 < s.pumps[p].config.settle →
          t.arms[a] = { s.arms[a] with settleTimer := some (s.pumps[p].config.settle * 1000) })
    ∧ (s.pumps[p].state = .starting → s.pumps[p].demand = 0 → s.demandCount p = 0 →
      exec (.pumpFeedback p true) s
        = .next (State.startWrite { s with
            pumps := s.pumps.set p (if s.pumps[p].config.runOn = 0 then
              { s.pumps[p] with feedback := true, state := .stopped, run := false, timer := none }
            else
              { s.pumps[p] with
                feedback := true, state := .runOn, timer := some (s.pumps[p].config.runOn * 1000) }) }))
    ∧ (s.pumps[p].state = .running ∨ s.pumps[p].state = .runOn →
      ∃ t, exec (.pumpFeedback p false) s = .next t ∧ failed .lost t ∧ t.pumps[p].feedback = false)
    ∧ (∀ on, s.pumps[p].state = .stopped ∨ s.pumps[p].state = .failed →
      exec (.pumpFeedback p on) s
        = .next (State.startWrite { s with pumps := s.pumps.set p { s.pumps[p] with feedback := on } }))
    ∧ (s.pumps[p].state = .starting → s.pumps[p].timer = some 0 →
      ∃ t, exec (.startTimerExpiry p) s = .next t ∧ failed .start t)
    ∧ (s.pumps[p].timer ≠ some 0 → exec (.startTimerExpiry p) s = .next s ∧ exec (.runOnTimerExpiry p) s = .next s)
    ∧ (s.pumps[p].state = .runOn → s.pumps[p].timer = some 0 →
      exec (.runOnTimerExpiry p) s
        = .next (State.startWrite { s with
            pumps := s.pumps.set p { s.pumps[p] with state := .stopped, run := false, timer := none } }))

/-- An off-to-on feedback during a stroke confirms it: one stroke more confirmed, its volume delivered at the component and at the
injector's totalizer. The timer's expiry misses it. The stroke over, an owed stroke starts with its whole feedback timeout where the
arm still flows for the compartment, and the injector is ARMED otherwise. The third miss in a row puts the injector in FAULT with
INJECTOR_FAULT posted and its debt skipped, drives the compartment of a mandatory component to close with ADDITIVE, where a drive
can reach it, and marks an optional one ADDITIVE_OUT. A level that confirms nothing is only remembered, and a timer with time left
misses nothing. -/
def Obligations.StrokesConfirmedAndMissed : Prop :=
  ∀ (j : Fin 8) (s : State), s.phase = .running →
    let x := s.injectors[j]
    (∀ on, x.state ≠ .stroking ∨ on = false ∨ x.feedback = true →
      exec (.injectorFeedback j on) s
        = .next (State.startWrite { s with injectors := s.injectors.set j { x with feedback := on } }))
    ∧ (x.state ≠ .stroking ∨ x.timer ≠ some 0 → exec (.feedbackTimerExpiry j) s = .next s)
    ∧ ∀ (b : Binding) (l : LoadRecord) (c : CompRecord), s.load = some l → x.binding = some b →
      l.comps.find? (fun y => y.line.compartment == b.compartment) = some c → x.state = .stroking →
      let flows : Bool := s.arms[c.line.arm].state.isFlowing && s.arms[c.line.arm].served == some b.compartment
      let ended (y : Injector) : Injector :=
        if 0 < x.owed ∧ flows = true then
          { y with output := true, state := .stroking, timer := some x.assign.timeout, owed := x.owed - 1 }
        else { y with output := false, state := .armed, timer := none }
      let at' (f : ComponentResult → ComponentResult) (c : CompRecord) : CompRecord :=
        if c.line.compartment = b.compartment then
          { c with additives := c.additives.map fun r => if r.position = b.position then f r else r }
        else c
      let alarm : Event := ⟨.injectorFault, .injector, j.val, w32 b.compartment, s.clock.second⟩
      (x.feedback = false → x.timer.isSome = true →
        exec (.injectorFeedback j true) s
          = .next (State.startWrite { s with
              load := some { l with comps := l.comps.map (at' fun r =>
                { r with confirmed := r.confirmed + 1, delivered := r.delivered + s.cal.stroke[j] }) }
              injectors := s.injectors.set j (ended { x with
                feedback := true, consecutive := 0, total := min (2 ^ 64 - 1) (x.total + s.cal.stroke[j]) }) }))
      ∧ (x.timer = some 0 → x.consecutive < 2 →
        exec (.feedbackTimerExpiry j) s
          = .next (State.startWrite { s with
              load := some { l with comps := l.comps.map (at' fun r => { r with missed := r.missed + 1 }) }
              injectors := s.injectors.set j (ended { x with consecutive := x.consecutive + 1 }) }))
      ∧ (x.timer = some 0 → 2 ≤ x.consecutive →
        ∃ t u, exec (.feedbackTimerExpiry j) s = .next t ∧ t.load = some u
          ∧ t.injectors[j] = { x with
              output := false, timer := none, consecutive := x.consecutive + 1, owed := 0, state := .fault }
          ∧ (∀ p : Port, (s.ports.get p).events.length < 16 → alarm ∈ (t.ports.get p).events)
          ∧ t.meters = s.meters ∧ t.pumps = s.pumps
          ∧ ∀ r, c.additives.find? (fun r => r.position == b.position) = some r →
            (r.component.mandatory = false →
              u = { l with comps := l.comps.map (at' fun r =>
                { r with missed := r.missed + 1, skipped := r.skipped + x.owed, markOut := true }) }
              ∧ t.arms = s.arms ∧ t.ports = s.ports.offer alarm)
            ∧ (r.component.mandatory = true → c.state.isDrivable = false →
              u = { l with comps := l.comps.map (at' fun r =>
                { r with missed := r.missed + 1, skipped := r.skipped + x.owed }) }
              ∧ t.arms = s.arms ∧ t.ports = s.ports.offer alarm)
            ∧ (r.component.mandatory = true → c.state.isDrivable = true → s.arms[c.line.arm].state.isStaging = true →
              (∀ i : Fin 8, i ≠ j → s.injectors[i].binding ≠ some b) →
              ∃ c' r', u.comps.find? (fun y => y.line.compartment == b.compartment) = some c' ∧ c'.state = .closing
                ∧ c'.closeReason = some (.halt .additive) ∧ c'.line = c.line
                ∧ c'.additives.find? (fun r => r.position == b.position) = some r'
                ∧ r' = { r with missed := r.missed + 1, skipped := r.skipped + x.owed }
                ∧ t.arms = s.arms.set c.line.arm { s.arms[c.line.arm] with
                    state := .closing, valve := .closed, settleTimer := none, hold := false, zeroRun := 0, learnable := false
                    closeTimer := some (s.arms[c.line.arm].config.closeTimeout * 1000) }))

/-- A stroke point lies at or below a gross figure exactly when its index is below the count of points reached, and the points rise
with their index. At a gate routed to a compartment whose arm flows, a component makes due the points that the compartment's gross
has reached since its stroke index, and the index advances past them. On an ARMED injector the first starts a stroke; the others, and
all on a STROKING one, are owed up to three and skipped beyond; on an injector in FAULT all are skipped. Where the arm closes at the
preset in that gate, what is owed is then skipped and the stroke runs on. A gate that takes the arm out of flow before its points are
judged, by a fault or a probe in temperature fault, makes none due and skips what was owed; and on an arm that does not flow a gate
changes no injector and no result, short of the no-flow that ends the close. -/
def Obligations.StrokePointsReached : Prop :=
  (∀ v r g k : Nat, 0 < v → 0 < r →
    (k < pointsReached v r g ↔ strokePoint v r k ≤ g) ∧ strokePoint v r k ≤ strokePoint v r (k + 1))
  ∧ ∀ (m : Fin 4) (l : LoadRecord) (c : CompRecord) (s : State), s.phase = .running → s.meters[m].gateTimer = some 0 →
    s.load = some l → l.comps.find? (fun y => y.line.compartment == c.line.compartment) = some c →
    s.arms[m].served = some c.line.compartment → c.line.arm = m → c.state.isActive = true →
    let n := c.line.compartment
    let x := s.meters[m]
    let arm := s.arms[m]
    let debt := min 4095 (x.debt + x.backward)
    let f := x.gateFigures (x.forward - min debt x.forward) s.cal.meterK[m] s.cal.curve[m]
      (clampInt (-4000) 8000 (s.probes[m].held + s.cal.offset[m])) s.products[c.line.product].alpha
    let gross := min (2 ^ 32 - 1) (c.gross + f.1.gross)
    let delivered := match c.line.basis with
      | .gross => gross
      | .net => min (2 ^ 32 - 1) (c.net + f.1.net)
    let failed : Prop := 10 ≤ x.errors ∧ x.forward + x.backward < x.errors * 100
    let limit : Prop := debt = 4095 ∧ x.debt < 4095
    let cold : Prop := c.line.basis = .net ∧ 10 ≤ s.probes[m].invalidRun
    let leaves : Prop := c.line.preset * 1000 ≤ delivered + arm.config.ant
    ∃ (t : State) (u : LoadRecord) (c' : CompRecord), exec (.gateExpiry m) s = .next t ∧ t.load = some u
      ∧ u.comps.find? (fun y => y.line.compartment == n) = some c' ∧ c'.additives.length = c.additives.length
      ∧ (∀ (i k : Nat) (r r' : ComponentResult) (j : Fin 8) (v : Nat), c.additives[i]? = some r → c'.additives[i]? = some r' →
        r.injector = some j → r.stroke = some v → (∀ o : Fin 8, s.injectors[o].binding = some ⟨n, r.position⟩ ↔ o = j) →
        (∀ (h : Nat) (q : ComponentResult), c.additives[h]? = some q → h ≠ i → q.position ≠ r.position ∧ q.injector ≠ some j) →
        let y := s.injectors[j]
        c.state.isDrivable = true → y.owed ≤ 3 →
        (arm.state.isFlowing = true → ¬ failed → ¬ limit → ¬ cold →
          r.index + k = max r.index (pointsReached v r.component.ratio gross) →
          (y.state = .armed → k = 0 → r' = r ∧ t.injectors[j] = y)
          ∧ (y.state = .armed → 0 < k →
            let kept := min (k - 1) (3 - y.owed)
            let begun : Injector := { y with state := .stroking, output := true, timer := some y.assign.timeout }
            (¬ leaves → r' = { r with index := r.index + k, skipped := r.skipped + (k - 1 - kept) }
              ∧ t.injectors[j] = { begun with owed := y.owed + kept })
            ∧ (leaves → r' = { r with index := r.index + k, skipped := r.skipped + (k - 1) + y.owed }
              ∧ t.injectors[j] = { begun with owed := 0 }))
          ∧ (y.state = .stroking →
            let kept := min k (3 - y.owed)
            (¬ leaves → r' = { r with index := r.index + k, skipped := r.skipped + (k - kept) }
              ∧ t.injectors[j] = { y with owed := y.owed + kept })
            ∧ (leaves → r' = { r with index := r.index + k, skipped := r.skipped + k + y.owed }
              ∧ t.injectors[j] = { y with owed := 0 }))
          ∧ (y.state = .fault → r' = { r with index := r.index + k, skipped := r.skipped + k } ∧ t.injectors[j] = y))
        ∧ (arm.state.isStaging = true → failed ∨ limit ∨ cold →
          (y.state = .stroking → r' = { r with skipped := r.skipped + y.owed } ∧ t.injectors[j] = { y with owed := 0 })
          ∧ (y.state ≠ .stroking → r' = r ∧ t.injectors[j] = y)))
      ∧ (arm.state = .priming ∧ ¬ failed ∧ ¬ limit ∧ ¬ cold
          ∨ (arm.state = .closing ∨ arm.state = .fault) ∧ c.state = .closing ∧ (x.forward ≠ 0 ∨ arm.zeroRun < 2) →
        c'.additives = c.additives ∧ t.injectors = s.injectors)

/-! ### Audit memory and power -/

/-- A completed record write, in start-up, in a running part and in POWER_DOWN, takes the head record out of the queue and puts
its content into audit memory; in start-up it is one write fewer for START to wait for. Without a write in progress, and in a
part that is held, the row changes nothing. The record of a request answered ACCEPTED posts NV_DONE with its object; the commit
record stores its note, takes the serial and releases the load with its image. The place that it frees goes to one owed record:
the image, the charged permit record, the commit record, the checkpoint, then a learned arm record, the lowest arm first, and
last a start-up record that found no place. In POWER_DOWN none joins, and the save is taken once the queue is empty. A completed
save leaves a valid save area with the values it took. That a write starts at the end of a command, that a commit completed in
POWER_DOWN gives its hold timer a value, and that start-up records beyond the eighth wait for places, are the model's
(assumption logs 7, 23 and 25). -/
def Obligations.RecordsAreWrittenInOrder : Prop :=
  (∀ (r : Record) (rest : List Record) (s : State), s.queue = r :: rest → s.writing = true →
    s.phase = .running ∨ s.phase = .startUp ∨ s.phase = .powerDown →
    let a := s.audit
    let written : Audit :=
      match r with
      | .product code e => { a with products := a.products.set code e }
      | .permit card none _ => { a with permits := a.permits.filter fun x => x.content.card != card }
      | .permit card (some e) _ =>
        if ∃ x ∈ a.permits, x.content.card = card then
          { a with permits := a.permits.map fun x => if x.content.card = card then e else x }
        else { a with permits := a.permits ++ [e] }
      | .arm b config _ => { a with arms := a.arms.set b config }
      | .block flags => { a with blocked := flags }
      | .pump p config => { a with pumps := a.pumps.set p config }
      | .injector j assign => { a with injectors := a.injectors.set j assign }
      | .recipe i e => { a with recipes := a.recipes.set i e }
      | .deadman d w => { a with period := d, warning := w }
      | .calibration (.meterConstant m k) cec => { a with meterK := a.meterK.set m ⟨k, cec⟩ }
      | .calibration (.factorCurve m c) cec => { a with curve := a.curve.set m ⟨c, cec⟩ }
      | .calibration (.probeOffset p o) cec => { a with offset := a.offset.set p ⟨o, cec⟩ }
      | .calibration (.strokeVolume j v) cec => { a with stroke := a.stroke.set j ⟨v, cec⟩ }
      | .checkpoint v => { a with checkpoint := v }
      | .image l => { a with image := some l }
      | .commit i n serial => { a with slots := a.slots.set i (some ⟨n, serial⟩), serial := serial, image := none }
      | .release i => { a with slots := a.slots.set i none }
      | .noteConfig minutes => { a with holdMinutes := minutes }
      | .saveInvalid => { a with save := { a.save with valid := false } }
    let nvDone (kind : ObjectKind) (n value : Nat) : Ports := s.ports.offer ⟨.nvDone, kind, n, w32 value, s.clock.second⟩
    let told : Ports :=
      match r with
      | .product code _ => nvDone .productRecord code.val 0
      | .permit card _ true => nvDone .permitRecord 0 card
      | .arm b _ false => nvDone .armRecord b.val 0
      | .block _ => nvDone .blockRecord 0 0
      | .pump p _ => nvDone .pumpRecord p.val 0
      | .injector j _ => nvDone .injectorRecord j.val 0
      | .recipe i _ => nvDone .recipeRecord (i.val + 1) (i.val + 1)
      | .deadman _ _ => nvDone .deadmanRecord 0 0
      | .noteConfig _ => nvDone .noteConfigRecord 0 0
      | .calibration (.meterConstant m _) cec => nvDone .meterConstant m.val cec
      | .calibration (.factorCurve m _) cec => nvDone .factorCurve m.val cec
      | .calibration (.probeOffset p _) cec => nvDone .probeOffset p.val cec
      | .calibration (.strokeVolume j _) cec => nvDone .strokeVolume j.val cec
      | .commit i _ serial => (s.ports.offer ⟨.noteReady, .noteSlot, i.val, w32 serial, s.clock.second⟩).offer
        ⟨.loadState, .none, 0, 4, s.clock.second⟩
      | .permit _ _ false | .arm _ _ true | .checkpoint _ | .image _ | .release _ | .saveInvalid => s.ports
    ∃ t more, exec .recordWriteComplete s = .next t ∧ t.audit = written ∧ t.ports = told
      ∧ t.queue = rest ++ more ∧ more.length ≤ 1 ∧ t.writing = !t.queue.isEmpty ∧ t.pumps = s.pumps ∧ t.safety = s.safety
      ∧ t.startRecords = s.startRecords - 1 ∧ t.phase = s.phase
      ∧ (∀ i n serial, r = .commit i n serial → t.load = none ∧ t.imageOwed = false ∧ t.serial = serial
        ∧ t.slots = s.slots.set i ⟨.stored, some n, some serial, false, some (s.holdMinutes * 60000), false⟩)
      ∧ (s.phase = .powerDown → more = [] ∧ t.saving.isSome = (s.saving.isSome || rest.isEmpty))
      ∧ (s.phase = .running ∨ s.phase = .startUp → (∀ i n serial, r ≠ .commit i n serial) → t.load = s.load ∧ t.serial = s.serial
        ∧ t.meters = s.meters
        ∧ (∀ l, s.load = some l → s.imageOwed = true → more = [.image l] ∧ t.imageOwed = false)
        ∧ (s.load = none ∨ s.imageOwed = false →
          (∀ q, s.chargeOwed = some q → more = [q] ∧ t.chargeOwed = none)
          ∧ (s.chargeOwed = none →
            (∀ l n, s.load = some l → s.slots[l.slot].state = .composing → s.slots[l.slot].note = some n →
              s.imageOwed = false → more = [.commit l.slot n (s.serial + 1)]
                ∧ t.slots = s.slots.set l.slot { s.slots[l.slot] with state := .committing })
            ∧ ((∀ l, s.load = some l → s.slots[l.slot].state ≠ .composing) →
              (s.checkpointOwed = true → more = [.checkpoint s.totals] ∧ t.checkpointOwed = false)
              ∧ (s.checkpointOwed = false →
                (∀ b : Fin 4, s.arms[b].antOwed = true → (∀ c : Fin 4, c < b → s.arms[c].antOwed = false) →
                  more = [.arm b s.arms[b].config true] ∧ t.arms = s.arms.set b { s.arms[b] with antOwed := false })
                ∧ ((∀ b : Fin 4, s.arms[b].antOwed = false) → more = s.backlog.take 1 ∧ t.backlog = s.backlog.drop 1
                  ∧ t.arms = s.arms)))))))
  ∧ (∀ s : State, s.queue = [] ∨ s.writing = false ∨ s.phase = .held → exec .recordWriteComplete s = .next s)
  ∧ (∀ s : State, s.saving = none → exec .saveWriteComplete s = .next s)
  ∧ ∀ (d : SaveData) (s : State), s.saving = some d →
    exec .saveWriteComplete s
      = .next { s with saving := none, audit := { s.audit with save := ⟨true, true, d⟩ } }

/-- An assertion of PFAIL, in start-up or in a running part, puts the part into POWER_DOWN: every valve CLOSED, every pump and the
horn off, no stroke in flight, the arm, pump, validity and hold timers stopped, every owed mark dropped; where the queue is empty
the save is taken at once, with each meter's totals, remainders and debt, each injector's total and the load record. RESET or a
loss of power holds the part with every output off; a write in progress is kept or lost whole by whether its first copy was whole,
a save or a retirement of it in progress leaves its check failing, and after START a RESET leaves no save valid, so that the
start-up is abrupt (R189, R185; assumption logs 5, 10 and 24). -/
def Obligations.PowerFailsAndResetHolds : Prop :=
  ∀ s : State,
    (s.phase = .startUp ∨ s.phase = .running →
      ∃ t, exec .pfailAssertion s = .next t ∧ t.phase = .powerDown ∧ t.pfail = true ∧ t.started = s.started
        ∧ t.queue = s.queue ∧ t.audit = s.audit ∧ t.ports = s.ports
        ∧ (∀ a : Fin 4, t.arms[a] =
          { s.arms[a] with valve := .closed, settleTimer := none, closeTimer := none, antOwed := false })
        ∧ (∀ p : Fin 4, t.pumps[p] = { s.pumps[p] with run := false, timer := none })
        ∧ (∀ j : Fin 8, t.injectors[j].state ≠ .stroking ∧ t.injectors[j].total = s.injectors[j].total)
        ∧ (∀ i : Fin 8, t.slots[i] = { s.slots[i] with holdTimer := none })
        ∧ t.safety = { s.safety with validity := none, horn := false }
        ∧ ((∀ j : Fin 8, s.injectors[j].state ≠ .stroking) → t.load = s.load)
        ∧ t.imageOwed = false ∧ t.chargeOwed = none ∧ t.checkpointOwed = false ∧ t.backlog = []
        ∧ (s.queue = [] →
          (∀ m : Fin 4, t.meters[m] = { s.meters[m] with gateTimer := none, decoding := false })
          ∧ ∃ d, t.saving = some d ∧ d.load = t.load ∧ (∀ j : Fin 8, d.injectors[j] = s.injectors[j].total)
            ∧ ∀ m : Fin 4, d.meters[m] = ⟨s.meters[m].gross, s.meters[m].net, s.meters[m].remI, s.meters[m].remG,
              s.meters[m].remN, s.meters[m].debt⟩)
        ∧ (s.queue ≠ [] → t.saving = s.saving ∧ t.meters = s.meters))
    ∧ (s.phase = .held ∨ s.phase = .powerDown → exec .pfailAssertion s = .next s)
    ∧ ∀ whole : Bool,
      ∃ t v, exec (.resetAssertion whole) s = .next t ∧ exec (.lossOfPower whole) s = .next v ∧ t.phase = .held
        ∧ (∀ a : Fin 4, t.arms[a].valve = .closed) ∧ (∀ p : Fin 4, t.pumps[p].run = false)
        ∧ (∀ j : Fin 8, t.injectors[j].output = false) ∧ t.safety.horn = false ∧ t.scanner.tcs = false
        ∧ (∀ p : Port, (t.ports.get p).attn = false ∧ (t.ports.get p).shifted = [] ∧ (t.ports.get p).pending = none)
        ∧ t.queue = [] ∧ t.load = none ∧ t.pending = s.pending
        ∧ v.phase = .held ∧ v.arms.map Arm.valve = t.arms.map Arm.valve ∧ v.pumps.map Pump.run = t.pumps.map Pump.run
        ∧ v.injectors.map Injector.output = t.injectors.map Injector.output ∧ v.safety.horn = false
        ∧ v.scanner = t.scanner ∧ v.ports = t.ports ∧ v.queue = [] ∧ v.load = none ∧ v.pending = s.pending
        ∧ t.audit = { v.audit with save := { v.audit.save with valid := v.audit.save.valid && !s.started } }
        ∧ (s.saving = none → s.writing = false ∨ s.queue = [] → v.audit = s.audit)
        ∧ (∀ r rest, s.saving = none → s.writing = true → s.queue = r :: rest → r ≠ .saveInvalid →
          v.audit = if whole then s.audit.write r else s.audit)
        ∧ (∀ rest, s.writing = true → s.queue = .saveInvalid :: rest →
          v.audit = { s.audit with save := { s.audit.save with checkHolds := false } })
        ∧ (s.saving.isSome = true → v.audit.save.checkHolds = false)

/-- Start-up restores every record from audit memory: the totals of the save area where it is valid, those of the checkpoint
with no debt and no remainder where it is not; the permits reconciled against the restored load; the CEC the highest that a
calibration record carries; equipment off, clock not set, no orders, no staging, no context; and a load with POWER and, unless
it was CLOSING, PERMISSIVE among its causes, its active compartments ended with cause POWER. Start-up queues the permit records,
the image and, at an orderly start, the checkpoint and the retirement of the save, in that order. START_UP concerns a part that
is held, and START one in start-up: either changes nothing elsewhere. START comes once these records are written and the ESD
input has a level, and changes nothing before; it starts the gates and the poll slots, opens the ports, is posted to all three,
and takes a load restored in CLOSING through its hand-off again. The orders, moments and kept causes that the manual leaves
open, and that a restoration posts no LOAD_STATE, are those of assumption logs 10, 11, 12, 14, 25 and 38. -/
def Obligations.StartUpRestoresAndStarts : Prop :=
  (∀ (i : SampledInputs) (s : State), s.phase = .held →
    let a := s.audit
    let valid := a.save.checkHolds && a.save.valid
    let source : Option LoadRecord := if valid then a.save.data.load else a.image
    let stale (e : PermitEntry) : Bool := e.inUse && source.all fun l => l.card != e.content.card
    let settled (e : PermitEntry) : Option PermitEntry :=
      match e.action with
      | .none => some ⟨e.content, false, .none⟩
      | .replace c => some ⟨c, false, .none⟩
      | .delete => none
    ∃ t, exec (.startUp i) s = .next t ∧ t.phase = .startUp ∧ t.started = false ∧ t.audit = s.audit ∧ t.pending = s.pending
      ∧ t.clock = ⟨0, 0, false⟩ ∧ t.orders = [] ∧ t.staging = none ∧ t.context = none ∧ t.careMask = 0xFFFF#16
      ∧ t.tpReader = none ∧ t.ppReader = none ∧ (∀ p : Port, t.ports.get p = ⟨none, [], 0, [], [], false⟩)
      ∧ t.products = a.products ∧ t.recipes = a.recipes ∧ t.serial = a.serial ∧ t.holdMinutes = a.holdMinutes
      ∧ t.permits = a.permits.filterMap (fun e => if stale e then settled e else some e)
      ∧ t.safety = ⟨⟨false, false, false⟩, true, none, none, false, false, a.period, a.warning, false, .normal,
        a.period * 1000, false⟩
      ∧ (∀ b : Fin 4, t.arms[b] = ⟨a.arms[b], .idle, .closed, none, none, none, 0, false, none, false, false, 0,
        a.blocked[b], false⟩)
      ∧ (∀ p : Fin 4, t.pumps[p] = ⟨a.pumps[p], .stopped, false, i.pumpFeedback[p], 0, none, none⟩)
      ∧ (∀ p : Fin 4, t.probes[p] = ⟨1500, 10⟩ ∧ t.cal.meterK[p] = a.meterK[p].value
        ∧ t.cal.curve[p] = a.curve[p].value ∧ t.cal.offset[p] = a.offset[p].value)
      ∧ (∀ j : Fin 8, t.injectors[j].assign = a.injectors[j] ∧ t.injectors[j].feedback = i.injectorFeedback[j]
        ∧ t.injectors[j].output = false ∧ t.cal.stroke[j] = a.stroke[j].value
        ∧ t.injectors[j].total = (if valid then a.save.data.injectors[j] else a.checkpoint.injectors[j])
        ∧ t.injectors[j].timer = none ∧ t.injectors[j].consecutive = 0
        ∧ (t.load = none → t.injectors[j].binding = none
          ∧ t.injectors[j].state = if a.injectors[j].arm = none then .disabled else .idle))
      ∧ t.sealState = (if i.sealActive then .isSealed else .isOpen)
      ∧ (∀ x ∈ a.meterK.toList, x.cec ≤ t.cal.cec) ∧ (∀ x ∈ a.curve.toList, x.cec ≤ t.cal.cec)
      ∧ (∀ x ∈ a.offset.toList, x.cec ≤ t.cal.cec) ∧ (∀ x ∈ a.stroke.toList, x.cec ≤ t.cal.cec)
      ∧ (t.cal.cec = 0 ∨ (∃ x ∈ a.meterK.toList, x.cec = t.cal.cec) ∨ (∃ x ∈ a.curve.toList, x.cec = t.cal.cec)
        ∨ (∃ x ∈ a.offset.toList, x.cec = t.cal.cec) ∨ ∃ x ∈ a.stroke.toList, x.cec = t.cal.cec)
      ∧ t.startMark = (if valid then .orderly else .abrupt)
      ∧ (∀ m : Fin 4, t.meters[m] =
        let x : SavedMeter := if valid then a.save.data.meters[m]
          else ⟨a.checkpoint.meters[m].gross, a.checkpoint.meters[m].net, 0, 0, 0, 0⟩
        ⟨i.position[m], 0, 0, 0, 0, x.debt, x.remI, x.remG, x.remN, x.gross, x.net, none, none, true⟩)
      ∧ (∀ j : Fin 8, (∀ l, t.load = some l → l.slot ≠ j) → t.slots[j] =
        match a.slots[j] with
        | none => ⟨.free, none, none, false, none, false⟩
        | some n => ⟨.stored, some n.note, some n.serial, false, some (a.holdMinutes * 60000), false⟩)
      ∧ t.load.isSome = source.isSome
      ∧ (∀ l u, source = some l → t.load = some u →
        u.card = l.card ∧ u.carrier = l.carrier ∧ u.number = l.number ∧ u.slot = l.slot ∧ u.openTime = l.openTime
        ∧ u.closeTime = l.closeTime ∧ u.cecAtOpen = l.cecAtOpen
        ∧ u.state = (if l.state = .closing then .closing else .suspended)
        ∧ u.causes = { l.causes with power := true, permissive := l.causes.permissive || l.state != .closing }
        ∧ u.totalsUncertain = (l.totalsUncertain || !valid && l.comps.any fun c => c.state.isFlowing)
        ∧ t.slots[u.slot] = ⟨.reserved, none, none, false, none, false⟩
        ∧ u.comps.map (fun c => (c.line, c.gross, c.net, c.opening, c.closeReason))
          = l.comps.map (fun c => (c.line, c.gross, c.net, c.opening, none))
        ∧ u.comps.map (fun c => (c.state, c.haltCause, c.closing))
          = l.comps.map (fun c => if c.state.isActive then
              (if l.state = .closing then .done else .halted, some .power,
                some ⟨t.meters[c.line.arm].gross, t.meters[c.line.arm].net⟩)
            else (c.state, c.haltCause, c.closing))
        ∧ ∀ c ∈ u.comps, c.state ≠ .done → ∀ r ∈ c.additives, ∀ j : Fin 8, r.injector = some j →
          t.injectors[j].state = .armed ∧ t.injectors[j].owed = 0)
      ∧ t.queue ++ t.backlog = (a.permits.filter stale).map (fun e => Record.permit e.content.card (settled e) false)
        ++ t.load.toList.map Record.image ++ (if valid then [.checkpoint t.totals, .saveInvalid] else [])
      ∧ t.startRecords = (t.queue ++ t.backlog).length ∧ t.queue.length ≤ 8)
  ∧ (∀ (i : SampledInputs) (s : State), s.phase ≠ .held → exec (.startUp i) s = .next s)
  ∧ (∀ s : State, s.phase ≠ .startUp ∨ 0 < s.startRecords ∨ s.safety.esdInput = none → exec .start s = .next s)
  ∧ ∀ s : State, s.phase = .startUp → s.startRecords = 0 → s.safety.esdInput.isSome = true →
    let v : State := { s with
      phase := .running, started := true
      meters := #v[{ s.meters[0] with gateTimer := some 100 }, { s.meters[1] with gateTimer := some 100 },
        { s.meters[2] with gateTimer := some 100 }, { s.meters[3] with gateTimer := some 100 }]
      scanner := ⟨0, 0#8, some 250⟩
      ports := s.ports.offer ⟨.start, .none, 0,
        BitVec.ofNat 32 ((if s.startMark = .abrupt then 1 else 0) + if s.load.isSome then 2 else 0), s.clock.second⟩ }
    ((∀ l, s.load = some l → l.state ≠ .closing) → exec .start s = .next (State.startWrite v))
    ∧ ∀ l, s.load = some l → l.state = .closing →
      ∃ t u, exec .start s = .next t ∧ t.load = some u
        ∧ u = { l with closeTime := some (l.closeTime.getD (if s.clock.isSet then .taken ⟨s.clock.day, s.clock.second⟩ else .notSet)) }
        ∧ t.slots[l.slot].note = some (u.note s.products)
        ∧ (t.slots[l.slot].state = .composing ∨ t.slots[l.slot].state = .committing)
        ∧ t.meters = v.meters ∧ t.scanner = v.scanner ∧ t.ports = v.ports ∧ t.arms = s.arms ∧ t.phase = .running
        ∧ (s.queue = [] → s.writing = false → s.backlog = [] → s.chargeOwed = none →
          t.slots[l.slot].state = .committing
            ∧ ∃ q, t.queue = .image u :: (q ++ [.commit l.slot (u.note s.products) (s.serial + 1)])
              ∧ q.length ≤ 1 ∧ ∀ r ∈ q, ∃ e, r = .permit l.card e false)
end

