-- ==== Sys2Proof/Laws/Ops.lean ====
section
/-! SUPPORT. What the shared operations do, said once each: the taking of a request, the reading of operand numbers, the drives
to close, and the changes of the suspension cause set. -/

namespace Sys2Proof.Machine

variable (s : State)

/-! ### Fields that may be absent (R188) -/

/-- A group of optional fields takes as many numbers absent as present. -/
theorem optGroup_length {α : Type} {n : Nat} {fields : α → List Int} (h : ∀ y, (fields y).length = n) (x : Option α) :
    (optGroup n fields x).length = n + 1 := by
  cases x <;> simp [optGroup, h]

/-- BAY always carries 22 numbers, whatever is absent (R178). -/
theorem BayStatus.fields_length (b : BayStatus) : b.fields.length = 22 := by
  have hc := optGroup_length (n := 4)
    (fields := fun x : BayContext => [(x.card : Int), (x.eligible : Int)] ++ optNat x.timeLeft)
    (by intro; simp [optNat, optField]) b.context
  have hg := optGroup_length (n := 2) (fields := fun g : Nat × Nat => [(g.1 : Int), (g.2 : Int)]) (by intro; rfl) b.staging
  have hl : (bayLoadFields b.load).length = 10 := by
    cases b.load <;> simp [bayLoadFields, optNat, optField, flagField]
  simp only [BayStatus.fields, List.length_append, List.length_cons, hc, hg, hl]
  simp [flagField]

/-! ### Requests -/

/-- A permitted request is taken by its owner, in the state its window leaves (R165, R168). -/
theorem request_takes {c : ReqCode} {w : Win} {owner : State → State × Reply} {s t : State} {r : Reply}
    (h : s.phase = .running) (hp : permitted c w.port = true) (ho : owner (s.seen c w) = (t, r)) :
    request c w owner s = .next (t.answered w r.status r.payload) := by
  simp [request, State.takesWindows, h, hp, State.take, ho, State.answered]

/-- Before START no window opens (R171, R186). -/
theorem request_unopened {c : ReqCode} {w : Win} {owner : State → State × Reply} {s : State}
    (h : s.takesWindows = false) : request c w owner s = .next (s.noWindow w.port (Win.sent c w).length) := by
  simp [request, h]

/-! ### Operand numbers -/

@[simp] theorem four?_val (a : Fin 4) : four? a.val = some a := by simp [four?]
@[simp] theorem eight?_val (j : Fin 8) : eight? j.val = some j := by simp [eight?]
@[simp] theorem sixteen?_val (c : Fin 16) : sixteen? c.val = some c := by simp [sixteen?]
@[simp] theorem recipeIndex?_succ (i : Fin 16) : recipeIndex? (i.val + 1) = some i := by
  simp [recipeIndex?]

/-- FF hex stands for no arm or pump, and a number below 4 for itself (R188). -/
@[simp] theorem fourOrNone?_elim (p : Option (Fin 4)) : fourOrNone? (p.elim 255 Fin.val) = some p := by
  cases p with
  | none => rfl
  | some a =>
    have h : a.val ≠ 255 := by omega
    simp [fourOrNone?, h]

theorem mem_fours (a : Fin 4) : a ∈ fours := by revert a; decide
theorem mem_eights (j : Fin 8) : j ∈ eights := by revert j; decide

/-! ### What a fold over operations keeps -/

/-- What every step of a fold keeps, the fold keeps. -/
theorem foldl_keeps {α β : Type} (g : State → β) (f : State → α → State) (h : ∀ s x, g (f s x) = g s) (l : List α) (s : State) :
    g (l.foldl f s) = g s := by
  induction l generalizing s with
  | nil => rfl
  | cons x l ih => exact (ih (f s x)).trans (h s x)

/-! ### Parts that a drive to close leaves alone -/

/-- The parts of a state that neither a compartment change nor a drive to close touches. -/
def State.still (s : State) : Vector Pump 4 × Vector Slot 8 × Safety × List PermitEntry × Option Record × State :=
  (s.pumps, s.slots, s.safety, s.permits, s.chargeOwed, s.apart)

@[simp] theorem State.post_still (c : EventCode) (k : ObjectKind) (n : Nat) (v : BitVec 32) :
    (s.post c k n v).still = s.still := rfl
@[simp] theorem State.modifyComp_still (n : Nat) (f : CompRecord → CompRecord) : (s.modifyComp n f).still = s.still := rfl
@[simp] theorem State.modifyLoad_still (f : LoadRecord → LoadRecord) : (s.modifyLoad f).still = s.still := rfl
@[simp] theorem State.modifyArm_still (a : Fin 4) (f : Arm → Arm) : (s.modifyArm a f).still = s.still := rfl
@[simp] theorem State.modifyInjector_still (j : Fin 8) (f : Injector → Injector) :
    (s.modifyInjector j f).still = s.still := rfl
@[simp] theorem State.enqueue_still (r : Record) : (s.enqueue r).still = s.still := rfl
@[simp] theorem State.mapWaiting_still (f : List Record → List Record) : (s.mapWaiting f).still = s.still := by
  unfold State.mapWaiting; split <;> rfl
@[simp] theorem State.refreshImages_still (l : LoadRecord) : (s.refreshImages l).still = s.still :=
  State.mapWaiting_still s _
@[simp] theorem State.queueImage_still (l : LoadRecord) : (s.queueImage l).still = s.still := by
  unfold State.queueImage; split <;> rfl
@[simp] theorem State.imagePoint_still : s.imagePoint.still = s.still := by
  unfold State.imagePoint; (repeat' split) <;> simp
@[simp] theorem State.callCheckpoint_still : s.callCheckpoint.still = s.still := by
  unfold State.callCheckpoint; (repeat' split) <;> first | rfl | simp
@[simp] theorem State.evalLoad_still : s.evalLoad.still = s.still := by
  unfold State.evalLoad; (repeat' split) <;> rfl
@[simp] theorem State.evalComps_still : s.evalComps.still = s.still := by unfold State.evalComps; split <;> simp
@[simp] theorem State.compChanged_still (n : Nat) : (s.compChanged n).still = s.still := by
  unfold State.compChanged; split <;> simp
@[simp] theorem State.modifyBound_still (j : Fin 8) (f : ComponentResult → ComponentResult) :
    (s.modifyBound j f).still = s.still := by
  unfold State.modifyBound; split <;> rfl
@[simp] theorem State.discardOwed_still (j : Fin 8) : (s.discardOwed j).still = s.still := by simp [State.discardOwed]
@[simp] theorem State.cutStroke_still (j : Fin 8) : (s.cutStroke j).still = s.still := by
  unfold State.cutStroke; split <;> simp
@[simp] theorem State.flowStops_still (n : Nat) : (s.flowStops n).still = s.still :=
  foldl_keeps State.still _ (fun s j => by split <;> simp) _ _
@[simp] theorem State.driveClose_still (n : Nat) (r : CloseReason) : (s.driveClose n r).still = s.still := by
  unfold State.driveClose; (repeat' split) <;> simp
@[simp] theorem State.driveAll_still (r : CloseReason) : (s.driveAll r).still = s.still :=
  foldl_keeps State.still _ (by simp) _ _
@[simp] theorem State.postCause_still (e : EventCode) (c : Cause) : (s.postCause e c).still = s.still := by
  unfold State.postCause; split <;> simp
@[simp] theorem State.addCause_still (c : Cause) : (s.addCause c).still = s.still := by
  unfold State.addCause; (repeat' split) <;> simp
@[simp] theorem State.removeCause_still (c : Cause) : (s.removeCause c).still = s.still := by
  unfold State.removeCause; (repeat' split) <;> simp

/-- Two states whose still parts agree have the same pumps, slots, safety record and permits. -/
theorem State.of_still {s t : State} (h : t.still = s.still) :
    t.pumps = s.pumps ∧ t.slots = s.slots ∧ t.safety = s.safety ∧ t.permits = s.permits ∧ t.chargeOwed = s.chargeOwed
      ∧ t.apart = s.apart :=
  ⟨congrArg (·.1) h, congrArg (·.2.1) h, congrArg (·.2.2.1) h, congrArg (·.2.2.2.1) h, congrArg (·.2.2.2.2.1) h,
    congrArg (·.2.2.2.2.2) h⟩

/-- Two states whose parts set apart agree have the same meters, probes, orders, calibration, clock and audit memory. -/
theorem State.of_apart {s t : State} (h : t.apart = s.apart) :
    t.meters = s.meters ∧ t.probes = s.probes ∧ t.orders = s.orders ∧ t.cal = s.cal ∧ t.clock = s.clock
      ∧ t.audit = s.audit ∧ t.phase = s.phase ∧ t.products = s.products := by
  have h1 := congrArg State.meters h
  have h2 := congrArg State.probes h
  have h3 := congrArg State.orders h
  have h4 := congrArg State.cal h
  have h5 := congrArg State.clock h
  have h6 := congrArg State.audit h
  have h7 := congrArg State.phase h
  have h8 := congrArg State.products h
  exact ⟨h1, h2, h3, h4, h5, h6, h7, h8⟩

/-! ### What an image point and a cause taken away leave alone -/

theorem State.imagePoint_keeps :
    s.imagePoint.load = s.load ∧ s.imagePoint.arms = s.arms ∧ s.imagePoint.injectors = s.injectors := by
  unfold State.imagePoint
  (repeat' split) <;> (try exact ⟨rfl, rfl, rfl⟩)
  · unfold State.refreshImages State.mapWaiting; split <;> exact ⟨rfl, rfl, rfl⟩
  · unfold State.queueImage; split <;> exact ⟨rfl, rfl, rfl⟩

theorem State.postCause_keeps (e : EventCode) (c : Cause) :
    (s.postCause e c).load = s.load ∧ (s.postCause e c).arms = s.arms ∧ (s.postCause e c).injectors = s.injectors := by
  unfold State.postCause; split <;> exact ⟨rfl, rfl, rfl⟩

theorem State.evalLoad_keeps : s.evalLoad.arms = s.arms ∧ s.evalLoad.injectors = s.injectors := by
  unfold State.evalLoad; (repeat' split) <;> exact ⟨rfl, rfl⟩

/-- A load whose state is evaluated stands as the table of R12 gives it. -/
theorem LoadRecord.evaluated_tabled (l : LoadRecord) : LoadRecord.Tabled { l with state := l.evaluated } := by
  simp only [LoadRecord.Tabled, LoadRecord.evaluated]
  by_cases hc : l.state = .closing
  · simp [hc]
  · cases he : l.causes.isEmpty <;> simp [hc]

/-- A change of a compartment re-evaluates the load, unless the load is about to enter CLOSING (R12, R17). -/
theorem State.evalComps_load (l : LoadRecord) (h : s.load = some l) :
    s.evalComps.load = some (if l.finishing then l else { l with state := l.evaluated }) := by
  cases hf : l.finishing
  · by_cases he : l.evaluated = l.state <;> simp [State.evalComps, State.evalLoad, State.post, h, hf, he]
  · simp [State.evalComps, h, hf]

/-- The load state alone may change where it is evaluated afresh (R12). -/
theorem State.evalLoad_load (l : LoadRecord) (h : s.load = some l) :
    ∃ u, s.evalLoad.load = some u ∧ u.comps = l.comps ∧ u.causes = l.causes := by
  unfold State.evalLoad; simp only [h]; split
  · exact ⟨l, h, rfl, rfl⟩
  · exact ⟨_, rfl, rfl, rfl⟩

theorem State.removeCause_keeps (c : Cause) :
    (s.removeCause c).arms = s.arms ∧ (s.removeCause c).injectors = s.injectors := by
  unfold State.removeCause
  (repeat' split) <;> (try exact ⟨rfl, rfl⟩)
  simp only [State.evalLoad_keeps, State.imagePoint_keeps, State.postCause_keeps]; exact ⟨rfl, rfl⟩

/-! ### What happens to the compartments of the load -/

/-- The line, state, figures, close reason, halt cause and flags of a compartment. -/
abbrev CompOutline := OrderLine × CompState × Nat × Nat × Option CloseReason × Option HaltCause × CompFlags

def CompRecord.outline (c : CompRecord) : CompOutline :=
  (c.line, c.state, c.gross, c.net, c.closeReason, c.haltCause, c.flags)

/-- The outlines of the compartments, and the cause set, of the open load. -/
def LoadRecord.outline (l : LoadRecord) : List CompOutline × CauseSet := (l.comps.map CompRecord.outline, l.causes)

def State.outline (s : State) : Option (List CompOutline × CauseSet) := s.load.map LoadRecord.outline

@[simp] theorem State.post_outline (c : EventCode) (k : ObjectKind) (n : Nat) (v : BitVec 32) :
    (s.post c k n v).outline = s.outline := rfl
@[simp] theorem State.modifyArm_outline (a : Fin 4) (f : Arm → Arm) : (s.modifyArm a f).outline = s.outline := rfl
@[simp] theorem State.modifyInjector_outline (j : Fin 8) (f : Injector → Injector) :
    (s.modifyInjector j f).outline = s.outline := rfl
@[simp] theorem State.mapWaiting_outline (f : List Record → List Record) : (s.mapWaiting f).outline = s.outline := by
  unfold State.mapWaiting; split <;> rfl
@[simp] theorem State.refreshImages_outline (l : LoadRecord) : (s.refreshImages l).outline = s.outline :=
  State.mapWaiting_outline s _
@[simp] theorem State.queueImage_outline (l : LoadRecord) : (s.queueImage l).outline = s.outline := by
  unfold State.queueImage; split <;> rfl
@[simp] theorem State.imagePoint_outline : s.imagePoint.outline = s.outline := by
  unfold State.imagePoint; (repeat' split) <;> simp
@[simp] theorem State.evalLoad_outline : s.evalLoad.outline = s.outline := by
  unfold State.evalLoad
  split
  · rfl
  · rename_i l hl
    split
    · rfl
    · simp [State.outline, State.post, hl, LoadRecord.outline]
@[simp] theorem State.evalComps_outline : s.evalComps.outline = s.outline := by unfold State.evalComps; split <;> simp
@[simp] theorem State.compChanged_outline (n : Nat) : (s.compChanged n).outline = s.outline := by
  unfold State.compChanged; split <;> simp
@[simp] theorem State.postCause_outline (e : EventCode) (c : Cause) : (s.postCause e c).outline = s.outline := by
  unfold State.postCause; split <;> simp

theorem LoadRecord.modifyComp_outline (n : Nat) (f : CompRecord → CompRecord) (l : LoadRecord)
    (h : ∀ c, (f c).outline = c.outline) : (l.modifyComp n f).outline = l.outline := by
  simp only [LoadRecord.outline, LoadRecord.modifyComp, List.map_map, Prod.mk.injEq, and_true]
  refine List.map_congr_left fun c _ => ?_
  simp only [Function.comp]
  split
  · exact h c
  · rfl

@[simp] theorem State.modifyResult_outline (b : Binding) (f : ComponentResult → ComponentResult) :
    (s.modifyResult b f).outline = s.outline := by
  simp only [State.outline, State.modifyResult, State.modifyComp, State.modifyLoad, Option.map_map]
  cases s.load with
  | none => rfl
  | some l => exact congrArg some (LoadRecord.modifyComp_outline _ _ l fun _ => rfl)

@[simp] theorem State.modifyBound_outline (j : Fin 8) (f : ComponentResult → ComponentResult) :
    (s.modifyBound j f).outline = s.outline := by
  unfold State.modifyBound; split <;> simp
@[simp] theorem State.discardOwed_outline (j : Fin 8) : (s.discardOwed j).outline = s.outline := by
  simp [State.discardOwed]
@[simp] theorem State.cutStroke_outline (j : Fin 8) : (s.cutStroke j).outline = s.outline := by
  unfold State.cutStroke; split <;> simp
@[simp] theorem State.cutStrokes_outline : s.cutStrokes.outline = s.outline :=
  foldl_keeps State.outline _ (by simp) _ _
@[simp] theorem State.flowStops_outline (n : Nat) : (s.flowStops n).outline = s.outline :=
  foldl_keeps State.outline _ (fun s j => by split <;> simp) _ _

/-- The outline of a compartment driven to close for a reason (R14). -/
def CompOutline.driven (r : CloseReason) (x : CompOutline) : CompOutline :=
  if x.2.1.isDrivable then (x.1, .closing, x.2.2.1, x.2.2.2.1, some r, x.2.2.2.2.2) else x

@[simp] theorem CompOutline.driven_line (r : CloseReason) (x : CompOutline) : (x.driven r).1 = x.1 := by
  unfold CompOutline.driven; split <;> rfl

@[simp] theorem CompOutline.driven_driven (r : CloseReason) (x : CompOutline) : (x.driven r).driven r = x.driven r := by
  obtain ⟨line, state, rest⟩ := x
  cases state <;> rfl

/-- A drive of one compartment, where the compartment numbers of the load differ: that compartment is driven, no other
changes (R14). -/
theorem State.driveClose_outline (n : Nat) (r : CloseReason) (s : State) (xs : List CompOutline) (cs : CauseSet)
    (h : s.outline = some (xs, cs)) (hn : (xs.map fun x => x.1.compartment).Nodup) :
    (s.driveClose n r).outline = some (xs.map fun x => if x.1.compartment = n then x.driven r else x, cs) := by
  obtain ⟨l, hl, ho⟩ := Option.map_eq_some_iff.1 h
  obtain ⟨rfl, rfl⟩ := Prod.mk.inj ho
  have hn : (l.comps.map fun c => c.line.compartment).Nodup := by
    simpa [CompRecord.outline, List.map_map, Function.comp_def] using hn
  have keep : (∀ c ∈ l.comps, c.line.compartment = n → c.state.isDrivable = false) → s.outline = some (List.map
      (fun x : CompOutline => if x.1.compartment = n then x.driven r else x) (l.comps.map CompRecord.outline), l.causes) := by
    intro hk
    simp only [State.outline, hl, Option.map_some, LoadRecord.outline, List.map_map, Option.some.injEq, Prod.mk.injEq,
      and_true]
    refine List.map_congr_left fun c hc => ?_
    by_cases hcn : c.line.compartment = n
    · simp [CompRecord.outline, CompOutline.driven, hk c hc hcn]
    · simp [CompRecord.outline, hcn]
  unfold State.driveClose
  simp only [State.comp?, hl, Option.bind_some, LoadRecord.comp?]
  split
  · rename_i h
    have h : ∀ c ∈ l.comps, ¬ c.line.compartment = n := by simpa using h
    exact keep fun c hc hcn => absurd hcn (h c hc)
  · rename_i c h
    have hc := List.mem_of_find?_eq_some h
    have hcn : c.line.compartment = n := by simpa using List.find?_some h
    have huniq : ∀ d ∈ l.comps, d.line.compartment = n → d = c := fun d hd hdn =>
      List.inj_on_of_nodup_map hn hd hc (by simp [hdn, hcn])
    split
    · rename_i hd
      simp only [State.compChanged_outline, State.flowStops_outline, State.modifyArm_outline]
      simp only [State.outline, State.modifyComp, State.modifyLoad, hl, Option.map_some, LoadRecord.outline,
        LoadRecord.modifyComp, List.map_map, Option.some.injEq, Prod.mk.injEq, and_true]
      refine List.map_congr_left fun d hdm => ?_
      by_cases hdn : d.line.compartment = n
      · have := huniq d hdm hdn; subst this
        simp [hdn, CompRecord.outline, CompOutline.driven, hd]
      · simp [hdn, CompRecord.outline]
    · rename_i hd
      exact keep fun d hdm hdn => by rw [huniq d hdm hdn]; simpa using hd

/-- A run of drives, where the compartment numbers of the load differ: each compartment named is driven (R14). -/
theorem State.driveEach_outline (ns : List Nat) (r : CloseReason) (s : State) (xs : List CompOutline) (cs : CauseSet)
    (h : s.outline = some (xs, cs)) (hn : (xs.map fun x => x.1.compartment).Nodup) :
    (ns.foldl (fun s n => s.driveClose n r) s).outline
      = some (xs.map fun x => if x.1.compartment ∈ ns then x.driven r else x, cs) := by
  induction ns generalizing s xs with
  | nil => simpa using h
  | cons n ns ih =>
    have line : ∀ x : CompOutline, (if x.1.compartment = n then x.driven r else x).1.compartment = x.1.compartment :=
      fun x => by split <;> simp
    refine (ih _ _ (State.driveClose_outline n r s xs cs h hn)
      (by simpa [List.map_map, Function.comp_def, line] using hn)).trans ?_
    simp only [List.map_map, Option.some.injEq, Prod.mk.injEq, and_true]
    refine List.map_congr_left fun x _ => ?_
    simp only [Function.comp, line, List.mem_cons]
    by_cases h1 : x.1.compartment = n <;> by_cases h2 : x.1.compartment ∈ ns <;> simp only [h1, h2] <;> simp_all

/-- A drive of every compartment (R18, R21). -/
theorem State.driveAll_outline (r : CloseReason) (s : State) (xs : List CompOutline) (cs : CauseSet)
    (h : s.outline = some (xs, cs)) (hn : (xs.map fun x => x.1.compartment).Nodup) :
    (s.driveAll r).outline = some (xs.map (CompOutline.driven r), cs) := by
  refine (State.driveEach_outline s.compNumbers r s xs cs h hn).trans ?_
  obtain ⟨l, hl, ho⟩ := Option.map_eq_some_iff.1 h
  obtain ⟨rfl, rfl⟩ := Prod.mk.inj ho
  simp only [Option.some.injEq, Prod.mk.injEq, and_true]
  refine List.map_congr_left fun x hx => ?_
  obtain ⟨c, hc, rfl⟩ := List.mem_map.1 hx
  have : c.outline.1.compartment ∈ s.compNumbers := by
    simp only [State.compNumbers, hl, List.mem_map]; exact ⟨c, hc, rfl⟩
  simp [this]

theorem CauseSet.put_false_of_not_has (c : Cause) (y : CauseSet) (h : y.has c = false) : y.put false c = y := by
  obtain ⟨esd, permissive, deadman, stopAll, power⟩ := y
  cases c <;> simp_all [CauseSet.has, CauseSet.put]

theorem State.modifyCauses_outline (f : CauseSet → CauseSet) (xs : List CompOutline) (cs : CauseSet)
    (h : s.outline = some (xs, cs)) :
    (s.modifyLoad fun l => { l with causes := f l.causes }).outline = some (xs, f cs) := by
  obtain ⟨l, hl, ho⟩ := Option.map_eq_some_iff.1 h
  obtain ⟨rfl, rfl⟩ := Prod.mk.inj ho
  simp [State.outline, State.modifyLoad, hl, LoadRecord.outline]

/-- A cause put into the set of a load that lacks it (R21): every compartment is driven, and the set holds it. -/
theorem State.addCause_outline (c : Cause) (s : State) (xs : List CompOutline) (cs : CauseSet)
    (h : s.outline = some (xs, cs)) (hc : cs.has c = false) (hn : (xs.map fun x => x.1.compartment).Nodup) :
    (s.addCause c).outline = some (xs.map (CompOutline.driven (.halt c.haltCause)), cs.put true c) := by
  have h' := State.modifyCauses_outline _ (fun y => y.put true c) _ _ (State.driveAll_outline (.halt c.haltCause) s xs cs h hn)
  obtain ⟨l, hl, ho⟩ := Option.map_eq_some_iff.1 h
  obtain ⟨rfl, rfl⟩ := Prod.mk.inj ho
  unfold State.addCause
  simpa only [hl, hc, Bool.false_eq_true, if_false, State.postCause_outline, State.imagePoint_outline,
    State.evalLoad_outline] using h'

/-- A cause taken out of the set of a load (R22). -/
theorem State.removeCause_outline (c : Cause) (s : State) (xs : List CompOutline) (cs : CauseSet)
    (h : s.outline = some (xs, cs)) : (s.removeCause c).outline = some (xs, cs.put false c) := by
  have h' := State.modifyCauses_outline s (fun y => y.put false c) xs cs h
  obtain ⟨l, hl, ho⟩ := Option.map_eq_some_iff.1 h
  obtain ⟨rfl, rfl⟩ := Prod.mk.inj ho
  unfold State.removeCause
  simp only [hl]
  split
  · simpa using h'
  · rename_i hc
    rw [CauseSet.put_false_of_not_has _ _ (by simpa using hc)]; exact h

/-- Taking a cause away moves no compartment (R22). -/
theorem State.removeCause_load (c : Cause) (l : LoadRecord) (h : s.load = some l) :
    ∃ u, (s.removeCause c).load = some u ∧ u.comps = l.comps ∧ u.causes = l.causes.put false c := by
  unfold State.removeCause; simp only [h]; split
  · exact State.evalLoad_load _ { l with causes := l.causes.put false c }
      (by rw [(State.imagePoint_keeps _).1, (State.postCause_keeps _ _ _).1]; simp [h])
  · rename_i hc
    exact ⟨l, h, rfl, (CauseSet.put_false_of_not_has _ _ (by simpa using hc)).symm⟩

theorem State.outline_load {s : State} {xs : List CompOutline} {cs : CauseSet} (h : s.outline = some (xs, cs)) :
    ∃ u, s.load = some u ∧ u.comps.map CompRecord.outline = xs ∧ u.causes = cs := by
  obtain ⟨l, hl, ho⟩ := Option.map_eq_some_iff.1 h
  obtain ⟨rfl, rfl⟩ := Prod.mk.inj ho
  exact ⟨l, hl, rfl, rfl⟩

/-- Once driven, no compartment is drivable, and each that was is in CLOSING for the reason. -/
theorem driven_comps {r : CloseReason} {l u : LoadRecord}
    (h : u.comps.map CompRecord.outline = (l.comps.map CompRecord.outline).map (CompOutline.driven r)) :
    (∀ c ∈ u.comps, c.state.isDrivable = false)
      ∧ ∀ c ∈ l.comps, c.state.isDrivable = true →
        ∃ c' ∈ u.comps, c'.line = c.line ∧ c'.state = .closing ∧ c'.closeReason = some r := by
  constructor
  · intro x hx
    have hm : x.outline ∈ u.comps.map CompRecord.outline := List.mem_map_of_mem hx
    rw [h] at hm
    simp only [List.mem_map] at hm
    obtain ⟨_, ⟨d, _, rfl⟩, hd⟩ := hm
    by_cases hdr : d.state.isDrivable
    · simp only [CompOutline.driven, CompRecord.outline, hdr, if_true, Prod.mk.injEq] at hd
      rw [← hd.2.1]; rfl
    · simp only [CompOutline.driven, CompRecord.outline, hdr] at hd
      simp only [Bool.false_eq_true, if_false, Prod.mk.injEq] at hd
      rw [← hd.2.1]; simpa using hdr
  · intro d hd hdr
    have hm : d.outline.driven r ∈ u.comps.map CompRecord.outline := by
      rw [h]; exact List.mem_map_of_mem (List.mem_map_of_mem hd)
    obtain ⟨x, hx, he⟩ := List.mem_map.1 hm
    simp only [CompOutline.driven, CompRecord.outline, hdr, if_true, Prod.mk.injEq] at he
    exact ⟨x, hx, he.1, he.2.1, he.2.2.2.2.1⟩

/-- A cause put into the set of a load that lacks it (R21), read at the compartments. -/
theorem State.addCause_load (c : Cause) (l : LoadRecord) (hl : s.load = some l) (hc : l.causes.has c = false)
    (hn : (l.comps.map fun c => c.line.compartment).Nodup) :
    ∃ u, (s.addCause c).load = some u ∧ u.causes = l.causes.put true c ∧ (∀ x ∈ u.comps, x.state.isDrivable = false)
      ∧ ∀ x ∈ l.comps, x.state.isDrivable = true →
        ∃ x' ∈ u.comps, x'.line = x.line ∧ x'.state = .closing ∧ x'.closeReason = some (.halt c.haltCause) := by
  obtain ⟨u, h1, h2, h3⟩ := State.outline_load (State.addCause_outline c s (l.comps.map CompRecord.outline) l.causes
    (by simp [State.outline, hl, LoadRecord.outline]) hc
    (by simpa [List.map_map, Function.comp_def, CompRecord.outline] using hn))
  exact ⟨u, h1, h3, driven_comps h2⟩

end Sys2Proof.Machine
end

