-- ==== Sys2Proof/Laws/PerInstr.lean ====
section
/-! SUPPORT. What holds of every command as syntax: giving a request another window changes neither its request code nor
whether its arguments fit their fields, and a command that is no request takes no window. -/

namespace Sys2Proof.Laws.Window

open Sys2Proof.Machine

/-- A window carries a request and is no part of what it asks. -/
def Statement (i : Instr) : Prop :=
  ∀ w : Win, reqCode? (withWin w i) = reqCode? i ∧ (withWin w i).fits = i.fits
    ∧ withWin w (withWin w i) = withWin w i ∧ (reqCode? i = none → withWin w i = i)

theorem nop : ∀ x0, Statement (.nop x0) := fun _ _ => ⟨rfl, rfl, rfl, (fun h => by cases h)⟩
theorem statusRead : ∀ x0 x1 x2 x3, Statement (.statusRead x0 x1 x2 x3) := fun _ _ _ _ _ => ⟨rfl, rfl, rfl, (fun h => by cases h)⟩
theorem totalsRead : ∀ x0 x1, Statement (.totalsRead x0 x1) := fun _ _ _ => ⟨rfl, rfl, rfl, (fun h => by cases h)⟩
theorem eventRead : ∀ x0, Statement (.eventRead x0) := fun _ _ => ⟨rfl, rfl, rfl, (fun h => by cases h)⟩
theorem productPut : ∀ x0 x1 x2, Statement (.productPut x0 x1 x2) := fun _ _ _ _ => ⟨rfl, rfl, rfl, (fun h => by cases h)⟩
theorem productRead : ∀ x0 x1, Statement (.productRead x0 x1) := fun _ _ _ => ⟨rfl, rfl, rfl, (fun h => by cases h)⟩
theorem orderBegin : ∀ x0 x1 x2 x3 x4, Statement (.orderBegin x0 x1 x2 x3 x4) := fun _ _ _ _ _ _ => ⟨rfl, rfl, rfl, (fun h => by cases h)⟩
theorem orderLine : ∀ x0 x1 x2, Statement (.orderLine x0 x1 x2) := fun _ _ _ _ => ⟨rfl, rfl, rfl, (fun h => by cases h)⟩
theorem orderCancel : ∀ x0 x1, Statement (.orderCancel x0 x1) := fun _ _ _ => ⟨rfl, rfl, rfl, (fun h => by cases h)⟩
theorem orderAmend : ∀ x0 x1 x2 x3, Statement (.orderAmend x0 x1 x2 x3) := fun _ _ _ _ _ => ⟨rfl, rfl, rfl, (fun h => by cases h)⟩
theorem compartmentStart : ∀ x0 x1, Statement (.compartmentStart x0 x1) := fun _ _ _ => ⟨rfl, rfl, rfl, (fun h => by cases h)⟩
theorem compartmentStop : ∀ x0 x1, Statement (.compartmentStop x0 x1) := fun _ _ _ => ⟨rfl, rfl, rfl, (fun h => by cases h)⟩
theorem loadFinish : ∀ x0, Statement (.loadFinish x0) := fun _ _ => ⟨rfl, rfl, rfl, (fun h => by cases h)⟩
theorem loadResume : ∀ x0, Statement (.loadResume x0) := fun _ _ => ⟨rfl, rfl, rfl, (fun h => by cases h)⟩
theorem loadAbort : ∀ x0, Statement (.loadAbort x0) := fun _ _ => ⟨rfl, rfl, rfl, (fun h => by cases h)⟩
theorem timeSet : ∀ x0 x1 x2, Statement (.timeSet x0 x1 x2) := fun _ _ _ _ => ⟨rfl, rfl, rfl, (fun h => by cases h)⟩
theorem permitPut : ∀ x0 x1, Statement (.permitPut x0 x1) := fun _ _ _ => ⟨rfl, rfl, rfl, (fun h => by cases h)⟩
theorem permitDelete : ∀ x0 x1, Statement (.permitDelete x0 x1) := fun _ _ _ => ⟨rfl, rfl, rfl, (fun h => by cases h)⟩
theorem permitBlock : ∀ x0 x1, Statement (.permitBlock x0 x1) := fun _ _ _ => ⟨rfl, rfl, rfl, (fun h => by cases h)⟩
theorem permitUnblock : ∀ x0 x1, Statement (.permitUnblock x0 x1) := fun _ _ _ => ⟨rfl, rfl, rfl, (fun h => by cases h)⟩
theorem permitRead : ∀ x0 x1, Statement (.permitRead x0 x1) := fun _ _ _ => ⟨rfl, rfl, rfl, (fun h => by cases h)⟩
theorem careMaskSet : ∀ x0 x1, Statement (.careMaskSet x0 x1) := fun _ _ _ => ⟨rfl, rfl, rfl, (fun h => by cases h)⟩
theorem cardPresent : ∀ x0 x1, Statement (.cardPresent x0 x1) := fun _ _ _ => ⟨rfl, rfl, rfl, (fun h => by cases h)⟩
theorem cardWithdraw : ∀ x0, Statement (.cardWithdraw x0) := fun _ _ => ⟨rfl, rfl, rfl, (fun h => by cases h)⟩
theorem orderList : ∀ x0 x1, Statement (.orderList x0 x1) := fun _ _ _ => ⟨rfl, rfl, rfl, (fun h => by cases h)⟩
theorem orderSelect : ∀ x0 x1, Statement (.orderSelect x0 x1) := fun _ _ _ => ⟨rfl, rfl, rfl, (fun h => by cases h)⟩
theorem armConfig : ∀ x0 x1 x2, Statement (.armConfig x0 x1 x2) := fun _ _ _ _ => ⟨rfl, rfl, rfl, (fun h => by cases h)⟩
theorem armClear : ∀ x0 x1, Statement (.armClear x0 x1) := fun _ _ _ => ⟨rfl, rfl, rfl, (fun h => by cases h)⟩
theorem armBlock : ∀ x0 x1, Statement (.armBlock x0 x1) := fun _ _ _ => ⟨rfl, rfl, rfl, (fun h => by cases h)⟩
theorem armUnblock : ∀ x0 x1, Statement (.armUnblock x0 x1) := fun _ _ _ => ⟨rfl, rfl, rfl, (fun h => by cases h)⟩
theorem pumpConfig : ∀ x0 x1 x2, Statement (.pumpConfig x0 x1 x2) := fun _ _ _ _ => ⟨rfl, rfl, rfl, (fun h => by cases h)⟩
theorem pumpReset : ∀ x0 x1, Statement (.pumpReset x0 x1) := fun _ _ _ => ⟨rfl, rfl, rfl, (fun h => by cases h)⟩
theorem injectorAssign : ∀ x0 x1 x2 x3 x4, Statement (.injectorAssign x0 x1 x2 x3 x4) := fun _ _ _ _ _ _ => ⟨rfl, rfl, rfl, (fun h => by cases h)⟩
theorem injectorReset : ∀ x0 x1, Statement (.injectorReset x0 x1) := fun _ _ _ => ⟨rfl, rfl, rfl, (fun h => by cases h)⟩
theorem recipePut : ∀ x0 x1 x2 x3, Statement (.recipePut x0 x1 x2 x3) := fun _ _ _ _ _ => ⟨rfl, rfl, rfl, (fun h => by cases h)⟩
theorem recipeRead : ∀ x0 x1, Statement (.recipeRead x0 x1) := fun _ _ _ => ⟨rfl, rfl, rfl, (fun h => by cases h)⟩
theorem deadmanConfig : ∀ x0 x1 x2, Statement (.deadmanConfig x0 x1 x2) := fun _ _ _ _ => ⟨rfl, rfl, rfl, (fun h => by cases h)⟩
theorem deadman : ∀ x0 x1, Statement (.deadman x0 x1) := fun _ _ _ => ⟨rfl, rfl, rfl, (fun h => by cases h)⟩
theorem permissiveReport : ∀ x0 x1 x2 x3, Statement (.permissiveReport x0 x1 x2 x3) := fun _ _ _ _ _ => ⟨rfl, rfl, rfl, (fun h => by cases h)⟩
theorem stopAll : ∀ x0 x1, Statement (.stopAll x0 x1) := fun _ _ _ => ⟨rfl, rfl, rfl, (fun h => by cases h)⟩
theorem resume : ∀ x0, Statement (.resume x0) := fun _ _ => ⟨rfl, rfl, rfl, (fun h => by cases h)⟩
theorem esdReset : ∀ x0, Statement (.esdReset x0) := fun _ _ => ⟨rfl, rfl, rfl, (fun h => by cases h)⟩
theorem meterErrors : ∀ x0 x1, Statement (.meterErrors x0 x1) := fun _ _ _ => ⟨rfl, rfl, rfl, (fun h => by cases h)⟩
theorem meterClearDebt : ∀ x0 x1, Statement (.meterClearDebt x0 x1) := fun _ _ _ => ⟨rfl, rfl, rfl, (fun h => by cases h)⟩
theorem calWrite : ∀ x0 x1 x2, Statement (.calWrite x0 x1 x2) := fun _ _ _ _ => ⟨rfl, rfl, rfl, (fun h => by cases h)⟩
theorem calRead : ∀ x0 x1 x2, Statement (.calRead x0 x1 x2) := fun _ _ _ _ => ⟨rfl, rfl, rfl, (fun h => by cases h)⟩
theorem noteConfig : ∀ x0 x1, Statement (.noteConfig x0 x1) := fun _ _ _ => ⟨rfl, rfl, rfl, (fun h => by cases h)⟩
theorem noteRelease : ∀ x0 x1, Statement (.noteRelease x0 x1) := fun _ _ _ => ⟨rfl, rfl, rfl, (fun h => by cases h)⟩
theorem notePrinted : ∀ x0 x1, Statement (.notePrinted x0 x1) := fun _ _ _ => ⟨rfl, rfl, rfl, (fun h => by cases h)⟩
theorem noteOpen : ∀ x0 x1 x2 x3 x4, Statement (.noteOpen x0 x1 x2 x3 x4) := fun _ _ _ _ _ _ => ⟨rfl, rfl, rfl, (fun h => by cases h)⟩
theorem noteRead : ∀ x0, Statement (.noteRead x0) := fun _ _ => ⟨rfl, rfl, rfl, (fun h => by cases h)⟩
theorem selectWindow : ∀ x0 x1, Statement (.selectWindow x0 x1) := fun _ _ _ => ⟨rfl, rfl, rfl, (fun _ => rfl)⟩
theorem quadratureStep : ∀ x0 x1, Statement (.quadratureStep x0 x1) := fun _ _ _ => ⟨rfl, rfl, rfl, (fun _ => rfl)⟩
theorem integrityError : ∀ x0, Statement (.integrityError x0) := fun _ _ => ⟨rfl, rfl, rfl, (fun _ => rfl)⟩
theorem gateExpiry : ∀ x0, Statement (.gateExpiry x0) := fun _ _ => ⟨rfl, rfl, rfl, (fun _ => rfl)⟩
theorem pollSlot : ∀ x0, Statement (.pollSlot x0) := fun _ _ => ⟨rfl, rfl, rfl, (fun _ => rfl)⟩
theorem settleTimerExpiry : ∀ x0, Statement (.settleTimerExpiry x0) := fun _ _ => ⟨rfl, rfl, rfl, (fun _ => rfl)⟩
theorem closeTimerExpiry : ∀ x0, Statement (.closeTimerExpiry x0) := fun _ _ => ⟨rfl, rfl, rfl, (fun _ => rfl)⟩
theorem pumpFeedback : ∀ x0 x1, Statement (.pumpFeedback x0 x1) := fun _ _ _ => ⟨rfl, rfl, rfl, (fun _ => rfl)⟩
theorem startTimerExpiry : ∀ x0, Statement (.startTimerExpiry x0) := fun _ _ => ⟨rfl, rfl, rfl, (fun _ => rfl)⟩
theorem runOnTimerExpiry : ∀ x0, Statement (.runOnTimerExpiry x0) := fun _ _ => ⟨rfl, rfl, rfl, (fun _ => rfl)⟩
theorem injectorFeedback : ∀ x0 x1, Statement (.injectorFeedback x0 x1) := fun _ _ _ => ⟨rfl, rfl, rfl, (fun _ => rfl)⟩
theorem feedbackTimerExpiry : ∀ x0, Statement (.feedbackTimerExpiry x0) := fun _ _ => ⟨rfl, rfl, rfl, (fun _ => rfl)⟩
theorem esdInputChange : ∀ x0, Statement (.esdInputChange x0) := fun _ _ => ⟨rfl, rfl, rfl, (fun _ => rfl)⟩
theorem validityTimerExpiry : Statement .validityTimerExpiry := fun _ => ⟨rfl, rfl, rfl, (fun _ => rfl)⟩
theorem firstExpiry : Statement .firstExpiry := fun _ => ⟨rfl, rfl, rfl, (fun _ => rfl)⟩
theorem secondExpiry : Statement .secondExpiry := fun _ => ⟨rfl, rfl, rfl, (fun _ => rfl)⟩
theorem contextTimerExpiry : Statement .contextTimerExpiry := fun _ => ⟨rfl, rfl, rfl, (fun _ => rfl)⟩
theorem holdTimerExpiry : ∀ x0, Statement (.holdTimerExpiry x0) := fun _ _ => ⟨rfl, rfl, rfl, (fun _ => rfl)⟩
theorem sealInputChange : ∀ x0, Statement (.sealInputChange x0) := fun _ _ => ⟨rfl, rfl, rfl, (fun _ => rfl)⟩
theorem bayClockSecond : Statement .bayClockSecond := fun _ => ⟨rfl, rfl, rfl, (fun _ => rfl)⟩
theorem recordWriteComplete : Statement .recordWriteComplete := fun _ => ⟨rfl, rfl, rfl, (fun _ => rfl)⟩
theorem saveWriteComplete : Statement .saveWriteComplete := fun _ => ⟨rfl, rfl, rfl, (fun _ => rfl)⟩
theorem pfailAssertion : Statement .pfailAssertion := fun _ => ⟨rfl, rfl, rfl, (fun _ => rfl)⟩
theorem resetAssertion : ∀ x0, Statement (.resetAssertion x0) := fun _ _ => ⟨rfl, rfl, rfl, (fun _ => rfl)⟩
theorem startUp : ∀ x0, Statement (.startUp x0) := fun _ _ => ⟨rfl, rfl, rfl, (fun _ => rfl)⟩
theorem start : Statement .start := fun _ => ⟨rfl, rfl, rfl, (fun _ => rfl)⟩
theorem lossOfPower : ∀ x0, Statement (.lossOfPower x0) := fun _ _ => ⟨rfl, rfl, rfl, (fun _ => rfl)⟩

end Sys2Proof.Laws.Window
end

