-- ==== Sys2Proof/Tests/Slice0.lean ====
section
/-! SUPPORT. Tests: ill-formed commands refused by each check, the manual's worked figures, and for each statement with
hypotheses a concrete state and operands that meet them, clause by clause. -/

namespace Sys2Proof.Tests

open Sys2Proof.Machine

/-! ### Small states -/

/-- A part as delivered, running. -/
def run : State := { State.reset with phase := .running }

/-- A window of a port whose frame carries a payload, and one more byte after it. -/
def sent (p : Port) (payload : List Byte) : Win := ⟨p, 0x2A#8, payload, [0x00#8]⟩

/-- A window of a request with no payload. -/
def win (p : Port) : Win := sent p []

/-- A window of a request whose payload has a length. -/
def sized (p : Port) (n : Nat) : Win := sent p (List.replicate n 0x01#8)

/-- A line of a compartment on arm A0 of product 0, 8000 L. -/
def line (n : Nat) : OrderLine := ⟨n, 0, 0, 8000, .gross, 0⟩

/-- A compartment record of such a line. -/
def comp (n : Nat) (st : CompState) : CompRecord := { CompRecord.initial (line n) with state := st }

/-- A load of compartments, order 40217 for card 7 in slot 0. -/
def load (cs : List CompRecord) : LoadRecord :=
  ⟨.opened, 7, none, 40217, none, none, cs, ⟨0, 0⟩, none, 0, 0, {}, false⟩

/-- A running part with a load open. -/
def loaded (cs : List CompRecord) : State := { run with load := some (load cs) }

/-- An arm in a state that serves a compartment. -/
def serving (n : Nat) (st : ArmState) : Arm := { run.arms[0] with state := st, served := some n }

/-- A running part whose arm A0 serves compartment 1. -/
def staged (cst : CompState) (st : ArmState) : State :=
  { loaded [comp 1 cst] with arms := run.arms.set 0 (serving 1 st) }

/-- A permit entry of a card. -/
def permit (card : Nat) : PermitEntry := ⟨⟨card, none, 0xFFFF#16, 65535, 255, .active⟩, false, .none⟩

/-- A queue of records one place short of full. -/
def seven : List Record := List.replicate 7 (.noteConfig 1)

def eight : List Record := List.replicate 8 (.noteConfig 1)

/-! ### Ill-formed commands -/

/-- A field past its width, in a payload of the request's length. -/
theorem test_wf_product : (Instr.productPut (sized .tp 15) 256 ⟨[], 0, 0, 0, .yes⟩).wellFormed = false := by decide
theorem test_wf_productFields : (Instr.productPut (sized .tp 15) 1 ⟨[], 65536, 0, 256, .yes⟩).wellFormed = false := by decide
theorem test_wf_name :
    (Instr.productPut (sized .tp 15) 1 ⟨List.replicate 9 0x41#8, 0, 0, 0, .yes⟩).wellFormed = false := by decide
theorem test_wf_orderNumber : (Instr.orderBegin (sized .tp 12) 16777216 none none 1).wellFormed = false := by decide
theorem test_wf_orderBinding : (Instr.orderBegin (sized .tp 12) 1 (some 4294967296) none 1).wellFormed = false := by decide
theorem test_wf_arm : (Instr.armConfig (sized .tp 14) 0 ⟨0, 0, 0, 0, 256, 0, 10⟩).wellFormed = false := by decide
theorem test_wf_pump : (Instr.pumpConfig (sized .tp 4) 0 ⟨256, 0, 0⟩).wellFormed = false := by decide
theorem test_wf_injector : (Instr.injectorAssign (sized .tp 5) 0 0 0 65536).wellFormed = false := by decide
theorem test_wf_recipe : (Instr.recipePut (sized .tp 8) 1 .yes [⟨0, 65536, 1, .no⟩]).wellFormed = false := by decide
theorem test_wf_recipeLength :
    (Instr.recipePut (sized .tp 63) 1 .yes (List.replicate 12 ⟨0, 10, 1, .no⟩)).wellFormed = false := by decide
theorem test_wf_time : (Instr.timeSet (sized .tp 5) 65536 0).wellFormed = false := by decide
theorem test_wf_serial : (Instr.noteOpen (sized .pp 7) 4294967296 0 0 0).wellFormed = false := by decide
theorem test_wf_totals : (Instr.totalsRead (sized .sp 2) (.meter 256)).wellFormed = false := by decide
theorem test_wf_card : (Instr.cardPresent (sized .pp 4) 4294967296).wellFormed = false
    ∧ (Instr.cardPresent (sized .pp 4) 4294967295).wellFormed = true := by decide

/-- A payload of another length than the request's (assumption log 29). -/
theorem test_wf_length : (Instr.cardPresent (sized .pp 3) 7).wellFormed = false
    ∧ (Instr.nop (sized .tp 1)).wellFormed = false ∧ (Instr.nop (win .tp)).wellFormed = true := by decide

/-- R178: STATUS-READ carries an index only where its section needs one. -/
theorem test_wf_status : (Instr.statusRead (sized .sp 1) 0 0 0).wellFormed = true
    ∧ (Instr.statusRead (sized .sp 3) 0 0 0).wellFormed = false ∧ (Instr.statusRead (sized .sp 1) 6 1 0).wellFormed = false
    ∧ (Instr.statusRead (sized .sp 2) 3 3 0).wellFormed = true ∧ (Instr.statusRead (sized .sp 2) 5 7 1).wellFormed = false
    ∧ (Instr.statusRead (sized .sp 3) 2 8 2).wellFormed = true ∧ (Instr.statusRead (sized .sp 3) 2 256 2).wellFormed = false := by
  decide

/-- The payloads of ORDER-LINE, ORDER-LIST, PERMIT-PUT and CAL-WRITE as section 11.5 prints them, and other rows of them. -/
theorem test_wf_line :
    let w := sent .tp [0x02, 0x08, 0x03, 0x0F, 0xC3, 0x50, 0x01, 0x10]
    (Instr.orderLine w 2 ⟨8, 3, 15, 50000, 1, 16⟩).wellFormed = true
      ∧ (Instr.orderLine w 2 ⟨8, 3, 15, 50001, 1, 16⟩).wellFormed = false := by decide +kernel
theorem test_wf_list : (Instr.orderList (sent .pp [0x04]) 4).wellFormed = true
    ∧ (Instr.orderList (sent .pp [0x04]) 5).wellFormed = false := by decide +kernel
theorem test_wf_permit :
    let w := sent .tp [0x00, 0x00, 0x00, 0x07, 0x01, 0x00, 0x09, 0x00, 0x03, 0x02, 0x01, 0xFF, 0x01]
    (Instr.permitPut w ⟨7, some 9, 3, 513, 255, 1⟩).wellFormed = true
      ∧ (Instr.permitPut w ⟨7, none, 3, 513, 255, 1⟩).wellFormed = false := by decide +kernel
theorem test_wf_curve :
    let w := sent .tp [0x01, 0x03, 0x02, 0x0F, 0xA0, 0x01, 0x87, 0x18, 0x2E, 0xE0, 0x01, 0x86, 0xD2]
    (Instr.calWrite w 3 (.factorCurve 2 [(4000, 100120), (12000, 100050)])).wellFormed = true
      ∧ (Instr.calWrite w 3 (.factorCurve 1 [(4000, 100120)])).wellFormed = false
      ∧ (Instr.calWrite w 3 (.factorCurve 2 [(65536, 0)])).wellFormed = false := by decide +kernel
theorem test_wf_offset :
    (Instr.calWrite (sent .tp [0x02, 0x01, 0xFF, 0x38]) 1 (.probeOffset (-200))).wellFormed = true
      ∧ (Instr.calWrite (sent .tp [0x02, 0x01, 0xFF, 0x38]) 1 (.probeOffset (-32769))).wellFormed = false
      ∧ (Instr.calWrite (sent .tp [0x03, 0x01, 0xFF, 0x38]) 1 (.other 3)).wellFormed = false := by decide +kernel

/-! ### Figures of the manual -/

/-- R166: the check over the nine bytes 31 to 39 hexadecimal. -/
theorem test_crc : crc16 [0x31, 0x32, 0x33, 0x34, 0x35, 0x36, 0x37, 0x38, 0x39] = 0x29B1#16 := by decide +kernel

/-- A factor curve, meter constant and coefficient of section 3.5.1. -/
def curve351 : Curve := ⟨(4000, 100120), [(12000, 100050), (24000, 99980)]⟩

/-- Section 3.5.1, gates 1 and 2, and section 3.6.4. -/
theorem test_gates :
    (run.meters[0].gateFigures 250 100000 curve351 2735 9500).1 = ⟨250, 2500, 15000, 100033, 2735, 988157, 2500, 2470⟩
      ∧ ({ run.meters[0] with remG := 82500, remN := 392500 }.gateFigures 250 100000 curve351 2735 9500)
        = (⟨250, 2500, 15000, 100033, 2735, 988157, 2501, 2471⟩, 0, 65000, 773157)
      ∧ ({ run.meters[0] with remG := 65000, remN := 773157 }.gateFigures 1 100000 curve351 2735 0)
        = (⟨1, 10, 60, 100120, 2735, 1000000, 10, 10⟩, 0, 66200, 773157) := by decide +kernel

/-- Section 3.5.2. -/
theorem test_correction : correction 12000 500 = 1011885 ∧ correction 20000 (-4000) = 1100320
    ∧ correction 20000 8000 = 856480 ∧ correction 20000 1500 = 1000000 := by decide +kernel

/-- Section 3.5.4. -/
theorem test_integrity : gateFails 20 0 9 = false ∧ gateFails 100 0 12 = true ∧ gateFails 2000 0 12 = false
    ∧ gateFails 2999 0 30 = true := by decide

/-- Section 3.8.1. -/
theorem test_average : { comp 1 .done with sumGT := 17025735, sumG := 6201 }.average = some 2746 := by decide +kernel

/-- Section 4.4.3. -/
theorem test_learning : learnedAnt 40000 100000 12400 = 43100 ∧ learnedAnt 40000 100000 (-5000) = 38750
    ∧ learnedAnt 40000 100000 (-9999) = 37501 := by decide

/-- R42: forward through a cycle of positions counts one pulse, at the step from 3 to 0. -/
theorem test_quadrature :
    (([.chA, .chB, .chA, .chB].foldl (fun x i => Meter.quadrature i x) run.meters[0]).forward = 1)
      ∧ ([.chB].foldl (fun x i => Meter.quadrature i x) run.meters[0]).backward = 1 := by decide

/-- Arm A0 with its compartment at a gross, compared at a gate that added `v` mL. -/
def compared (cst : CompState) (st : ArmState) (gross v : Nat) : State :=
  let c := { comp 1 cst with gross }
  State.compare 0 c ⟨0, 0, 0, 0, 0, 0, v, 0⟩ { staged cst st with load := some (load [c]) }

/-- Section 4.6, steps 4 to 6: arm state, valve, and compartment state. -/
theorem test_staging :
    (let s := compared .lowStart .low 50300 300;
      (s.arms[0].state, s.arms[0].valve, s.load.map fun l => l.comps.map CompRecord.state)) = (.full, .full, some [.full])
      ∧ (let s := compared .full .full 7801900 2500;
        (s.arms[0].state, s.arms[0].valve, s.load.map fun l => l.comps.map CompRecord.state))
        = (.slowdown, .low, some [.slowdown])
      ∧ (let s := compared .slowdown .slowdown 7961000 2800;
        (s.arms[0].state, s.arms[0].valve, s.arms[0].learnable, s.load.map fun l => l.comps.map CompRecord.antUsed))
        = (.closing, .closed, true, some [some 40000]) := by decide +kernel

/-! ### Hypotheses met: the step, reset and the invariants -/

theorem witness_StepRunsTheFrontCommand : ({ run with pending := [.start, .secondExpiry] } : State).pending
    = .start :: [.secondExpiry] := rfl

theorem witness_IdleStepPassesTime : (run.pending = [] ∧ run.phase = .running)
    ∧ ({ run with phase := .powerDown } : State).pending = [] ∧ State.reset.pending = [] ∧ State.reset.phase = .held :=
  ⟨⟨rfl, rfl⟩, rfl, rfl, rfl⟩

theorem witness_ResetHoldsOutputsInactive :
    ∃ t, (State.reset.phase = .held ∧ State.reset.OutputsOff)
      ∧ step { State.reset with pending := [.selectWindow .tp [0x00#8]] } = .next t ∧ t.phase = .held
      ∧ (t.ports.get .tp).shifted = [0x00#8] := by
  refine ⟨_, ⟨rfl, by decide, by decide, by decide, rfl, by decide, fun p => ?_⟩, rfl, rfl, rfl⟩
  cases p <;> exact ⟨rfl, fun b hb => (by cases hb)⟩

theorem witness_StepKeepsValvesFit :
    ∃ s t, s.ValvesFit ∧ s.arms[0].valve = .full ∧ step s = .next t := by
  refine ⟨{ run with arms := run.arms.set 0 { run.arms[0] with state := .full, valve := .full } }, _, ?_, rfl, rfl⟩
  unfold State.ValvesFit Arm.ValveFits; decide

/-- A part whose arm A0 fills compartment 1 through both valves, its load ACTIVE. -/
def flowing : State :=
  { run with
    load := some { load [comp 1 .full] with state := .active }
    arms := run.arms.set 0 { serving 1 .full with valve := .full } }

theorem flowing_lawful : flowing.FlowLawful where
  fits := by unfold State.ValvesFit Arm.ValveFits; decide
  tabled l h := by cases h; exact .inr (by decide)
  served a n h := by
    match a, h with
    | 0, h => cases h; exact ⟨_, _, rfl, rfl, rfl, rfl⟩
    | 1, h => cases h
    | 2, h => cases h
    | 3, h => cases h
  staging a h := by
    match a, h with
    | 0, _ => exact ⟨1, _, _, rfl, rfl, rfl, rfl, rfl, rfl⟩
    | 1, h => cases h
    | 2, h => cases h
    | 3, h => cases h
  latched h := by cases h
  context h := by cases h
  committing h := by obtain ⟨r, hr, _⟩ := h; cases hr
  composing l h hs := by cases h; cases hs
  oneCommit := by decide
  noneOwed := ⟨fun r h => (by cases h), fun r h => (by cases h)⟩
  starting h := by cases h

theorem witness_StepKeepsFlowLawful :
    flowing.FlowLawful ∧ (∃ t, step flowing = .next t) ∧ flowing.arms[(0 : Fin 4)].valve ≠ .closed :=
  ⟨flowing_lawful, ⟨_, rfl⟩, by decide⟩

theorem witness_StepKeepsQueuesBounded :
    ∃ s t, s.QueuesBounded ∧ s.queue.length = 8 ∧ step s = .next t := by
  refine ⟨{ run with queue := eight }, _, ?_, rfl, rfl⟩
  unfold State.QueuesBounded; decide

theorem witness_TotalsNeverFall :
    ∃ s t, restarts (.gateExpiry 0) = false ∧ s.TotalsInRange ∧ s.meters[0].gross = 2 ^ 64 - 1
      ∧ exec (.gateExpiry 0) s = .next t := by
  refine ⟨{ run with meters := run.meters.set 0 { run.meters[0] with gross := 2 ^ 64 - 1, gateTimer := some 0 } }, _, rfl, ?_,
    rfl, rfl⟩
  unfold State.TotalsInRange; decide

theorem witness_CalibrationChangesOnlyUnsealed :
    restarts (.calWrite (win .tp) 0 (.strokeVolume 100)) = false
      ∧ ∃ t, exec (.calWrite (win .tp) 0 (.strokeVolume 100)) { run with sealState := .isOpen } = .next t :=
  ⟨rfl, _, rfl⟩

/-! ### Windows and frames -/

theorem witness_FrameIsJudgedWhole : 255 < 256 ∧ (List.replicate 60 (0x55#8)).length ≤ 60 := by decide

theorem witness_PermitBytesReadBack :
    let c : PermitContent := ⟨4294967295, some 65535, 0xFFFF#16, 65535, 255, .blocked⟩
    c.card < 2 ^ 32 ∧ (∀ k, c.carrier = some k → k < 2 ^ 16) ∧ c.expiry < 2 ^ 16 ∧ c.loads < 256 :=
  ⟨by decide, fun k h => by cases h; decide, by decide, by decide⟩

theorem witness_FramedRequestActsAsItsRow :
    let w := sent .pp [0x04]
    w.payload.length ≤ 60 ∧ win? (.orderList w 4) = some w ∧ reqCode? (.orderList w 4) = some .orderList
      ∧ printed .orderList = true ∧ readRequest w .orderList w.payload = some (.orderList w 4)
      ∧ (Instr.orderList w 4).wellFormed = true := by decide +kernel

theorem witness_WindowsAreRefusedAtThePort :
    let down (started : Bool) : State := { run with phase := .powerDown, started }
    run.phase = .running ∧ judgeInbound (([] : List Byte).take 65) = .malformed
      ∧ judgeInbound (([2, 9, 0, 0, 0] : List Byte).take 65) = .badCrc 9
      ∧ (judgeInbound ((frame 9 0x0F []).take 65) = .framed 9 0x0F [] ∧ reqCodeOf 0x0F = none)
      ∧ judgeInbound ((frame 9 0x10 []).take 65) = .framed 9 0x10 [] ∧ reqCodeOf 0x10 = some .productPut
      ∧ permitted .productPut .pp = false ∧ permitted .productPut .tp = true
      ∧ ((down true).phase = .powerDown ∧ (down true).started = true)
      ∧ ((down false).phase = .powerDown ∧ (down false).started = false) ∧ State.reset.phase = .held
      ∧ reqCode? (.resume (win .sp)) = some .resume ∧ permitted .resume (win .sp).port = true
      ∧ permitted .resume (win .tp).port = false := by decide +kernel

/-- Frames whose payload length their code does not allow. -/
theorem witness_WindowsOfAnotherLength :
    (∀ c ∈ [ReqCode.nop, .permitPut, .orderLine, .calWrite],
        judgeInbound ((frame 9 (reqNumber c) [0x00]).take 65) = .framed 9 (reqNumber c) [0x00]
          ∧ reqCodeOf (reqNumber c) = some c ∧ permitted c .tp = true)
      ∧ (judgeInbound ((frame 9 (reqNumber .orderList) []).take 65) = .framed 9 (reqNumber .orderList) []
        ∧ reqCodeOf (reqNumber .orderList) = some .orderList ∧ permitted .orderList .pp = true)
      ∧ (∀ value ∈ [[], [0x00, 0x00, 0x00]], judgeInbound ((frame 9 0x72 (0x00 :: 0x01 :: value)).take 65)
        = .framed 9 (reqNumber .calWrite) (0x00 :: 0x01 :: value))
      ∧ (([0x00] : List Byte).length < 2 ∧ ([] : List Byte).length ≠ 5 * (0x01#8).toNat)
      ∧ readRequest (win .tp) .nop [0x00] = none := by decide +kernel

/-! ### Reads -/

theorem witness_ReadsAnswerWhatIsHeld : run.phase = .running ∧ 16 ≤ 16 ∧ 16 < 17 ∧ 4 ≤ 4 ∧ 8 ≤ 8 ∧ 2 ≠ 3
    ∧ ({ run with permits := [permit 7] } : State).permits.find? (fun x => x.content.card == 7) = some (permit 7) := by decide

/-- R188: with no load, context or staging, BAY carries the load state NONE, 4, and 0 in every absent field; so do the last
gate figures of a channel that has had no gate. -/
theorem test_absentFields :
    (BayStatus.mk ⟨5, 6, true⟩ none none 3 none).fields
        = [5, 6, 1, 4, 0, 0, 0, 0, 0, 0, 0, 0, 0] ++ [0, 0, 0, 0, 0] ++ [3, 0, 0, 0]
      ∧ (Payload.meterTotals 1 2 none 3 4 .isOpen).fields
        = (12, [1, 2] ++ [0, 0, 0, 0, 0, 0, 0, 0, 0] ++ [3, 4, (SealState.isOpen.number : Int)]) := by decide

/-- A component result at position 1. -/
def result : ComponentResult := ComponentResult.initial 1 1 ⟨0, 10, 1, true⟩ (some 0) (some 1000)

theorem witness_NopAndStatusRead :
    let c : CompRecord := { comp 8 .full with additives := [result] }
    let s := loaded [comp 1 .done, c]
    run.phase = .running ∧ 0 = 0 ∧ 8 < 9 ∧ 2 < 3 ∧ run.load = none ∧ 4 ≤ 4 ∧ 8 ≤ 8 ∧ 7 < 8
      ∧ (s.phase = .running ∧ s.load = some (load [comp 1 .done, c]) ∧ 1 ≤ 8 ∧ 8 ≤ 8
        ∧ (load [comp 1 .done, c]).comps = [comp 1 .done] ++ c :: [] ∧ c.line.compartment = 8
        ∧ (∀ b ∈ [comp 1 .done], b.line.compartment ≠ 8)
        ∧ c.additives.find? (fun r => r.position == 1) = some result ∧ (∀ r ∈ c.additives, r.position ≠ 2)
        ∧ ∀ x ∈ (load [comp 1 .done, c]).comps, x.line.compartment ≠ 2) := by decide

theorem witness_EventReadTakesUpToFour : run.phase = .running := rfl

theorem witness_OrderListPages :
    let x : Context := ⟨7, [1, 2, 3, 4, 5], some 120000⟩
    ({ run with context := some x } : State).phase = .running ∧ ({ run with context := some x } : State).context = some x
      ∧ 15 ≤ 15 ∧ 15 < 16 ∧ run.phase = .running ∧ run.context = none := by decide

/-! ### Configuration -/

theorem witness_TableWritesAccepted :
    let s : State := { run with queue := seven }
    s.phase = .running ∧ s.load = none ∧ s.queue.length < 8
      ∧ (let name : List Byte := [0x41, 0x20, 0x2D, 0x30, 0x39, 0x5A, 0x41, 0x41]
        1 ≤ name.length ∧ name.length ≤ 8 ∧ (∀ b ∈ name, nameChar b = true) ∧ 20000 ≤ 20000
          ∧ ∀ o ∈ s.orders, ∀ l ∈ o.lines, l.product ≠ 15)
      ∧ (let cs : List Component := [⟨7, 10, 1, true⟩, ⟨0, 10000, 20, false⟩]
        cs.length = 2 ∧ (∀ c ∈ cs, c.additive ≤ 7 ∧ 10 ≤ c.ratio ∧ c.ratio ≤ 10000 ∧ 1 ≤ c.tolerance ∧ c.tolerance ≤ 20)
          ∧ (cs.map Component.additive).Nodup ∧ ∀ o ∈ s.orders, ∀ l ∈ o.lines, l.recipe ≠ (15 : Fin 16).val + 1) := by
  decide

theorem witness_ConfigurationRefused :
    let busy : State := { run with queue := eight }
    let named : State := { run with orders := [⟨1, none, none, [{ line 1 with recipe := 16 }]⟩] }
    let e : ProductArg := ⟨[0x41], 20000, 0, 255, .no⟩
    let cs : List ComponentArg := [⟨7, 10, 1, .yes⟩, ⟨0, 10000, 20, .no⟩]
    let c : ArmArg := ⟨500, 1000, 200, 200, 30, 20, 1000⟩
    (loaded [comp 1 .pending]).phase = .running ∧ (loaded [comp 1 .pending]).load.isSome = true
      ∧ run.phase = .running ∧ run.load = none
      ∧ (¬ (16 < 16) ∧ ¬ ({ e with pump := 4 }.pump < 4 ∨ { e with pump := 4 }.pump = 255) ∧ ¬ (17 ≤ 16))
      ∧ (0 < 16 ∧ 1 ≤ e.shortName.length ∧ e.shortName.length ≤ 8 ∧ (∀ b ∈ e.shortName, nameChar b = true)
        ∧ e.alpha ≤ 20000 ∧ (e.pump < 4 ∨ e.pump = 255) ∧ e.defined = .no
        ∧ (∃ o ∈ named.orders, ∃ l ∈ o.lines, l.product.val = 0) ∧ ∃ o ∈ named.orders, ∃ l ∈ o.lines, l.recipe = 16)
      ∧ (1 ≤ 16 ∧ 16 ≤ 16 ∧ cs.length = 2 ∧ (cs.map ComponentArg.additive).Nodup
        ∧ ∀ c ∈ cs, c.additive ≤ 7 ∧ 10 ≤ c.ratio ∧ c.ratio ≤ 10000 ∧ 1 ≤ c.tolerance ∧ c.tolerance ≤ 20
          ∧ c.mandatory ≠ .other)
      ∧ (busy.load = none ∧ 8 ≤ busy.queue.length ∧ (∀ o ∈ busy.orders, ∀ l ∈ o.lines, l.product.val ≠ 15))
      ∧ (c.lowStart ≤ 500 ∧ c.slowdown ≤ 1000 ∧ c.maxAnt ≤ 200 ∧ c.ant ≤ c.maxAnt ∧ 2 ≤ c.closeTimeout
        ∧ c.closeTimeout ≤ 30 ∧ c.strayLimit ≤ 20 ∧ 10 ≤ c.progress ∧ c.progress ≤ 1000)
      ∧ (¬ ({ c with ant := 201 }.ant ≤ { c with ant := 201 }.maxAnt) ∧ 4 ≤ 4)
      ∧ (staged .full .full).arms[(0 : Fin 4)].state ≠ .idle ∧ busy.arms[(3 : Fin 4)].state = .idle
      ∧ (29 < 30 ∧ 60 < 61 ∧ 30 ≤ 30 ∧ 30 ≤ 300 ∧ 15 ≤ 60 ∧ 60 ≤ 60) := by decide

theorem witness_EquipmentRefused :
    let busy : State := { run with queue := eight }
    let armed : State := { run with injectors := run.injectors.set 7 { run.injectors[7] with state := .armed } }
    run.phase = .running ∧ ¬ (YesNo.other ≠ .other) ∧ (¬ (1 ≤ 0) ∧ ¬ (11 ≤ 10)) ∧ (1 ≤ 60 ∧ 60 ≤ 60 ∧ 10 ≤ 10 ∧ 120 ≤ 120)
      ∧ ({ run with pumps := run.pumps.set 3 { run.pumps[3] with demand := 1 } } : State).pumps[(3 : Fin 4)].demand ≠ 0
      ∧ (busy.pumps[(3 : Fin 4)].state = .stopped ∧ busy.pumps[(3 : Fin 4)].demand = 0 ∧ 8 ≤ busy.queue.length)
      ∧ (¬ (4 < 4 ∨ 4 = 255) ∧ ((3 < 4 ∨ 3 = 255) ∧ 7 ≤ 7 ∧ 100 ≤ 2000 ∧ 2000 ≤ 2000))
      ∧ (armed.injectors[(7 : Fin 8)].state ≠ .idle ∧ armed.injectors[(7 : Fin 8)].state ≠ .disabled)
      ∧ (busy.injectors[(7 : Fin 8)].state = .disabled ∧ busy.injectors[(7 : Fin 8)].assign.arm = none
        ∧ ∀ b : Fin 4, b.val = 3 → busy.arms[b].state = .idle)
      ∧ (0 < 1 ∧ 60 < 61 ∧ 1 ≤ 60 ∧ 60 ≤ 60) ∧ 16 ≤ (0x10#8).toNat ∧ (0x0F#8).toNat < 16 := by decide

theorem witness_EquipmentConfigured :
    let s : State := { run with queue := seven }
    s.phase = .running ∧ s.queue.length < 8
      ∧ (s.arms[(3 : Fin 4)].state = .idle ∧ (let c : ArmArg := ⟨500, 1000, 200, 200, 2, 20, 10⟩
        c.lowStart ≤ 500 ∧ c.slowdown ≤ 1000 ∧ c.maxAnt ≤ 200 ∧ c.ant ≤ c.maxAnt ∧ 2 ≤ c.closeTimeout
          ∧ c.closeTimeout ≤ 30 ∧ c.strayLimit ≤ 20 ∧ 10 ≤ c.progress ∧ c.progress ≤ 1000))
      ∧ (s.pumps[(3 : Fin 4)].state = .stopped ∧ s.pumps[(3 : Fin 4)].demand = 0 ∧ 1 ≤ 60 ∧ 10 ≤ 10 ∧ 120 ≤ 120)
      ∧ s.injectors[(7 : Fin 8)].state = .disabled ∧ (∀ b, s.injectors[(7 : Fin 8)].assign.arm = some b → s.arms[b].state = .idle)
      ∧ (∀ a : Fin 4, (some 3 : Option (Fin 4)) = some a → s.arms[a].state = .idle) ∧ 7 ≤ 7 ∧ 100 ≤ 2000 := by decide

theorem witness_BlocksAndTimesConfigured :
    let s : State := { run with queue := seven }
    s.phase = .running ∧ s.queue.length < 8 ∧ (0x0F#8).toNat < 16 ∧ s.load = none
      ∧ (30 ≤ 300 ∧ 300 ≤ 300 ∧ 15 ≤ 15 ∧ 15 ≤ 60) ∧ 1 ≤ 60 ∧ 60 ≤ 60 := by decide

theorem witness_CalWriteAccepted :
    let s : State := { run with
      queue := seven, sealState := .isOpen, cal := { run.cal with cec := 65534 } }
    s.phase = .running ∧ s.queue.length < 8 ∧ s.sealState = .isOpen ∧ s.load = none ∧ s.cal.cec < 65535
      ∧ (1000 ≤ 2000000 ∧ 2000000 ≤ 2000000)
      ∧ (let c : Curve := ⟨(0, 95000), [(1, 105000), (2, 95000), (60000, 105000)]⟩
        c.rest.length ≤ 3 ∧ (c.first :: c.rest).Pairwise (fun x y => x.1 < y.1)
          ∧ ∀ x ∈ c.first :: c.rest, x.1 ≤ 60000 ∧ 95000 ≤ x.2 ∧ x.2 ≤ 105000)
      ∧ ((-200 : Int) ≤ -200 ∧ (-200 : Int) ≤ 200) ∧ 100 ≤ 100 ∧ 100 ≤ 100000 := by decide

theorem witness_CalWriteNeedsOpenSeal :
    (run.phase ≠ .held ∧ run.sealState = .isSealed) ∧ (run.phase = .running ∧ run.sealState ≠ .isOpen)
      ∧ (let d : State := { run with phase := .powerDown }
        d.phase = .powerDown ∧ d.sealState ≠ .isOpen)
      ∧ (let o : State := { loaded [comp 1 .pending] with sealState := .isOpen }
        o.phase = .running ∧ o.sealState = .isOpen ∧ o.load.isSome = true)
      ∧ (let f : State := { run with sealState := .isOpen, cal := { run.cal with cec := 65535 } }
        f.phase = .running ∧ f.sealState = .isOpen ∧ f.load = none ∧ f.cal.cec = 65535)
      ∧ (let q : State := { run with sealState := .isOpen, cal := { run.cal with cec := 65534 }, queue := eight }
        q.sealState = .isOpen ∧ q.load = none ∧ q.cal.cec < 65535 ∧ 8 ≤ q.queue.length
          ∧ (3 < 4 ∧ 1000 ≤ 2000000 ∧ 2000000 ≤ 2000000) ∧ ¬(4 < 4 ∧ 1000 ≤ 1000 ∧ 1000 ≤ 2000000)
          ∧ (∀ y ∈ [(0, 95000), (60000, 105000)], y.1 ≤ 60000 ∧ 95000 ≤ y.2 ∧ y.2 ≤ 105000)
          ∧ [(0, 95000), (60000, 105000)].Pairwise (fun y z => y.1 < z.1)
          ∧ ¬[(5, 100000), (5, 100000)].Pairwise (fun y z => y.1 < z.1)) := by decide

/-- R143: q_j that do not strictly increase are refused after the seal, the load and the counter, and before the queue. -/
theorem test_curveOrder :
    let s : State := { run with sealState := .isOpen, queue := eight }
    (ownCalWrite 3 (.factorCurve 2 [(5, 100000), (5, 100000)]) s).2.status = .badArgument
      ∧ (ownCalWrite 3 (.factorCurve 2 [(5, 100000), (6, 100000)]) s).2.status = .busy
      ∧ (ownCalWrite 4 (.strokeVolume 99) run).2.status = .isSealed := by decide

/-! ### Resets -/

theorem witness_EquipmentReset :
    (let s : State := { run with arms := run.arms.set 0 { run.arms[0] with state := .fault, faultCause := some .strayFlow } };
      s.phase = .running ∧ (0x03#8).toNat < 16
        ∧ (∀ a : Fin 4, (0x03#8).getLsbD a.val = true → s.arms[a].state = .idle ∨ s.arms[a].state = .fault)
        ∧ ∀ a : Fin 4, s.arms[a].served = none)
      ∧ (let s : State := { run with pumps := run.pumps.set 3 { run.pumps[3] with state := .failed } }
        s.pumps[(3 : Fin 4)].state = .failed ∧ s.pumps[(3 : Fin 4)].demand = 0)
      ∧ run.pumps[(0 : Fin 4)].state ≠ .failed ∧ 4 ≤ 4 ∧ 8 ≤ 8
      ∧ (let s : State := { run with injectors := run.injectors.set 7 { run.injectors[7] with state := .fault } }
        s.injectors[(7 : Fin 8)].state = .fault ∧ s.injectors[(7 : Fin 8)].binding = none)
      ∧ (let s : State := { loaded [comp 1 .halted] with
          injectors := run.injectors.set 7 { run.injectors[7] with state := .fault, binding := some ⟨1, 1⟩ } }
        s.injectors[(7 : Fin 8)].state = .fault ∧ s.injectors[(7 : Fin 8)].binding = some ⟨1, 1⟩
          ∧ s.load = some (load [comp 1 .halted])
          ∧ (load [comp 1 .halted]).comps.find? (fun x => x.line.compartment == 1) = some (comp 1 .halted)
          ∧ (comp 1 .halted).state ≠ .done)
      ∧ run.arms[(3 : Fin 4)].state = .idle ∧ (staged .full .full).arms[(0 : Fin 4)].state ≠ .idle
      ∧ (16 ≤ (0x10#8).toNat ∧ (0x01#8) ≠ 0#8)
      ∧ (∀ a : Fin 4, (0x01#8).getLsbD a.val = true ↔
        (0x03#8).getLsbD a.val = true ∧ (staged .full .full).arms[a].state ≠ .idle
          ∧ (staged .full .full).arms[a].state ≠ .fault)
      ∧ run.injectors[(7 : Fin 8)].state ≠ .fault := by decide

/-! ### Orders -/

/-- A queued order of one line of compartment 1. -/
def order (n : Nat) : Order := ⟨n, none, none, [line 1]⟩

theorem witness_OrdersBegunAndCancelled :
    let full : State := { run with orders := List.replicate 16 (order 5) }
    (run.phase = .running ∧ 1 ≤ 999999 ∧ 999999 ≤ 999999 ∧ (some 4294967295 : Option Nat) ≠ some 0 ∧ 4294967295 < 2 ^ 32
        ∧ 65535 ≤ 65535 ∧ 1 ≤ 8 ∧ 8 ≤ 8 ∧ (∀ o ∈ run.orders, o.number ≠ 999999) ∧ run.load = none ∧ run.orders.length < 16)
      ∧ (0 < 1 ∧ 999999 < 1000000 ∧ 2 ^ 32 ≤ 4294967296 ∧ 65535 < 65536 ∧ 8 < 9)
      ∧ (16 ≤ full.orders.length ∧ (∀ o ∈ full.orders, o.number ≠ 999999) ∧ full.load = none)
      ∧ (∃ o ∈ ({ run with orders := [order 1] } : State).orders, o.number = 1)
      ∧ ((∀ o ∈ (loaded [comp 1 .pending]).orders, o.number ≠ 40217) ∧ (loaded [comp 1 .pending]).staging = none
        ∧ (loaded [comp 1 .pending]).load = some (load [comp 1 .pending]) ∧ (load [comp 1 .pending]).number = 40217)
      ∧ (∀ o ∈ run.orders, o.number ≠ 1) ∧ run.staging = none ∧ run.load = none := by decide

/-- A staging buffer of lines received or not. -/
def staging (ls : List (Option OrderLine)) : Staging := ⟨999999, none, none, ls⟩

/-- A running part with product 0 defined and a staging buffer. -/
def staging? (ls : List (Option OrderLine)) : State :=
  { run with
    products := run.products.set 0 { run.products[0] with defined := true }, staging := some (staging ls) }

theorem witness_OrderLineStored :
    let g := staging [none, none, some (line 8)]
    let s := staging? [none, none, some (line 8)]
    s.phase = .running ∧ s.staging = some g ∧ run.staging = none
      ∧ ((0 < 1 ∧ g.lines.length < 4) ∧ 8 < 9 ∧ 50000 < 50001 ∧ 4 ≤ 4 ∧ 1 < 2 ∧ 16 ≤ 16 ∧ 16 < 17)
      ∧ (s.products[(15 : Fin 16)].defined = false ∧ s.recipes[(15 : Fin 16)].defined = false)
      ∧ (g.lines[2]? = some (some (line 8)) ∧ 2 + 1 ≠ 1)
      ∧ (g.lines[1]? = some none ∧ 1 + 1 ≠ 1) ∧ s.products[(line 1).product].defined = true
      ∧ (line 1).compartment ≠ (line 8).compartment := by decide

theorem witness_OrderPosted :
    let g := staging [none, some (line 8)]
    let s := staging? [none, some (line 8)]
    let stale : State := { staging? [] with staging := some (staging [none, some { line 8 with product := 15 }]) }
    s.phase = .running ∧ s.staging = some g ∧ 0 < g.lines.length
      ∧ (g.lines[1]? = some (some (line 8)) ∧ (line 8).compartment ≠ (line 1).compartment)
      ∧ 1 ≤ (line 1).compartment ∧ (line 1).compartment ≤ 8 ∧ 1 ≤ (line 1).preset ∧ (line 1).preset ≤ 50000
      ∧ s.products[(line 1).product].defined = true ∧ (line 1).recipe = 0 ∧ s.orders.length < 16
      ∧ 16 ≤ ({ s with orders := List.replicate 16 (order 5) } : State).orders.length
      ∧ stale.products[({ line 8 with product := 15 } : OrderLine).product].defined = false := by decide

theorem witness_PresetAmended :
    (let s : State := { run with orders := [order 5] };
      s.phase = .running ∧ 1 ≤ 50000 ∧ 50000 < 50001 ∧ s.orders.find? (fun x => x.number == 5) = some (order 5)
        ∧ line 1 ∈ (order 5).lines ∧ (line 1).compartment = 1 ∧ (∀ l ∈ (order 5).lines, l.compartment ≠ 8)
        ∧ (∀ o ∈ s.orders, o.number ≠ 6) ∧ s.load = none)
      ∧ (∀ c ∈ [comp 1 .pending, comp 1 .full, comp 1 .halted, comp 1 .done],
        let l := load [c, comp 2 .done]
        let s := loaded [c, comp 2 .done]
        s.phase = .running ∧ s.load = some l ∧ l.number = 40217 ∧ (∀ o ∈ s.orders, o.number ≠ 40217)
          ∧ (∀ c ∈ l.comps, c.line.compartment ≠ 8)
          ∧ l.comps.find? (fun x => x.line.compartment == 1) = some c
          ∧ c.delivered + s.arms[c.line.arm].config.ant < 41 * 1000
          ∧ 40 * 1000 ≤ c.delivered + s.arms[c.line.arm].config.ant
          ∧ ∀ x ∈ l.comps, x.line.compartment ≠ 1 → x.state = .done) := by decide

/-- A HALTED compartment whose preset is lowered below what has passed is DONE, and closes the load that it was the last of. -/
theorem test_amendHalted :
    let c : CompRecord := { comp 1 .halted with gross := 7000000 }
    let s := (ownOrderAmend 40217 1 7000 (loaded [c])).1
    (s.load.map fun l => (l.state, l.comps.map fun c => (c.state, c.flags.amended))) = some (.closing, [(.done, true)]) := by
  decide +kernel

/-! ### The permit unit -/

theorem witness_PermitPutAccepted :
    let c : PermitContent := ⟨7, some 1, 0, 0, 0, .blocked⟩
    let held (e : PermitEntry) : State := { run with permits := [e], queue := seven }
    let used : PermitEntry := { permit 7 with inUse := true }
    run.phase = .running ∧ ({ run with queue := seven } : State).queue.length < 8 ∧ c.card ≠ 0 ∧ c.carrier ≠ some 0
      ∧ ((∀ e ∈ run.permits, e.content.card ≠ c.card) ∧ run.permits.length < 64)
      ∧ ((held (permit 7)).permits.find? (fun x => x.content.card == c.card) = some (permit 7) ∧ (permit 7).inUse = false)
      ∧ ((held used).permits.find? (fun x => x.content.card == c.card) = some used ∧ used.inUse = true)
      ∧ (2 ^ 32 ≤ 4294967296 ∧ 65535 < 65536 ∧ 255 < 256 ∧ 1 < 2)
      ∧ (let full : State := { run with permits := List.replicate 64 (permit 8) }
        64 ≤ full.permits.length ∧ ∀ e ∈ full.permits, e.content.card ≠ 7)
      ∧ 8 ≤ ({ run with queue := eight } : State).queue.length := by decide

theorem witness_PermitChangesAccepted :
    let held (e : PermitEntry) (x : Option Context) : State := { run with permits := [e], context := x, queue := seven }
    let used : PermitEntry := { permit 7 with inUse := true }
    let x : Context := ⟨7, [], some 0⟩
    (run.phase = .running ∧ ∀ e ∈ run.permits, e.content.card ≠ 7)
      ∧ ((held (permit 7) none).permits.find? (fun y => y.content.card == 7) = some (permit 7)
        ∧ (held (permit 7) none).queue.length < 8 ∧ (permit 7).inUse = false ∧ (held (permit 7) none).context = none)
      ∧ ((held (permit 7) (some x)).context = some x ∧ x.card = 7)
      ∧ ((held (permit 7) (some ⟨8, [], some 0⟩)).context = some ⟨8, [], some 0⟩ ∧ 8 ≠ 7)
      ∧ 8 ≤ ({ held (permit 7) none with queue := eight } : State).queue.length
      ∧ (held used none).permits.find? (fun y => y.content.card == 7) = some used ∧ used.inUse = true := by decide

theorem witness_ClockAndCareMask :
    run.phase = .running ∧ 86399 ≤ 86399 ∧ 86399 < 86400 ∧ 65535 ≤ 65535 ∧ 65535 < 65536 ∧ run.phase ≠ .held ∧ run.clock.second < 86399
      ∧ (let s : State := { run with clock := ⟨65534, 86399, true⟩ }
        s.clock.second = 86399 ∧ s.clock.day < 65535)
      ∧ (let s : State := { run with clock := ⟨65535, 86399, true⟩ }
        s.clock.second = 86399 ∧ s.clock.day = 65535) := by decide

/-- A part ready for card 7 to be presented. -/
def ready : State :=
  { run with clock := ⟨65535, 0, true⟩, permits := [permit 7], orders := [order 5] }

theorem witness_CardGranted :
    ready.phase = .running ∧ ready.clock.isSet = true ∧ ready.load = none ∧ ready.context = none
      ∧ ready.safety.esdLatch = false
      ∧ ready.permits.find? (fun x => x.content.card == (permit 7).content.card) = some (permit 7)
      ∧ (permit 7).content.state = .active ∧ ready.clock.day ≤ (permit 7).content.expiry ∧ 0 < (permit 7).content.loads
      ∧ (∃ i : Fin 8, ready.slots[i].state = .free) ∧ ready.serial < 4294967295
      ∧ ∃ o ∈ ready.orders, o.binding = none ∨ o.binding = some (permit 7).content.card := by decide

theorem witness_CardDeniedInOrder :
    let open' : State := { ready with load := some (load [comp 1 .pending]) }
    let esd : State := { ready with safety := { ready.safety with esdLatch := true } }
    let blocked : PermitEntry := { permit 7 with content := { (permit 7).content with state := .blocked } }
    let expired : PermitEntry := { permit 7 with content := { (permit 7).content with expiry := 65534 } }
    let spent : PermitEntry := { permit 7 with content := { (permit 7).content with loads := 0 } }
    let full : State := { ready with slots := Vector.replicate 8 { ready.slots[0] with state := .stored } }
    let entry (e : PermitEntry) : State := { ready with permits := [e] }
    run.clock.isSet = false ∧ (open'.clock.isSet = true ∧ open'.load.isSome = true) ∧ esd.safety.esdLatch = true
      ∧ (∀ e ∈ ready.permits, e.content.card ≠ 8)
      ∧ ((entry blocked).permits.find? (fun x => x.content.card == 7) = some blocked ∧ blocked.content.state = .blocked)
      ∧ ((entry expired).permits.find? (fun x => x.content.card == 7) = some expired
        ∧ expired.content.state = .active ∧ expired.content.expiry < (entry expired).clock.day)
      ∧ ((entry spent).permits.find? (fun x => x.content.card == 7) = some spent
        ∧ (entry spent).clock.day ≤ spent.content.expiry ∧ spent.content.loads = 0)
      ∧ (∀ i : Fin 8, full.slots[i].state ≠ .free)
      ∧ (let s : State := { ready with serial := 4294967295 }
        s.serial = 4294967295 ∧ ∃ i : Fin 8, s.slots[i].state = .free)
      ∧ (let s : State := { ready with orders := [{ order 5 with binding := some 8 }] }
        (∃ i : Fin 8, s.slots[i].state = .free) ∧ s.serial < 4294967295
          ∧ ∀ o ∈ s.orders, o.binding ≠ none ∧ o.binding ≠ some 7) := by decide

theorem witness_ContextEnds :
    let x (k : Nat) : Context := ⟨7, [5], some k⟩
    ({ ready with context := some (x 0) } : State).context = some (x 0) ∧ ready.phase = .running ∧ ready.context = none
      ∧ (x 0).timer = some 0 ∧ (x 1).timer ≠ some 0 := by decide

theorem witness_SelectionRefused :
    let x : Context := ⟨7, [5], some 1⟩
    let held (e : PermitEntry) : State := { ready with context := some x, permits := [e], queue := eight }
    let blocked : PermitEntry := { permit 7 with content := { (permit 7).content with state := .blocked } }
    let expired : PermitEntry := { permit 7 with content := { (permit 7).content with expiry := 65534 } }
    let spent : PermitEntry := { permit 7 with content := { (permit 7).content with loads := 0 } }
    let bare : PermitEntry := { permit 7 with content := { (permit 7).content with quals := 0xFFFE#16 } }
    let needing : State := { held bare with
      products := run.products.set 0 { run.products[0] with required := 0x0003#16 }, careMask := 0xFFFF#16 }
    ready.phase = .running ∧ ready.context = none ∧ 6 ∉ x.eligible
      ∧ (∀ e ∈ [blocked, expired, spent, permit 7], (held e).context = some x ∧ 5 ∈ x.eligible
        ∧ (held e).permits.find? (fun y => y.content.card == x.card) = some e
        ∧ (held e).orders.find? (fun y => y.number == 5) = some (order 5))
      ∧ blocked.content.state = .blocked
      ∧ (expired.content.state = .active ∧ expired.content.expiry < (held expired).clock.day)
      ∧ (spent.content.state = .active ∧ (held spent).clock.day ≤ spent.content.expiry ∧ spent.content.loads = 0)
      ∧ ((held (permit 7)).clock.day ≤ (permit 7).content.expiry ∧ 0 < (permit 7).content.loads
        ∧ 8 ≤ (held (permit 7)).queue.length)
      ∧ ((0x0001#16) ≠ 0#16 ∧ ∀ q : Fin 16, (0x0001#16).getLsbD q.val = true ↔
        (∃ l ∈ (order 5).lines, needing.products[l.product].required.getLsbD q.val = true)
          ∧ needing.careMask.getLsbD q.val = true ∧ bare.content.quals.getLsbD q.val = false) := by decide +kernel

theorem witness_SelectionOpensLoad :
    let x : Context := ⟨7, [5], some 1⟩
    let s : State := { ready with context := some x, queue := seven }
    s.phase = .running ∧ s.context = some x ∧ (order 5).number ∈ x.eligible
      ∧ s.permits.find? (fun y => y.content.card == x.card) = some (permit 7)
      ∧ s.orders.find? (fun y => y.number == (order 5).number) = some (order 5) ∧ (permit 7).content.state = .active
      ∧ s.clock.day ≤ (permit 7).content.expiry ∧ 0 < (permit 7).content.loads
      ∧ (∀ q : Fin 16, (∃ l ∈ (order 5).lines, s.products[l.product].required.getLsbD q.val = true) →
        s.careMask.getLsbD q.val = true → (permit 7).content.quals.getLsbD q.val = true)
      ∧ s.queue.length < 8 ∧ s.slots[(0 : Fin 8)].state = .free ∧ (∀ i : Fin 8, i < 0 → s.slots[i].state ≠ .free)
      ∧ (∀ r ∈ s.queue, r.isImage = false) ∧ ∀ r ∈ s.backlog, r.isImage = false := by decide +kernel

/-! ### The open load -/

/-- A recipe of one mandatory component of additive 7, an injector of A0 for it, and product 0 on a pump in a state with a
settle time. -/
def starting (st : PumpState) (settle : Nat) (feedback : Bool) (c : CompRecord) : State :=
  { loaded [comp 8 .done, c] with
    recipes := run.recipes.set 15 ⟨true, [⟨7, 10, 1, true⟩]⟩
    injectors := run.injectors.set 5 { run.injectors[5] with assign := ⟨some 0, 7, 500⟩, state := .idle }
    products := run.products.set 0 { run.products[0] with pump := some 3 }
    pumps := run.pumps.set 3 { run.pumps[3] with state := st, feedback, config := ⟨15, settle, 30⟩ } }

theorem witness_CompartmentStarts :
    let c : CompRecord := { comp 1 .pending with line := { line 1 with recipe := 16 } }
    let s := starting .stopped 0 false c
    (s.phase = .running ∧ s.load = some (load [comp 8 .done, c]) ∧ (load [comp 8 .done, c]).state ≠ .closing
      ∧ (load [comp 8 .done, c]).causes.isEmpty = true ∧ (load [comp 8 .done, c]).comps = [comp 8 .done] ++ c :: []
      ∧ ((load [comp 8 .done, c]).comps.map fun x => x.line.compartment).Nodup
      ∧ (∀ x ∈ [comp 8 .done], x.line.arm = c.line.arm → x.state = .done)
      ∧ s.arms[c.line.arm].blocked = false ∧ s.arms[c.line.arm].state = .idle
      ∧ (∀ p : Fin 4, s.pumps[p].demand = s.demandCount p)
      ∧ c.state = .pending ∧ c.additives = [] ∧ c.line.recipe = (15 : Fin 16).val + 1
      ∧ s.recipes[(15 : Fin 16)].components = [⟨7, 10, 1, true⟩] ∧ s.findInjector 0 7 = some 5
      ∧ s.products[c.line.product].pump = some 3 ∧ s.pumps[(3 : Fin 4)].state = .stopped
      ∧ s.pumps[(3 : Fin 4)].demand = 0 ∧ s.pumps[(3 : Fin 4)].feedback = false ∧ s.safety.esdLatch = false
      ∧ ∀ j : Fin 8, s.injectors[j].state ≠ .stroking)
    ∧ ((comp 1 .halted).state = .halted ∧ (comp 1 .halted).additives = [])
    ∧ (starting .running 0 true c).pumps[(3 : Fin 4)].config.settle = 0
    ∧ (starting .running 2 true c).pumps[(3 : Fin 4)].state = .running
    ∧ ((starting .runOn 2 true c).pumps[(3 : Fin 4)].state = .runOn
      ∧ (starting .runOn 0 true c).pumps[(3 : Fin 4)].config.settle = 0)
    ∧ ((starting .stopped 0 true c).pumps[(3 : Fin 4)].state = .stopped
      ∧ (starting .stopped 0 true c).pumps[(3 : Fin 4)].feedback = true)
    ∧ ({ s with safety := { s.safety with esdLatch := true } } : State).safety.esdLatch = true
    ∧ (starting .starting 2 false c).pumps[(3 : Fin 4)].state = .starting
    ∧ (starting .failed 2 false c).pumps[(3 : Fin 4)].state = .failed
    ∧ run.products[(0 : Fin 16)].pump = none := by decide

theorem witness_StartRefusedInOrder :
    let held : LoadRecord := { load [comp 1 .pending] with causes := { power := true } }
    let closing : LoadRecord := { load [comp 1 .pending] with state := .closing }
    let blocked : State := { loaded [comp 1 .pending] with
      arms := run.arms.set 0 { run.arms[0] with blocked := true } }
    let bound : CompRecord := { comp 1 .halted with additives := [{ result with injector := some 5 }] }
    let faulty : State := { loaded [bound] with injectors := run.injectors.set 5 { run.injectors[5] with state := .fault } }
    let bare : CompRecord := { comp 1 .pending with line := { line 1 with recipe := 16 } }
    let unserved : State := { loaded [bare] with recipes := run.recipes.set 15 ⟨true, [⟨7, 10, 1, true⟩]⟩ }
    (run.phase = .running ∧ run.load = none) ∧ closing.state = .closing
      ∧ (∀ c ∈ (load [comp 1 .pending]).comps, c.line.compartment ≠ 2)
      ∧ (held.state ≠ .closing ∧ held.comps = [] ++ comp 1 .pending :: [] ∧ held.causes.isEmpty = false)
      ∧ ((load [comp 1 .done]).causes.isEmpty = true ∧ (comp 1 .done).state ≠ .pending ∧ (comp 1 .done).state ≠ .halted)
      ∧ (blocked.load = some (load [comp 1 .pending]) ∧ blocked.arms[(comp 1 .pending).line.arm].blocked = true)
      ∧ (staged .halted .fault).arms[(comp 1 .halted).line.arm].blocked = false
      ∧ (staged .halted .fault).arms[(comp 1 .halted).line.arm].state ≠ .idle
      ∧ ((load [comp 8 .halted, comp 1 .pending]).comps = [comp 8 .halted] ++ comp 1 .pending :: []
        ∧ (∃ x ∈ [comp 8 .halted], x.line.arm = (comp 1 .pending).line.arm ∧ x.state ≠ .done)
        ∧ (∀ x ∈ [comp 8 .halted], x.line.compartment ≠ 1)
        ∧ (loaded [comp 8 .halted, comp 1 .pending]).arms[(0 : Fin 4)].state = .idle)
      ∧ (bare.state = .pending ∧ bare.line.recipe = (15 : Fin 16).val + 1
        ∧ ⟨7, 10, 1, true⟩ ∈ unserved.recipes[(15 : Fin 16)].components
        ∧ ∀ j : Fin 8, unserved.injectors[j].assign.arm ≠ some bare.line.arm)
      ∧ (bound.state = .halted ∧ { result with injector := some 5 } ∈ bound.additives
        ∧ result.component.mandatory = true ∧ faulty.injectors[(5 : Fin 8)].state = .fault) := by decide

theorem witness_StopDrivesCompartment :
    (run.phase = .running ∧ run.load = none) ∧ ({ load [comp 1 .full] with state := .closing } : LoadRecord).state = .closing
      ∧ (let s := staged .starting .priming
        s.phase = .running ∧ s.load = some (load [comp 1 .starting]) ∧ (load [comp 1 .starting]).state ≠ .closing
          ∧ (∀ c ∈ (load [comp 1 .starting]).comps, c.line.compartment ≠ 2)
          ∧ (load [comp 1 .starting]).comps.find? (fun x => x.line.compartment == 1) = some (comp 1 .starting)
          ∧ (comp 1 .starting).state = .starting)
      ∧ (staged .closing .closing).load = some (load [comp 1 .closing])
      ∧ (load [comp 1 .closing]).comps.find? (fun x => x.line.compartment == 1) = some (comp 1 .closing)
      ∧ (comp 1 .closing).state = .closing := by decide

theorem witness_CloseDriveClosesValve :
    (let c : CompRecord := { comp 1 .slowdown with additives := [result] };
      let s : State := { staged .slowdown .slowdown with
        load := some (load [c])
        injectors := run.injectors.set 7 { run.injectors[7] with state := .stroking, binding := some ⟨1, 1⟩, owed := 3 } }
      s.load = some (load [c]) ∧ (load [c]).comps.find? (fun x => x.line.compartment == c.line.compartment) = some c
        ∧ c.state = .slowdown ∧ s.arms[c.line.arm].state.isStaging = true
        ∧ s.injectors[(7 : Fin 8)].binding = some ⟨c.line.compartment, 1⟩ ∧ s.injectors[(7 : Fin 8)].state = .stroking
        ∧ s.injectors[(0 : Fin 8)].state ≠ .stroking ∧ (s.ports.get .tp).events.length < 16
        ∧ s.skipOwed 1 c.additives = [{ result with skipped := 3 }])
      ∧ (staged .closing .closing).load = some (load [comp 1 .closing]) ∧ (comp 1 .closing).state = .closing := by decide

theorem witness_FinishClosesLoad :
    let l := load [comp 1 .pending, comp 2 .halted, comp 8 .done]
    let used : PermitEntry := { permit 7 with inUse := true, action := .delete }
    let s : State := { run with load := some l, permits := [used] }
    s.phase = .running ∧ s.load = some l ∧ l.state ≠ .closing
      ∧ (∀ c ∈ l.comps, c.state = .pending ∨ c.state = .halted ∨ c.state = .done)
      ∧ (l.comps.map fun c => c.line.compartment).Nodup ∧ l.closeTime = none
      ∧ s.permits.find? (fun x => x.content.card == l.card) = some used ∧ used.inUse = true
      ∧ (∀ e ∈ ({ s with permits := [permit 7] } : State).permits, e.content.card = l.card → e.inUse = false)
      ∧ s.queue = [] ∧ s.writing = false ∧ s.backlog = [] ∧ s.chargeOwed = none ∧ s.checkpointOwed = false
      ∧ (run.load = none ∧ ({ l with state := .closing } : LoadRecord).state = .closing
        ∧ ∃ c ∈ (load [comp 1 .full]).comps, c.state.isActive = true) := by decide

theorem witness_AbortClosesLoad :
    let l := load [comp 1 .full, comp 2 .halted, comp 8 .pending]
    let s : State := { run with load := some l }
    s.phase = .running ∧ s.load = some l ∧ l.state ≠ .closing ∧ (l.comps.map fun c => c.line.compartment).Nodup
      ∧ comp 1 .full ∈ l.comps ∧ (comp 1 .full).state = .full ∧ (staged .full .full).arms[(0 : Fin 4)].state.isStaging = true
      ∧ ({ run.injectors[7] with binding := some ⟨1, 1⟩ } : Injector).binding = some ⟨(comp 1 .full).line.compartment, 1⟩
      ∧ (run.load = none ∧ run.phase = .running)
      ∧ comp 2 .halted ∈ l.comps ∧ comp 8 .pending ∈ l.comps
      ∧ comp 1 .closing ∈ (load [comp 1 .closing]).comps := by decide

theorem witness_ResumeRemovesPower :
    let l : LoadRecord := { load [comp 1 .halted] with causes := { power := true } }
    (let s : State := { run with load := some l };
      s.phase = .running ∧ s.load = some l ∧ l.causes.power = true)
      ∧ (load [comp 1 .halted]).causes.power = false ∧ run.load = none := by decide

/-! ### The safety unit -/

theorem witness_DeadmanRenewsAndExpires :
    let at0 (stage : DeadmanStage) : State :=
      { loaded [comp 1 .full] with safety := { run.safety with stage, timer := 0 } }
    run.phase = .running ∧ run.safety.armed = false ∧ 0 < run.safety.timer ∧ 2 ≤ 2
      ∧ ({ run with safety := { run.safety with armed := true } } : State).safety.armed = true
      ∧ ((at0 .normal).phase = .running ∧ (at0 .normal).load = some (load [comp 1 .full])
        ∧ (∃ c ∈ (load [comp 1 .full]).comps, c.state.isFlowing = true) ∧ (at0 .normal).safety.timer = 0
        ∧ (at0 .normal).safety.stage = .normal ∧ (load [comp 1 .full]).causes.deadman = false
        ∧ ((load [comp 1 .full]).comps.map fun c => c.line.compartment).Nodup)
      ∧ (at0 .warning).safety.stage = .warning ∧ run.load = none
      ∧ ({ load [comp 1 .halted] with causes := { deadman := true } } : LoadRecord).causes.has .deadman = true
      ∧ (load [comp 1 .full]).causes.has .deadman = false := by
  decide

theorem witness_PermissivesJudged :
    (loaded [comp 1 .full]).phase = .running ∧ (loaded [comp 1 .full]).load = some (load [comp 1 .full])
      ∧ (load [comp 1 .full]).state ≠ .closing ∧ run.safety.validity ≠ some 0 ∧ run.load = none
      ∧ (load [comp 1 .full]).causes.has .permissive = false ∧ ((load [comp 1 .full]).comps.map fun c => c.line.compartment).Nodup
      ∧ ({ load [comp 1 .halted] with causes := { permissive := true } } : LoadRecord).causes.has .permissive = true
      ∧ run.safety.effective = ⟨false, false, false⟩
      ∧ ({ run with safety := { run.safety with validity := some 1 } } : State).safety.validity ≠ some 0
      ∧ ({ run with safety := { run.safety with validity := some 0 } } : State).safety.validity = some 0 := by decide

theorem witness_StopAllAndResume :
    (run.phase = .running ∧ run.load = none ∧ run.safety.stopAllLatch = false)
      ∧ ({ run with safety := { run.safety with stopAllLatch := true } } : State).safety.stopAllLatch = true
      ∧ 16 ≤ (0x10#8).toNat
      ∧ (let c := comp 1 .full
        let s := staged .full .full
        s.load = some (load [c]) ∧ ((load [c]).comps.map fun c => c.line.compartment).Nodup
          ∧ (load [c]).causes.stopAll = false ∧ (0x0E#8) ≠ 0#8 ∧ (0x0E#8).toNat < 16
          ∧ (0x0E#8).getLsbD (0 : Fin 4).val = false ∧ s.arms[(0 : Fin 4)].served = some 1 ∧ c ∈ (load [c]).comps
          ∧ c.line.compartment = 1 ∧ c.state.isActive = true
          ∧ (load [c]).comps.find? (fun x => x.line.compartment == 1) = some c
          ∧ (∀ (a : Fin 4), ∀ x ∈ (load [c]).comps, s.arms[a].served = some x.line.compartment → x.line.arm = a)
          ∧ (∀ a : Fin 4, a ≠ 0 → s.arms[a].served = none) ∧ (0x01#8) ≠ 0#8 ∧ (0x01#8).toNat < 16
          ∧ (0x01#8).getLsbD (0 : Fin 4).val = true)
      ∧ ({ load [comp 1 .halted] with causes := { stopAll := true } } : LoadRecord).causes.has .stopAll = true := by decide

/-- STOP-ALL of a mask that holds the one busy arm takes the bay form (R120). -/
theorem test_stopAllBay :
    (ownStopAll 0x01#8 (staged .full .full)).2 = ⟨.ok, .stopForm true⟩
      ∧ (ownStopAll 0x02#8 (staged .full .full)).2 = ⟨.ok, .stopForm false⟩ := by decide

theorem witness_EsdLatchedAndReset :
    (let s := staged .full .full;
      s.phase = .running ∧ s.safety.esdInput ≠ some true ∧ s.safety.esdLatch = false ∧ s.load = some (load [comp 1 .full])
        ∧ (load [comp 1 .full]).causes.esd = false
        ∧ ((load [comp 1 .full]).comps.map fun c => c.line.compartment).Nodup)
      ∧ (let s : State := { run with
          safety := { run.safety with esdLatch := true, esdInput := some false }
          pumps := run.pumps.set 3 { run.pumps[3] with demand := 1 } }
        s.safety.esdLatch = true ∧ s.safety.esdInput ≠ some true ∧ s.pumps[(3 : Fin 4)].state = .stopped
          ∧ 0 < s.pumps[(3 : Fin 4)].demand ∧ s.pumps[(0 : Fin 4)].demand = 0)
      ∧ ({ run with safety := { run.safety with esdInput := some true } } : State).safety.esdInput = some true
      ∧ run.load = none ∧ ({ run with phase := .powerDown } : State).phase = .powerDown
      ∧ (let l : LoadRecord := { load [comp 1 .halted] with state := .suspended, causes := { power := true } }
        let s : State := { run with phase := .startUp, load := some l, safety := { run.safety with esdInput := none } }
        s.phase = .startUp ∧ s.safety.esdInput ≠ some true ∧ s.safety.esdLatch = false ∧ l.state = .suspended
          ∧ ∀ c ∈ l.comps, c.state.isActive = false) := by decide

/-- R123 and R132: an input found active in start-up sets the latch and posts nothing; with the latch set nothing changes. -/
theorem test_esdAtStartUp :
    let s : State := { run with phase := .startUp, safety := { run.safety with esdInput := none } }
    (s.esdInput true).safety.esdLatch = true ∧ (s.esdInput true).ports = s.ports
      ∧ ((s.esdInput true).esdInput true) = s.esdInput true := by decide

/-! ### Delivery notes -/

/-- The note of a finished load, and a part that stores it in slot 7 under serial 4294967295. -/
def note : Note := (load [comp 1 .done]).note run.products

def stored (printed expired : Bool) (q : List Record) (r : Option Reader) : State :=
  { run with
    slots := run.slots.set 7 ⟨.stored, some note, some 4294967295, printed, some 0, expired⟩, queue := q, ppReader := r }

theorem witness_NotesHeldAndReleased :
    (∀ i : Fin 8, run.slots[i].state = .stored → run.slots[i].serial ≠ some 1)
      ∧ (let s := stored false false [] none
        s.phase = .running ∧ s.slots[(7 : Fin 8)].state = .stored ∧ s.slots[(7 : Fin 8)].serial = some 4294967295
          ∧ (∀ j : Fin 8, j < 7 → s.slots[j].state = .stored → s.slots[j].serial ≠ some 4294967295)
          ∧ s.slots[(7 : Fin 8)].printed = false ∧ s.slots[(7 : Fin 8)].holdExpired = false
          ∧ s.slots[(7 : Fin 8)].holdTimer = some 0)
      ∧ run.slots[(7 : Fin 8)].holdTimer ≠ some 0
      ∧ ((stored true false eight none).slots[(7 : Fin 8)].printed = true ∧ 8 ≤ (stored true false eight none).queue.length)
      ∧ (stored false true seven none).slots[(7 : Fin 8)].holdExpired = true ∧ (stored false true seven none).queue.length < 8 := by
  decide +kernel

theorem witness_NoteReaderWalks :
    (0 < note.lineCount ∧ 2 < note.lineCount ∧ 2 + 1 = note.lineCount ∧ 1 - 1 < note.comps.length)
      ∧ (let s := stored false false [] (some ⟨4294967295, 0, 2, .down, 0, false, false⟩)
        s.phase = .running ∧ s.slots[(7 : Fin 8)].state = .stored ∧ s.slots[(7 : Fin 8)].serial = some 4294967295
          ∧ s.slots[(7 : Fin 8)].note = some note
          ∧ (∀ j : Fin 8, j < 7 → s.slots[j].state = .stored → s.slots[j].serial ≠ some 4294967295)
          ∧ 0 ≤ 2 ∧ s.ppReader = some ⟨4294967295, 0, 2, .down, 0, false, false⟩
          ∧ (note.line? 4294967295 0).isSome = true)
      ∧ (stored false false [] (some ⟨4294967295, 0, 2, .up, 2, true, false⟩)).ppReader
        = some ⟨4294967295, 0, 2, .up, 2, true, false⟩
      ∧ (stored false false [] none).ppReader = none ∧ note.lineCount ≤ 3
      ∧ (∀ i : Fin 8, (stored false false [] none).slots[i].state = .stored →
        (stored false false [] none).slots[i].serial ≠ some 1)
      ∧ Port.tp ≠ .sp ∧ Port.pp ≠ .sp ∧ 2 ≤ 2
      ∧ (⟨4294967295, 0, 2, .up, 2, true, true⟩ : Reader).lost = true := by decide +kernel

/-! ### Metering -/

theorem witness_DecoderCountsPulses :
    State.reset.phase = .held ∧ run.phase ≠ .held ∧ run.meters[(3 : Fin 4)].decoding = true
      ∧ ({ run with meters := run.meters.set 0 { run.meters[0] with decoding := false } } : State).meters[(0 : Fin 4)].decoding
        = false := by decide

/-- A part whose poll slots run, its probes at an invalid run. -/
def polling (k : Nat) : State :=
  { run with scanner := ⟨3, 3#8, some 0⟩, probes := Vector.replicate 4 ⟨1500, k⟩ }

theorem witness_PollSlotSamplesProbe :
    (polling 9).phase = .running ∧ (polling 9).scanner.slotTimer = some 0 ∧ run.scanner.slotTimer ≠ some 0
      ∧ (let r : ConverterAnswer := ⟨0xC3#8, 0x0A#8, 0xAF#8, 0x83#8⟩
        r.status.getLsbD 7 = true ∧ r.status.getLsbD 6 = true ∧ r.status.toNat % 4 = (polling 9).scanner.channel.val
          ∧ (r.status.toNat + r.tempHigh.toNat + r.tempLow.toNat + r.check.toNat) % 256 = 255)
      ∧ (0x83#8).getLsbD 6 = false ∧ (polling 9).probes[(polling 9).scanner.channel].invalidRun = 9
      ∧ (polling 255).probes[(polling 255).scanner.channel].invalidRun ≠ 9 := by decide

/-- An answer of 27.35 °C on channel 3 is held (R62, R63, R187). -/
theorem test_poll : ((polling 9).poll ⟨0xC3#8, 0x0A#8, 0xAF#8, 0x83#8⟩).probes[3] = ⟨2735, 0⟩ := by decide +kernel

theorem witness_GateArithmeticExact :
    let x := { run.meters[0] with remI := 99999, remG := 99999, remN := 999999 }
    let c : Curve := ⟨(0, 105000), [(60000, 95000)]⟩
    0 < 100000 ∧ x.remI < 100000 ∧ x.remG < 100000 ∧ x.remN < 1000000
      ∧ (c.first :: c.rest).Pairwise (fun p q => p.1 < q.1) ∧ (∀ p ∈ c.first :: c.rest, 95000 ≤ p.2 ∧ p.2 ≤ 105000)
      ∧ 20000 ≤ 20000 ∧ (-4000 : Int) ≤ -4000 ∧ (-4000 : Int) ≤ 8000 ∧ 4090 + 5 ≤ 4095 := by decide

/-- A channel at the end of a gate of 250 pulses, its probe well. -/
def gated (s : State) : State :=
  { s with
    meters := s.meters.set 0 { s.meters[0] with gateTimer := some 0, forward := 250, errors := 9 }
    probes := Vector.replicate 4 ⟨2735, 0⟩ }

/-- The active compartment that arm A0 serves, if any. -/
def fed (s : State) : Option CompRecord :=
  (s.load.bind fun l => l.comps.find? fun y => s.arms[(0 : Fin 4)].served == some y.line.compartment).filter fun y =>
    y.state.isActive

theorem witness_GateRoutesItsVolume :
    run.meters[(0 : Fin 4)].gateTimer ≠ some 0
      ∧ (∀ p ∈ [Phase.running, .powerDown], ∀ st ∈ [ArmState.idle, .fault],
        let s : State := { gated run with phase := p, arms := run.arms.set 0 { run.arms[0] with state := st } }
        s.phase = p ∧ s.meters[(0 : Fin 4)].gateTimer = some 0 ∧ fed s = none ∧ s.arms[(0 : Fin 4)].state = st
          ∧ (∀ b : Fin 4, b ≠ 0 → s.arms[b].served = none) ∧ ¬ (10 ≤ s.meters[(0 : Fin 4)].errors)
          ∧ ¬ (min 4095 (s.meters[(0 : Fin 4)].debt + s.meters[(0 : Fin 4)].backward) = 4095)
          ∧ (s.meters[(0 : Fin 4)].gateFigures 250 s.cal.meterK[(0 : Fin 4)] s.cal.curve[(0 : Fin 4)]
              (clampInt (-4000) 8000 (s.probes[(0 : Fin 4)].held + s.cal.offset[(0 : Fin 4)])) 0).1.gross
            + s.arms[(0 : Fin 4)].stray ≤ s.arms[(0 : Fin 4)].config.strayLimit)
      ∧ (∀ p ∈ [Phase.running, .powerDown],
        ∀ x ∈ [(CompState.starting, ArmState.priming), (.lowStart, .low), (.full, .full), (.slowdown, .slowdown)],
          let s : State := { gated (staged x.1 x.2) with phase := p }
          let c := comp 1 x.1
          s.load = some (load [c]) ∧ fed s = some c ∧ (∀ b : Fin 4, b ≠ 0 → s.arms[b].served = none)
            ∧ s.arms[(0 : Fin 4)].state = x.2 ∧ c.line.basis = .gross
            ∧ c.gross + 2500 < s.arms[(0 : Fin 4)].config.lowStart
            ∧ (s.arms[(0 : Fin 4)].config.ant : Int) < (c.line.preset * 1000 : Nat) - (c.gross + 2500 : Nat)
            ∧ (s.arms[(0 : Fin 4)].config.slowdown : Int) < (c.line.preset * 1000 : Nat) - (c.gross + 2500 : Nat)
            ∧ (s.meters[(0 : Fin 4)].gateFigures 250 s.cal.meterK[(0 : Fin 4)] s.cal.curve[(0 : Fin 4)]
              (clampInt (-4000) 8000 (s.probes[(0 : Fin 4)].held + s.cal.offset[(0 : Fin 4)])) 0).1.gross = 2500)
      ∧ ({ serving 1 .full with hold := true } : Arm).hold = true := by
  decide +kernel

theorem witness_GateRoutesLawful :
    flowing.FlowLawful ∧ flowing.arms[(0 : Fin 4)].served ≠ none ∧ (1 : Fin 4) ≠ 0 :=
  ⟨flowing_lawful, by decide, by decide⟩

/-- `gated` near a crossing of 500000 mL, with a queue. -/
def crossing (q : List Record) : State :=
  { gated run with
    meters := (gated run).meters.set 0 { (gated run).meters[0] with gross := 499999 }, queue := q }

theorem witness_GateRoutesCrossings :
    (∀ q ∈ [[], seven, eight], (crossing q).checkpointOwed = false ∧ (∀ r ∈ (crossing q).queue, r.isCheckpoint = false)
        ∧ 499999 / 500000 < (499999 + 2500) / 500000)
      ∧ (crossing seven).queue.length < 8 ∧ 8 ≤ (crossing eight).queue.length
      ∧ 0 / 500000 = (0 + 2500) / 500000
      ∧ (comp 1 .lowStart).gross / run.arms[(0 : Fin 4)].config.progress
        = ((comp 1 .lowStart).gross + 2500) / run.arms[(0 : Fin 4)].config.progress
      ∧ 98000 / run.arms[(0 : Fin 4)].config.progress < (98000 + 2500) / run.arms[(0 : Fin 4)].config.progress := by
  decide +kernel

/-- A part at the end of a gate of `n` pulses of 10 mL and `e` errors, its arm A0 in a state with compartment 1 at a gross. -/
def ending (n e : Nat) (st : ArmState) (c : CompRecord) : State :=
  { run with
    load := some (load [c]), arms := run.arms.set 0 { serving 1 st with zeroRun := 2, learnable := true }
    meters := run.meters.set 0 { run.meters[0] with gateTimer := some 0, forward := n, errors := e }
    probes := Vector.replicate 4 ⟨2735, 0⟩ }

theorem witness_GateMovesItsArm :
    (let s := ending 250 0 .idle (comp 1 .done)
      let a : State := { s with arms := run.arms }
      a.phase = .running ∧ a.meters[(0 : Fin 4)].gateTimer = some 0 ∧ a.arms[(0 : Fin 4)].served = none
        ∧ a.arms[(0 : Fin 4)].state = .idle ∧ 2500 ≤ a.arms[(0 : Fin 4)].config.strayLimit
        ∧ a.arms[(0 : Fin 4)].config.strayLimit < 2600 + 2500
        ∧ (∀ p : Fin 4, a.pumps[p].demand = a.demandCount p) ∧ (a.ports.get .sp).events.length ≤ 12)
      ∧ (∀ c ∈ [comp 1 .lowStart, comp 1 .full, comp 1 .slowdown],
        let s := ending 250 9 .full c
        s.phase = .running ∧ s.load = some (load [c]) ∧ (load [c]).state ≠ .closing
          ∧ (load [c]).comps.find? (fun y => y.line.compartment == c.line.compartment) = some c
          ∧ s.arms[(0 : Fin 4)].served = some c.line.compartment ∧ c.line.arm = 0
          ∧ (∀ b : Fin 4, b ≠ 0 → s.arms[b].served ≠ some c.line.compartment) ∧ c.state.isActive = true ∧ c.state.isDrivable = true
          ∧ s.arms[(0 : Fin 4)].state.isFlowing = true ∧ s.meters[(0 : Fin 4)].errors = 9)
      ∧ (10 ≤ 10 ∧ 250 + 0 < 10 * 100) ∧ (min 4095 (4094 + 1) = 4095 ∧ 4094 < 4095)
      ∧ (comp 1 .full).line.basis = .gross ∧ ¬ (10 < 10)
      ∧ ((8000000 : Int) - 7960000 ≤ 40000 ∧ (40000 : Int) < 8000000 - 7959999 ∧ (8000000 : Int) - 7800000 ≤ 200000
        ∧ (200000 : Int) < 8000000 - 7799999)
      ∧ (let s := ending 0 0 .closing { comp 1 .closing with closeReason := some .preset }
        s.arms[(0 : Fin 4)].state = .closing ∧ s.meters[(0 : Fin 4)].forward = 0 ∧ 2 ≤ s.arms[(0 : Fin 4)].zeroRun
          ∧ s.arms[(0 : Fin 4)].learnable = true ∧ s.arms[(0 : Fin 4)].faultDuringClose = false)
      ∧ (let s := ending 0 0 .fault { comp 1 .closing with closeReason := some (.halt .pulseFault) }
        s.arms[(0 : Fin 4)].state = .fault ∧ s.meters[(0 : Fin 4)].forward = 0 ∧ 2 ≤ s.arms[(0 : Fin 4)].zeroRun)
      ∧ (let s := ending 3 10 .closing (comp 1 .closing)
        10 ≤ s.meters[(0 : Fin 4)].errors ∧ 3 + 0 < 10 * 100 ∧ s.arms[(0 : Fin 4)].state = .closing)
      ∧ (ending 250 0 .priming (comp 1 .starting)).arms[(0 : Fin 4)].state = .priming := by decide +kernel

/-- Every component result of the open load. -/
def results (s : State) : List ComponentResult := s.load.toList.flatMap fun l => l.comps.flatMap CompRecord.additives

/-- R81, R112 and R113: the no-flow that ends a close at the preset releases the injector in mid-stroke and judges its result:
79 strokes of 1000 µL against an expected 80000 µL at 8000 L, a tolerance of 1 percent and one stroke cut off. -/
theorem test_judged :
    let r : ComponentResult := { result with injector := some 7, stroke := some 1000, confirmed := 79, delivered := 79000 }
    let c : CompRecord := { comp 1 .closing with gross := 8000000, closeReason := some .preset, additives := [r] }
    let s := ending 0 0 .closing c
    let t := ({ s with
      injectors := s.injectors.set 7 { s.injectors[7] with state := .stroking, binding := some ⟨1, 1⟩, output := true } }).gate 0
    results t = [{ r with
        missed := 1, expected := some 80000, deviation := some (-1), judgement := .out, markOut := true }]
      ∧ t.injectors[7].state = .idle ∧ t.injectors[7].binding = none ∧ t.injectors[7].output = false := by decide +kernel

/-- R81 and R83: the third gate without a pulse ends a stop at the preset and teaches the anticipation (section 4.4.3). -/
theorem test_confirmed :
    let c : CompRecord := { comp 1 .closing with gross := 8012400, closeReason := some .preset }
    let t := (ending 0 0 .closing c).gate 0
    t.arms[0].state = .idle ∧ t.arms[0].config.ant = 43100 ∧ (t.load.map fun l => l.comps.map CompRecord.state) = some [.done] := by
  decide +kernel

/-- R12 and R17: a load whose last compartment ends by its own course posts no LOAD_STATE but CLOSING. -/
theorem test_lastDone :
    let c : CompRecord := { comp 1 .closing with gross := 8000000, closeReason := some .preset }
    let s : State := { ending 0 0 .closing c with load := some { load [c] with state := .active } }
    ((s.gate 0).ports.tp.events.filter fun e => e.code == .loadState).map Event.value = [3#32] := by decide +kernel

/-! ### Arm timers, pumps and injectors -/

/-- A staged part with a timer running on its arm. -/
def timed (cst : CompState) (st : ArmState) : State :=
  { loaded [comp 1 cst] with
    arms := run.arms.set 0 { serving 1 st with settleTimer := some 0, closeTimer := some 0 } }

theorem witness_ArmTimersExpire :
    (let s := timed .starting .priming;
      s.phase = .running ∧ s.load = some (load [comp 1 .starting])
        ∧ (load [comp 1 .starting]).comps.find? (fun x => x.line.compartment == 1) = some (comp 1 .starting)
        ∧ s.arms[(0 : Fin 4)].served = some 1 ∧ (∀ b : Fin 4, b ≠ 0 → s.arms[b].served ≠ some 1)
        ∧ s.arms[(0 : Fin 4)].settleTimer = some 0 ∧ s.arms[(0 : Fin 4)].state = .priming)
      ∧ (∀ st ∈ [ArmState.closing, .fault],
        let s := timed .closing st
        s.load = some (load [comp 1 .closing]) ∧ s.arms[(0 : Fin 4)].closeTimer = some 0
          ∧ s.arms[(0 : Fin 4)].state = st ∧ ∀ b : Fin 4, b ≠ 0 → s.arms[b].served ≠ some 1)
      ∧ run.arms[(0 : Fin 4)].settleTimer ≠ some 0 ∧ run.arms[(0 : Fin 4)].closeTimer ≠ some 0 := by decide

/-- R82 and R84: a close timeout sets fault during close on an arm that enters FAULT by it, and leaves an arm in FAULT its
cause. -/
theorem test_leaked :
    ((timed .closing .closing).closeExpired 0 1).arms[(0 : Fin 4)].faultDuringClose = true
      ∧ ((timed .closing .fault).closeExpired 0 1).arms[(0 : Fin 4)].faultCause = none := by decide +kernel

/-- A staged part whose product 0 has pump P3, in a state with a demand of one. -/
def pumped (cst : CompState) (st : ArmState) (p : PumpState) : State :=
  { staged cst st with
    products := run.products.set 0 { run.products[0] with pump := some 3 }
    pumps := run.pumps.set 3 { run.pumps[3] with state := p, run := true, demand := 1, timer := some 0 } }

theorem witness_PumpsStartFailAndStop :
    (let s := pumped .starting .priming .starting;
      s.phase = .running ∧ s.pumps[(3 : Fin 4)].state = .starting ∧ 0 < s.pumps[(3 : Fin 4)].demand
        ∧ s.load = some (load [comp 1 .starting]) ∧ s.arms[(0 : Fin 4)].served = some 1
        ∧ s.products[(line 1).product].pump = some 3 ∧ s.arms[(0 : Fin 4)].state = .priming
        ∧ s.arms[(0 : Fin 4)].settleTimer = none ∧ 0 < s.pumps[(3 : Fin 4)].config.settle
        ∧ s.pumps[(3 : Fin 4)].timer = some 0 ∧ run.pumps[(3 : Fin 4)].timer ≠ some 0)
      ∧ (let s := pumped .full .full .running
        s.pumps[(3 : Fin 4)].state = .running ∧ s.arms[(0 : Fin 4)].state.isStaging = true
          ∧ (comp 1 .full).state.isDrivable = true ∧ (comp 1 .full).line.arm = 0
          ∧ (∀ b : Fin 4, ∀ y ∈ (load [comp 1 .full]).comps, s.arms[b].served = some y.line.compartment → y.line.arm = b)
          ∧ (s.ports.get .sp).events.length < 16)
      ∧ run.pumps[(0 : Fin 4)].state = .stopped
      ∧ (pumped .full .full .runOn).pumps[(3 : Fin 4)].state = .runOn
      ∧ (pumped .full .full .runOn).pumps[(3 : Fin 4)].timer = some 0
      ∧ (let s : State := { run with pumps := run.pumps.set 3 { run.pumps[3] with state := .starting } }
        s.pumps[(3 : Fin 4)].demand = 0 ∧ s.demandCount 3 = 0) := by decide

/-- A part with J7 in mid-stroke for position 1 of compartment 1, after a number of misses in a row. -/
def stroking (k : Nat) : State :=
  { loaded [{ comp 1 .full with additives := [result] }] with
    injectors := run.injectors.set 7
      { run.injectors[7] with
        state := .stroking, binding := some ⟨1, 1⟩, output := true, timer := some 0, consecutive := k } }

theorem witness_StrokesConfirmedAndMissed :
    (run.phase = .running ∧ run.injectors[(7 : Fin 8)].state ≠ .stroking)
      ∧ (∀ k ∈ [1, 2],
        let s := stroking k
        s.load = some (load [{ comp 1 .full with additives := [result] }]) ∧ s.injectors[(7 : Fin 8)].binding = some ⟨1, 1⟩
          ∧ (load [{ comp 1 .full with additives := [result] }]).comps.find? (fun y => y.line.compartment == 1)
            = some { comp 1 .full with additives := [result] }
          ∧ s.injectors[(7 : Fin 8)].state = .stroking ∧ s.injectors[(7 : Fin 8)].timer = some 0
          ∧ s.injectors[(7 : Fin 8)].feedback = false)
      ∧ ((stroking 1).injectors[(7 : Fin 8)].consecutive < 2 ∧ 2 ≤ (stroking 2).injectors[(7 : Fin 8)].consecutive)
      ∧ ([result].find? (fun r => r.position == 1) = some result ∧ result.component.mandatory = true
        ∧ ({ result with component := ⟨0, 10, 1, false⟩ } : ComponentResult).component.mandatory = false)
      ∧ ((comp 1 .full).state.isDrivable = true ∧ (comp 1 .halted).state.isDrivable = false
        ∧ (serving 1 .full).state.isStaging = true)
      ∧ ∀ i : Fin 8, i ≠ 7 → (stroking 2).injectors[i].binding ≠ some ⟨1, 1⟩ := by decide

/-- R107 and R108: the expiry of a stroke with two owed, its arm in FULL, starts the next with its whole time. -/
theorem test_owedStroke :
    let s : State := { stroking 0 with arms := run.arms.set 0 (serving 1 .full) }
    let t := ({ s with injectors := s.injectors.set 7 { s.injectors[7] with owed := 2, assign := ⟨some 0, 0, 500⟩ } }).missStroke 7
    (t.injectors[7].state, t.injectors[7].owed, t.injectors[7].timer, t.injectors[7].output, t.injectors[7].consecutive)
      = (.stroking, 1, some 500, true, 1) := by decide

/-- A gate of 250 pulses for compartment 1, of gross 448 L, whose one component, of 1000 µL at 20, has had four of its points,
the next lying at 225 L, 275 L, 325 L, 375 L and 425 L; its injector in a state. -/
def dosing (st : InjectorState) (owed : Nat) (preset : Nat) : State :=
  let r : ComponentResult := { result with injector := some 7, component := ⟨0, 20, 1, true⟩, index := 4 }
  let c : CompRecord := { comp 1 .full with gross := 448000, additives := [r], line := { line 1 with preset } }
  let s := ending 250 0 .full c
  { s with injectors := s.injectors.set 7 { s.injectors[7] with state := st, binding := some ⟨1, 1⟩, owed } }

theorem witness_StrokePointsReached :
    (0 < 1000 ∧ 0 < 10 ∧ pointsReached 1000 10 50000 = 1 ∧ strokePoint 1000 10 0 = 50000)
      ∧ ∀ st ∈ [InjectorState.armed, .stroking, .fault],
        let s := dosing st 0 8000
        s.phase = .running ∧ s.meters[(0 : Fin 4)].gateTimer = some 0 ∧ s.arms[(0 : Fin 4)].served = some 1
          ∧ s.arms[(0 : Fin 4)].state.isFlowing = true ∧ s.injectors[(7 : Fin 8)].state = st
          ∧ (∀ o : Fin 8, s.injectors[o].binding = some ⟨1, 1⟩ ↔ o = 7) ∧ s.injectors[(7 : Fin 8)].owed ≤ 3
          ∧ 4 + 5 = max 4 (pointsReached 1000 20 (448000 + 2500)) ∧ 0 < 5
          ∧ ¬ (10 ≤ s.meters[(0 : Fin 4)].errors)
          ∧ ¬ (8000 * 1000 ≤ 448000 + 2500 + s.arms[(0 : Fin 4)].config.ant)
          ∧ 450 * 1000 ≤ 448000 + 2500 + s.arms[(0 : Fin 4)].config.ant := by decide +kernel

/-- R103, R104 and R111: five points due at once start one stroke, owe three and skip one; a close at the preset in the same gate
skips the three too, and the stroke runs on; on a faulted injector all five are skipped. -/
theorem test_strokesDue :
    let seen (s : State) : List (Nat × Nat) × InjectorState × Nat :=
      ((results s).map fun r => (r.index, r.skipped), s.injectors[7].state, s.injectors[7].owed)
    seen ((dosing .armed 0 8000).gate 0) = ([(9, 1)], .stroking, 3)
      ∧ seen ((dosing .stroking 1 8000).gate 0) = ([(9, 3)], .stroking, 3)
      ∧ seen ((dosing .armed 0 450).gate 0) = ([(9, 4)], .stroking, 0)
      ∧ seen ((dosing .fault 0 8000).gate 0) = ([(9, 5)], .fault, 0) := by decide +kernel

/-! ### Audit memory and power -/

/-- A part in the midst of writing a record. -/
def writing (r : Record) : State := { run with queue := [r, .noteConfig 1], writing := true }

theorem witness_RecordsAreWrittenInOrder :
    let l : LoadRecord := { load [comp 1 .done] with state := .closing, closeTime := some .notSet }
    let s := { writing (.noteConfig 2) with load := some l }
    (∀ r : Record, (writing r).queue = r :: [.noteConfig 1] ∧ (writing r).writing = true ∧ (writing r).phase = .running)
      ∧ ({ writing .saveInvalid with phase := .powerDown } : State).phase = .powerDown
      ∧ ({ s with imageOwed := true } : State).imageOwed = true
      ∧ ({ s with chargeOwed := some (.permit 7 none false) } : State).chargeOwed = some (.permit 7 none false)
      ∧ (let c : State := { s with slots := run.slots.set 0 { run.slots[0] with state := .composing, note := some note } }
        c.imageOwed = false ∧ c.chargeOwed = none ∧ c.load = some l ∧ c.slots[l.slot].state = .composing
          ∧ c.slots[l.slot].note = some note)
      ∧ s.slots[l.slot].state ≠ .composing ∧ ({ s with checkpointOwed := true } : State).checkpointOwed = true
      ∧ (let a : State := { s with arms := run.arms.set 3 { run.arms[3] with antOwed := true } }
        a.checkpointOwed = false ∧ a.arms[(3 : Fin 4)].antOwed = true
          ∧ ∀ c : Fin 4, c < 3 → a.arms[c].antOwed = false)
      ∧ (∀ b : Fin 4, s.arms[b].antOwed = false)
      ∧ ({ run with phase := .powerDown, saving := some SaveData.zero } : State).saving = some SaveData.zero
      ∧ ({ writing (.noteConfig 2) with phase := .startUp } : State).phase = .startUp
      ∧ (run.queue = [] ∧ run.writing = false ∧ State.reset.phase = .held ∧ run.saving = none) :=
  ⟨fun _ => ⟨rfl, rfl, rfl⟩, rfl, rfl, rfl, ⟨rfl, rfl, rfl, rfl, rfl⟩, by decide, rfl, ⟨rfl, rfl, by decide⟩, by decide, rfl,
    rfl, rfl, rfl, rfl, rfl⟩

theorem witness_PowerFailsAndResetHolds :
    (run.phase = .running ∧ run.queue = [] ∧ ∀ j : Fin 8, run.injectors[j].state ≠ .stroking)
      ∧ (writing (.noteConfig 2)).queue ≠ [] ∧ State.reset.phase = .held ∧ (run.saving = none ∧ run.writing = false)
      ∧ (writing (.noteConfig 2)).saving = none ∧ (writing (.noteConfig 2)).writing = true
      ∧ (Record.noteConfig 2) ≠ .saveInvalid
      ∧ ((writing .saveInvalid).writing = true ∧ (writing .saveInvalid).queue = .saveInvalid :: [.noteConfig 1])
      ∧ ({ run with saving := some SaveData.zero } : State).saving.isSome = true := by decide

/-- R189: a RESET after START leaves no save valid; a loss of power leaves a completed one as it is (R185). -/
theorem test_resetInPowerDown :
    let s : State := { run with
      phase := .powerDown, started := true, audit := { run.audit with save := ⟨true, true, SaveData.zero⟩ } }
    (s.auditReset true).save.valid = false ∧ (s.auditCut true).save.valid = true := by decide

theorem witness_StartUpRestoresAndStarts :
    let l := load [comp 1 .full]
    (State.reset.phase = .held ∧ State.reset.audit.save.checkHolds = false)
      ∧ (let a : Audit := { State.reset.audit with save := ⟨true, true, { SaveData.zero with load := some l }⟩ }
        let s : State := { State.reset with audit := a }
        s.phase = .held ∧ s.audit.save.checkHolds = true ∧ s.audit.save.valid = true
          ∧ s.audit.save.data.load = some l
          ∧ ((s.startUp unsampledInputs).load.map fun u => u.comps.map CompRecord.state) = some [.halted])
      ∧ (let s : State := { State.reset with
          phase := .startUp, safety := { State.reset.safety with esdInput := some false } }
        s.phase = .startUp ∧ s.startRecords = 0 ∧ s.safety.esdInput.isSome = true ∧ s.load = none
          ∧ (let c : LoadRecord := { l with state := .closing }
            ({ s with load := some c } : State).load = some c ∧ c.state = .closing ∧ s.queue = [] ∧ s.writing = false
              ∧ s.backlog = [] ∧ s.chargeOwed = none))
      ∧ run.phase ≠ .held ∧ run.phase ≠ .startUp ∧ 0 < ({ run with startRecords := 1 } : State).startRecords
      ∧ ({ run with safety := { run.safety with esdInput := none } } : State).safety.esdInput = none := by decide +kernel

end Sys2Proof.Tests
end

section
/-! PROOFS. ORDER-LIST (R36): what its owner replies in each of the three cases of the rule, and the row built from them. -/

namespace Sys2Proof.Machine

variable {start : Nat} {s : State} {x : Context}

/-! ### The owner of ORDER-LIST -/

theorem ownOrderList_without_context (hx : s.context = none) : ownOrderList start s = refuse .state s := by
  simp only [ownOrderList, hx]

theorem ownOrderList_beyond_last_position (hx : s.context = some x) (h : 15 < start) :
    ownOrderList start s = refuse .badArgument s := by
  simp only [ownOrderList, hx, if_pos h]

/-- A page of the list leaves the state as it was: it reads the eligible numbers of the context and the queued orders. -/
theorem ownOrderList_page (hx : s.context = some x) (h : start ≤ 15) :
    ownOrderList start s
      = reply .ok
          (.orders x.eligible.length
            (((x.eligible.drop start).take 4).filterMap fun n => (s.orders.find? fun o => o.number == n).map Order.listed)
            (if start + 4 < x.eligible.length then some (start + 4) else none)) s := by
  simp only [ownOrderList, hx, if_neg (Nat.not_lt.2 h)]

/-! ### The row -/

/-- From PP, a running part answers ORDER-LIST with what its owner replies in the state that the window leaves (R168, R170). -/
theorem exec_orderList {w : Win} {t : State} {r : Reply} (hrun : s.phase = .running) (hpp : w.port = .pp)
    (ho : ownOrderList start (s.seen .orderList w) = (t, r)) :
    exec (.orderList w start) s = .next (t.answered w r.status r.payload) :=
  request_takes hrun (by rw [hpp]; rfl) ho

/-- Settles O17: the window of the request moves neither the context nor the queued orders, so the owner's three cases are
those of `s`. -/
theorem orderListPages : Obligations.OrderListPages := by
  intro g body tail start s hrun w
  refine ⟨fun hnone => ?refused_state, fun x hx => ⟨fun habove => ?refused_argument, fun hwithin => ?page⟩⟩
  case refused_state => exact exec_orderList hrun rfl (ownOrderList_without_context hnone)
  case refused_argument => exact exec_orderList hrun rfl (ownOrderList_beyond_last_position hx habove)
  case page => exact exec_orderList hrun rfl (ownOrderList_page hx hwithin)

end Sys2Proof.Machine
end

section
/-! PROOFS. EVENT-READ (R176): what each update of a port leaves of the ports, what the owner of EVENT-READ does to its
port's queue and mark, and the row built from them. -/

namespace Sys2Proof.Machine

/-! ### Reading a port after an update of a port -/

@[simp] theorem Ports.get_set_self (ps : Ports) (x : PortState) (p : Port) : (ps.set x p).get p = x := by
  cases p <;> rfl

@[simp] theorem Ports.get_set_of_ne {p q : Port} (h : q ≠ p) (ps : Ports) (x : PortState) :
    (ps.set x p).get q = ps.get q := by
  cases p <;> cases q <;> simp [Ports.set, Ports.get] at h ⊢

variable {c : ReqCode} {w : Win} {status : Status} {payload : Payload} {s : State} {q : Port}

/-- The window of a request takes the pending response away and leaves its port's event queue and mark (R165). -/
theorem State.seen_port (c : ReqCode) (w : Win) (s : State) :
    (s.seen c w).ports.get w.port
      = (s.ports.get w.port).window (Win.sent c w).length ((Win.sent c w).take 65) :=
  Ports.get_set_self ..

theorem State.seen_other_port (h : q ≠ w.port) : (s.seen c w).ports.get q = s.ports.get q :=
  Ports.get_set_of_ne h ..

/-- An answer sets the pending response of its port, and nothing else there (R168). -/
theorem State.answered_port (w : Win) (status : Status) (payload : Payload) (s : State) :
    (s.answered w status payload).ports.get w.port
      = { s.ports.get w.port with pending := some ⟨w.tag, status, payload⟩ } :=
  Ports.get_set_self ..

theorem State.answered_other_port (h : q ≠ w.port) :
    (s.answered w status payload).ports.get q = s.ports.get q :=
  Ports.get_set_of_ne h ..

/-! ### The state beyond the ports

Each update of a port is lost in a state whose ports, and whose write in progress, are set afresh. -/

section OffPort

variable (ps : Ports) (writing : Bool)

theorem State.modifyPort_off_port (p : Port) (f : PortState → PortState) (s : State) :
    { s.modifyPort p f with ports := ps, writing } = { s with ports := ps, writing } := rfl

theorem State.seen_off_port (c : ReqCode) (w : Win) (s : State) :
    { s.seen c w with ports := ps, writing } = { s with ports := ps, writing } := rfl

theorem State.answered_off_port (w : Win) (status : Status) (payload : Payload) (s : State) :
    { s.answered w status payload with ports := ps, writing } = { s with ports := ps, writing } := rfl

end OffPort

/-! ### The owner of EVENT-READ -/

/-- A port whose oldest event records, up to four, have been removed and whose overflow mark has been cleared (R176). -/
def PortState.eventsTaken (x : PortState) : PortState := { x with events := x.events.drop 4, overflow := false }

theorem ownEventRead_eq (p : Port) (s : State) :
    ownEventRead p s
      = reply .ok (.events ((s.ports.get p).events.take 4) (s.ports.get p).overflow)
          (s.modifyPort p PortState.eventsTaken) := rfl

/-! ### The row -/

/-- The state in which EVENT-READ leaves a running part: the window passes, the records are taken, and the answer, with the
records and the mark as they stood before the window, becomes pending. -/
def State.eventReadDone (w : Win) (s : State) : State :=
  ((s.seen .eventRead w).modifyPort w.port PortState.eventsTaken).answered w .ok
    (.events ((s.ports.get w.port).events.take 4) (s.ports.get w.port).overflow)

/-- EVENT-READ is permitted at every port, and its window moves neither the queue nor the mark that its owner reads. -/
theorem exec_eventRead (h : s.phase = .running) : exec (.eventRead w) s = .next (s.eventReadDone w) := by
  have hown : ownEventRead w.port (s.seen .eventRead w)
      = reply .ok (.events ((s.ports.get w.port).events.take 4) (s.ports.get w.port).overflow)
          ((s.seen .eventRead w).modifyPort w.port PortState.eventsTaken) := by
    rw [ownEventRead_eq, State.seen_port]
    rfl
  exact request_takes h rfl hown

theorem State.eventReadDone_port (w : Win) (s : State) :
    (s.eventReadDone w).ports.get w.port
      = { ((s.ports.get w.port).window (Win.sent .eventRead w).length ((Win.sent .eventRead w).take 65)).eventsTaken with
          pending := some ⟨w.tag, .ok,
            .events ((s.ports.get w.port).events.take 4) (s.ports.get w.port).overflow⟩ } := by
  rw [State.eventReadDone, State.answered_port, State.modifyPort_ports, Ports.get_set_self, State.seen_port]

theorem State.eventReadDone_other_port (h : q ≠ w.port) : (s.eventReadDone w).ports.get q = s.ports.get q := by
  rw [State.eventReadDone, State.answered_other_port h, State.modifyPort_ports, Ports.get_set_of_ne h,
    State.seen_other_port h]

/-- Beyond the ports, EVENT-READ does no more than let a waiting write start (R176, R181). -/
theorem State.eventReadDone_frame (w : Win) (s : State) :
    { s.eventReadDone w with ports := s.ports, writing := s.writing } = s := by
  rw [State.eventReadDone, State.answered_off_port, State.modifyPort_off_port, State.seen_off_port]

/-- Settles O16: the answer, the queue and the mark are fields of the request's own port after the row; the rest is its
frame. -/
theorem eventReadTakesUpToFour : Obligations.EventReadTakesUpToFour := by
  intro w s hrun
  refine ⟨s.eventReadDone w, exec_eventRead hrun, ?answer, ?queue, ?mark,
    fun p hp => State.eventReadDone_other_port hp, State.eventReadDone_frame w s⟩
  case answer => rw [State.eventReadDone_port]
  case queue => rw [State.eventReadDone_port]; rfl
  case mark => rw [State.eventReadDone_port]; rfl

end Sys2Proof.Machine
end

section
/-! PROOFS. Reading a unit after an update of one unit or of all: one rule for each update of the arms, pumps, meters, probes,
injectors and slots. -/

namespace Sys2Proof.Machine

variable (s : State)

theorem vector_get_set {α : Type} {n : Nat} (v : Vector α n) (a b : Fin n) (x : α) :
    (v.set a x)[b] = if b = a then x else v[b] := by
  simp only [Fin.getElem_fin, Vector.getElem_set, Fin.ext_iff, eq_comm]

theorem State.modifyArm_get (a b : Fin 4) (f : Arm → Arm) :
    (s.modifyArm a f).arms[b] = if b = a then f s.arms[a] else s.arms[b] := vector_get_set ..

theorem State.modifyPump_get (a b : Fin 4) (f : Pump → Pump) :
    (s.modifyPump a f).pumps[b] = if b = a then f s.pumps[a] else s.pumps[b] := vector_get_set ..

theorem State.modifyMeter_get (a b : Fin 4) (f : Meter → Meter) :
    (s.modifyMeter a f).meters[b] = if b = a then f s.meters[a] else s.meters[b] := vector_get_set ..

theorem State.modifyProbe_get (a b : Fin 4) (f : Probe → Probe) :
    (s.modifyProbe a f).probes[b] = if b = a then f s.probes[a] else s.probes[b] := vector_get_set ..

theorem State.modifyInjector_get (a b : Fin 8) (f : Injector → Injector) :
    (s.modifyInjector a f).injectors[b] = if b = a then f s.injectors[a] else s.injectors[b] := vector_get_set ..

theorem State.modifySlot_get (a b : Fin 8) (f : Slot → Slot) :
    (s.modifySlot a f).slots[b] = if b = a then f s.slots[a] else s.slots[b] := vector_get_set ..

@[simp] theorem State.modifyArm_get_self (a : Fin 4) (f : Arm → Arm) : (s.modifyArm a f).arms[a] = f s.arms[a] := by
  rw [State.modifyArm_get, if_pos rfl]

@[simp] theorem State.modifyPump_get_self (a : Fin 4) (f : Pump → Pump) : (s.modifyPump a f).pumps[a] = f s.pumps[a] := by
  rw [State.modifyPump_get, if_pos rfl]

@[simp] theorem State.modifyMeter_get_self (a : Fin 4) (f : Meter → Meter) :
    (s.modifyMeter a f).meters[a] = f s.meters[a] := by
  rw [State.modifyMeter_get, if_pos rfl]

@[simp] theorem State.modifyInjector_get_self (a : Fin 8) (f : Injector → Injector) :
    (s.modifyInjector a f).injectors[a] = f s.injectors[a] := by
  rw [State.modifyInjector_get, if_pos rfl]

@[simp] theorem State.modifySlot_get_self (a : Fin 8) (f : Slot → Slot) : (s.modifySlot a f).slots[a] = f s.slots[a] := by
  rw [State.modifySlot_get, if_pos rfl]

/-- A property of all four units, unit by unit. -/
theorem forall_four {P : Fin 4 → Prop} (h0 : P 0) (h1 : P 1) (h2 : P 2) (h3 : P 3) (a : Fin 4) : P a := by
  fin_cases a <;> assumption

/-- A property of all eight units, unit by unit. -/
theorem forall_eight {P : Fin 8 → Prop} (h0 : P 0) (h1 : P 1) (h2 : P 2) (h3 : P 3) (h4 : P 4) (h5 : P 5) (h6 : P 6)
    (h7 : P 7) (j : Fin 8) : P j := by
  fin_cases j <;> assumption

@[simp] theorem State.mapArms_get (f : Arm → Arm) (a : Fin 4) : (s.mapArms f).arms[a] = f s.arms[a] :=
  forall_four (P := fun a => (s.mapArms f).arms[a] = f s.arms[a]) rfl rfl rfl rfl a

@[simp] theorem State.mapPumps_get (f : Pump → Pump) (p : Fin 4) : (s.mapPumps f).pumps[p] = f s.pumps[p] :=
  forall_four (P := fun p => (s.mapPumps f).pumps[p] = f s.pumps[p]) rfl rfl rfl rfl p

@[simp] theorem State.mapMeters_get (f : Meter → Meter) (m : Fin 4) : (s.mapMeters f).meters[m] = f s.meters[m] :=
  forall_four (P := fun m => (s.mapMeters f).meters[m] = f s.meters[m]) rfl rfl rfl rfl m

@[simp] theorem State.modifyArms_get (k : ArmMask) (f : Arm → Arm) (a : Fin 4) :
    (s.modifyArms k f).arms[a] = if maskHas k a then f s.arms[a] else s.arms[a] :=
  forall_four (P := fun a => (s.modifyArms k f).arms[a] = if maskHas k a then f s.arms[a] else s.arms[a]) rfl rfl rfl rfl a

@[simp] theorem State.mapInjectors_get (f : Injector → Injector) (j : Fin 8) :
    (s.mapInjectors f).injectors[j] = f s.injectors[j] :=
  forall_eight (P := fun j => (s.mapInjectors f).injectors[j] = f s.injectors[j]) rfl rfl rfl rfl rfl rfl rfl rfl j

@[simp] theorem State.mapSlots_get (f : Slot → Slot) (i : Fin 8) : (s.mapSlots f).slots[i] = f s.slots[i] :=
  forall_eight (P := fun i => (s.mapSlots f).slots[i] = f s.slots[i]) rfl rfl rfl rfl rfl rfl rfl rfl i

end Sys2Proof.Machine
end

section
/-! PROOFS. The operations of the load record, of the injectors and of the write queue leave the arms alone. -/

namespace Sys2Proof.Machine

variable (s : State)

@[simp] theorem State.mapWaiting_arms (f : List Record → List Record) : (s.mapWaiting f).arms = s.arms := by
  unfold State.mapWaiting; split <;> rfl

@[simp] theorem State.refreshImages_arms (l : LoadRecord) : (s.refreshImages l).arms = s.arms :=
  State.mapWaiting_arms s _

@[simp] theorem State.imagePoint_arms : s.imagePoint.arms = s.arms := s.imagePoint_keeps.2.1

@[simp] theorem State.queueImage_arms (l : LoadRecord) : (s.queueImage l).arms = s.arms := by
  unfold State.queueImage; split <;> rfl

@[simp] theorem State.imageHandOff_arms : s.imageHandOff.arms = s.arms := by
  unfold State.imageHandOff; (repeat' split) <;> simp

@[simp] theorem State.callCheckpoint_arms : s.callCheckpoint.arms = s.arms := by
  unfold State.callCheckpoint; (repeat' split) <;> first | rfl | simp

@[simp] theorem State.evalLoad_arms : s.evalLoad.arms = s.arms := s.evalLoad_keeps.1

@[simp] theorem State.evalComps_arms : s.evalComps.arms = s.arms := by
  unfold State.evalComps; split <;> simp

@[simp] theorem State.compChanged_arms (n : Nat) : (s.compChanged n).arms = s.arms := by
  unfold State.compChanged; split <;> simp

@[simp] theorem State.modifyResult_arms (b : Binding) (f : ComponentResult → ComponentResult) :
    (s.modifyResult b f).arms = s.arms := rfl

@[simp] theorem State.modifyBound_arms (j : Fin 8) (f : ComponentResult → ComponentResult) :
    (s.modifyBound j f).arms = s.arms := by
  unfold State.modifyBound; split <;> rfl

@[simp] theorem State.discardOwed_arms (j : Fin 8) : (s.discardOwed j).arms = s.arms := by simp [State.discardOwed]

@[simp] theorem State.cutStroke_arms (j : Fin 8) : (s.cutStroke j).arms = s.arms := by
  unfold State.cutStroke; split <;> simp

@[simp] theorem State.cutStrokes_arms : s.cutStrokes.arms = s.arms := foldl_keeps State.arms _ (by simp) _ _

@[simp] theorem State.flowStops_arms (n : Nat) : (s.flowStops n).arms = s.arms :=
  foldl_keeps State.arms _ (fun s j => by split <;> simp) _ _

@[simp] theorem State.releaseInjector_arms (j : Fin 8) : (s.releaseInjector j).arms = s.arms := by
  simp [State.releaseInjector]

@[simp] theorem State.releaseInjectors_arms (n : Nat) : (s.releaseInjectors n).arms = s.arms :=
  foldl_keeps State.arms _ (fun s j => by split <;> simp) _ _

@[simp] theorem State.compDone_arms (n : Nat) (f : CompRecord → CompRecord) : (s.compDone n f).arms = s.arms := by
  simp [State.compDone]

@[simp] theorem State.compHalted_arms (n : Nat) (c : HaltCause) (f : CompRecord → CompRecord) :
    (s.compHalted n c f).arms = s.arms := by
  unfold State.compHalted; dsimp only; (repeat' split) <;> simp

@[simp] theorem State.endClose_arms (a : Fin 4) (c : CompRecord) : (s.endClose a c).arms = s.arms := by
  unfold State.endClose; split <;> simp

@[simp] theorem State.postCause_arms (e : EventCode) (c : Cause) : (s.postCause e c).arms = s.arms :=
  (s.postCause_keeps e c).2.1

@[simp] theorem State.removeCause_arms (c : Cause) : (s.removeCause c).arms = s.arms := (s.removeCause_keeps c).1

@[simp] theorem State.chargePermit_arms (l : LoadRecord) : (s.chargePermit l).arms = s.arms := by
  unfold State.chargePermit State.queueCharge; (repeat' split) <;> rfl

@[simp] theorem State.tryCommit_arms : s.tryCommit.arms = s.arms := by
  unfold State.tryCommit; (repeat' split) <;> rfl

@[simp] theorem State.handOff_arms : s.handOff.arms = s.arms := by
  unfold State.handOff; split <;> simp

@[simp] theorem State.enterClosing_arms : s.enterClosing.arms = s.arms := by
  unfold State.enterClosing; exact (State.removeCause_arms _ _).trans (by simp)

@[simp] theorem State.closeIfDone_arms : s.closeIfDone.arms = s.arms := by
  unfold State.closeIfDone; dsimp only; (repeat' split) <;> simp

@[simp] theorem State.finishIdle_arms : s.finishIdle.arms = s.arms :=
  foldl_keeps State.arms _ (fun s n => by (repeat' split) <;> simp) _ _

end Sys2Proof.Machine
end

section
/-! PROOFS. What every operation keeps of a state, whatever the state: the lengths of its queues, the fit of its valves, its
totalizers, its calibration set, and that no operation begins RESET. One relation between two states says them together, so that each operation is looked at once. -/

namespace Sys2Proof.Machine

/-- `t` keeps what a safe run keeps of `s`. -/
structure State.Keeps (s t : State) : Prop where
  bounded : s.QueuesBounded → t.QueuesBounded
  fits : s.ValvesFit → t.ValvesFit
  totals : s.TotalsInRange → s.TotalsAtLeast t ∧ t.TotalsInRange
  cal : t.cal = s.cal
  held : t.phase = .held → s.phase = .held

namespace State.Keeps

variable {o s t : State}

/-- The fields that `Keeps` reads. -/
theorem of_fields (h : o.Keeps s) (hq : t.queue.length = s.queue.length) (hp : t.ports = s.ports)
    (ho : t.orders.length = s.orders.length) (ha : t.arms = s.arms) (hm : t.meters = s.meters)
    (hi : t.injectors = s.injectors) (hc : t.cal = s.cal) (hph : t.phase = s.phase) :
    o.Keeps t := by
  obtain ⟨hb, hf, ht, hcal, hh⟩ := h
  refine ⟨fun x => ?_, fun x => ?_, fun x => ?_, hc.trans hcal, fun x => hh (hph ▸ x)⟩
  · have := hb x
    simpa only [State.QueuesBounded, hq, hp, ho] using this
  · have := hf x
    simpa only [State.ValvesFit, ha] using this
  · have := ht x
    simpa only [State.TotalsAtLeast, State.TotalsInRange, hm, hi] using this

theorem refl (s : State) : s.Keeps s := ⟨id, id, fun h => ⟨⟨fun _ => ⟨le_rfl, le_rfl⟩, fun _ => le_rfl⟩, h⟩, rfl, id⟩

theorem trans (h : o.Keeps s) (h' : s.Keeps t) : o.Keeps t where
  bounded x := h'.bounded (h.bounded x)
  fits x := h'.fits (h.fits x)
  totals x := by
    obtain ⟨⟨hm, hi⟩, hr⟩ := h.totals x
    obtain ⟨⟨hm', hi'⟩, hr'⟩ := h'.totals hr
    exact ⟨⟨fun m => ⟨(hm m).1.trans (hm' m).1, (hm m).2.trans (hm' m).2⟩, fun j => (hi j).trans (hi' j)⟩, hr'⟩
  cal := h'.cal.trans h.cal
  held x := h.held (h'.held x)

/-! ### The plain updates -/

/-- An update of a port that does not lengthen its event queue past its length. -/
theorem modifyPort {p : Port} {f : PortState → PortState} (h : o.Keeps s)
    (hf : ∀ x : PortState, x.events.length ≤ 16 → (f x).events.length ≤ 16) : o.Keeps (s.modifyPort p f) := by
  refine h.trans ⟨fun ⟨hq, ht, hp, hs, ho⟩ => ?_, fun x => x, (refl s).totals, rfl, id⟩
  cases p
  · exact ⟨hq, hf _ ht, hp, hs, ho⟩
  · exact ⟨hq, ht, hf _ hp, hs, ho⟩
  · exact ⟨hq, ht, hp, hf _ hs, ho⟩

theorem offer_length (e : Event) (x : PortState) (h : x.events.length ≤ 16) : (x.offer e).events.length ≤ 16 := by
  unfold PortState.offer; split
  · simp only [List.length_append, List.length_singleton]; omega
  · exact h

@[simp] theorem post {c : EventCode} {k : ObjectKind} {n : Nat} {v : BitVec 32} (h : o.Keeps s) :
    o.Keeps (s.post c k n v) := by
  refine h.trans ⟨fun ⟨hq, ht, hp, hs, ho⟩ => ⟨hq, ?_, ?_, ?_, ho⟩, fun x => x, (refl s).totals, rfl, id⟩
  all_goals simp only [State.post, Ports.offer]; split
  all_goals first | exact offer_length _ _ ‹_› | assumption

@[simp] theorem respond {p : Port} {g : Byte} {r : Reply} (h : o.Keeps s) : o.Keeps (s.respond p g r) :=
  h.modifyPort fun _ hx => hx

@[simp] theorem window {p : Port} {k : Nat} {b : List Byte} (h : o.Keeps s) : o.Keeps (s.window p k b) :=
  h.modifyPort fun _ hx => hx

@[simp] theorem seen {c : ReqCode} {w : Win} (h : o.Keeps s) : o.Keeps (s.seen c w) := h.window

@[simp] theorem noWindow {p : Port} {k : Nat} (h : o.Keeps s) : o.Keeps (s.noWindow p k) :=
  h.modifyPort fun _ hx => hx

@[simp] theorem startWrite (h : o.Keeps s) : o.Keeps s.startWrite := h.of_fields rfl rfl rfl rfl rfl rfl rfl rfl

theorem enqueue {r : Record} (h : o.Keeps s) (hq : o.QueuesBounded → s.queue.length < 8) : o.Keeps (s.enqueue r) := by
  refine ⟨fun x => ?_, h.fits, h.totals, h.cal, h.held⟩
  obtain ⟨_, ht, hp, hs, ho⟩ := h.bounded x
  have := hq x
  refine ⟨?_, ht, hp, hs, ho⟩
  simp only [State.enqueue_queue, List.length_append, List.length_singleton]; omega

theorem length_of_hasPlace (h : s.hasPlace = true) : s.queue.length < 8 := by
  simp only [State.hasPlace, Bool.and_eq_true, decide_eq_true_eq] at h; exact h.1

/-- A record that joins a queue with a place. -/
@[simp] theorem enqueue_of_hasPlace {r : Record} (h : o.Keeps s) (hp : s.hasPlace = true) : o.Keeps (s.enqueue r) :=
  h.enqueue fun _ => length_of_hasPlace hp

/-- A refresh of the waiting records that leaves their number. -/
theorem mapWaiting {f : List Record → List Record} (h : o.Keeps s) (hf : (f s.waiting).length = s.waiting.length) :
    o.Keeps (s.mapWaiting f) := by
  cases hw : s.writing <;> simp only [State.mapWaiting, State.waiting, hw, if_true, Bool.false_eq_true, if_false] at hf ⊢
  · exact h.of_fields hf rfl rfl rfl rfl rfl rfl rfl
  · refine h.of_fields ?_ rfl rfl rfl rfl rfl rfl rfl
    simp only [List.length_append, List.length_take, hf, List.length_tail]; omega

@[simp] theorem mapWaiting_map {f : Record → Record} (h : o.Keeps s) : o.Keeps (s.mapWaiting (List.map f)) :=
  h.mapWaiting (List.length_map f)

@[simp] theorem modifyLoad {f : LoadRecord → LoadRecord} (h : o.Keeps s) : o.Keeps (s.modifyLoad f) :=
  h.of_fields rfl rfl rfl rfl rfl rfl rfl rfl

@[simp] theorem modifyComp {n : Nat} {f : CompRecord → CompRecord} (h : o.Keeps s) : o.Keeps (s.modifyComp n f) :=
  h.modifyLoad

@[simp] theorem modifyPump {p : Fin 4} {f : Pump → Pump} (h : o.Keeps s) : o.Keeps (s.modifyPump p f) :=
  h.of_fields rfl rfl rfl rfl rfl rfl rfl rfl

@[simp] theorem mapPumps {f : Pump → Pump} (h : o.Keeps s) : o.Keeps (s.mapPumps f) :=
  h.of_fields rfl rfl rfl rfl rfl rfl rfl rfl

@[simp] theorem modifyProbe {p : Fin 4} {f : Probe → Probe} (h : o.Keeps s) : o.Keeps (s.modifyProbe p f) :=
  h.of_fields rfl rfl rfl rfl rfl rfl rfl rfl

@[simp] theorem modifySlot {i : Fin 8} {f : Slot → Slot} (h : o.Keeps s) : o.Keeps (s.modifySlot i f) :=
  h.of_fields rfl rfl rfl rfl rfl rfl rfl rfl

@[simp] theorem mapSlots {f : Slot → Slot} (h : o.Keeps s) : o.Keeps (s.mapSlots f) :=
  h.of_fields rfl rfl rfl rfl rfl rfl rfl rfl

/-- An update of one arm that keeps its valve fit. -/
theorem modifyArm {a : Fin 4} {f : Arm → Arm} (h : o.Keeps s) (hf : s.arms[a].ValveFits → (f s.arms[a]).ValveFits) :
    o.Keeps (s.modifyArm a f) := by
  refine h.trans ⟨id, fun x b => ?_, (refl s).totals, rfl, id⟩
  rw [State.modifyArm_get]; split
  · exact hf (x a)
  · exact x b

/-- An update of every arm that keeps every valve fit. -/
theorem mapArms {f : Arm → Arm} (h : o.Keeps s) (hf : ∀ x : Arm, x.ValveFits → (f x).ValveFits) :
    o.Keeps (s.mapArms f) :=
  h.trans ⟨id, fun x b => by rw [State.mapArms_get]; exact hf _ (x b), (refl s).totals, rfl, id⟩

theorem modifyArms {k : ArmMask} {f : Arm → Arm} (h : o.Keeps s) (hf : ∀ x : Arm, x.ValveFits → (f x).ValveFits) :
    o.Keeps (s.modifyArms k f) := by
  refine h.trans ⟨id, fun x b => ?_, (refl s).totals, rfl, id⟩
  rw [State.modifyArms_get]; split
  · exact hf _ (x b)
  · exact x b

/-- An update of one injector that does not lower its totalizer. -/
theorem modifyInjector_of_le {j : Fin 8} {f : Injector → Injector} (h : o.Keeps s)
    (hf : ∀ x : Injector, x.total ≤ 2 ^ 64 - 1 → x.total ≤ (f x).total ∧ (f x).total ≤ 2 ^ 64 - 1) :
    o.Keeps (s.modifyInjector j f) := by
  refine h.trans ⟨id, id, fun ⟨hm, hi⟩ => ⟨⟨fun _ => ⟨le_rfl, le_rfl⟩, fun k => ?_⟩, hm, fun k => ?_⟩, rfl, id⟩
  · rw [State.modifyInjector_get]; split
    · subst k; exact (hf _ (hi j)).1
    · exact le_rfl
  · rw [State.modifyInjector_get]; split
    · exact (hf _ (hi j)).2
    · exact hi k

/-- An update of one injector that leaves its totalizer. -/
theorem modifyInjector {j : Fin 8} {f : Injector → Injector} (h : o.Keeps s) (hf : ∀ x : Injector, (f x).total = x.total) :
    o.Keeps (s.modifyInjector j f) :=
  h.modifyInjector_of_le fun x hx => by rw [hf x]; exact ⟨le_rfl, hx⟩

/-- An update of one meter that does not lower its totalizers. -/
theorem modifyMeter {m : Fin 4} {f : Meter → Meter} (h : o.Keeps s)
    (hf : ∀ x : Meter, x.gross ≤ 2 ^ 64 - 1 → x.net ≤ 2 ^ 64 - 1 →
      (x.gross ≤ (f x).gross ∧ x.net ≤ (f x).net) ∧ (f x).gross ≤ 2 ^ 64 - 1 ∧ (f x).net ≤ 2 ^ 64 - 1) :
    o.Keeps (s.modifyMeter m f) := by
  refine h.trans ⟨id, id, fun ⟨hm, hi⟩ => ⟨⟨fun k => ?_, fun _ => le_rfl⟩, fun k => ?_, hi⟩, rfl, id⟩
  · rw [State.modifyMeter_get]; split
    · subst k; exact (hf _ (hm m).1 (hm m).2).1
    · exact ⟨le_rfl, le_rfl⟩
  · rw [State.modifyMeter_get]; split
    · exact (hf _ (hm m).1 (hm m).2).2
    · exact hm k

/-- An update of every meter that leaves its totalizers. -/
theorem mapMeters {f : Meter → Meter} (h : o.Keeps s) (hf : ∀ x : Meter, (f x).gross = x.gross ∧ (f x).net = x.net) :
    o.Keeps (s.mapMeters f) := by
  refine h.trans ⟨id, id, fun ⟨hm, hi⟩ => ⟨⟨fun k => ?_, fun _ => le_rfl⟩, fun k => ?_, hi⟩, rfl, id⟩
  · rw [State.mapMeters_get, (hf _).1, (hf _).2]; exact ⟨le_rfl, le_rfl⟩
  · rw [State.mapMeters_get, (hf _).1, (hf _).2]; exact hm k

/-- What each step of a fold keeps, the fold keeps. -/
theorem foldl {α : Type} {f : State → α → State} (hf : ∀ s x, o.Keeps s → o.Keeps (f s x)) (l : List α) (s : State)
    (h : o.Keeps s) : o.Keeps (l.foldl f s) := by
  induction l generalizing s with
  | nil => exact h
  | cons x l ih => exact ih _ (hf s x h)

/-! ### Image points, checkpoints and the load state -/

@[simp] theorem queueImage {l : LoadRecord} (h : o.Keeps s) : o.Keeps (s.queueImage l) := by
  unfold State.queueImage; split
  · exact (h.enqueue_of_hasPlace ‹_›).of_fields rfl rfl rfl rfl rfl rfl rfl rfl
  · exact h.of_fields rfl rfl rfl rfl rfl rfl rfl rfl

@[simp] theorem refreshImages {l : LoadRecord} (h : o.Keeps s) : o.Keeps (s.refreshImages l) :=
  (h.mapWaiting_map (f := Record.refreshImage l)).of_fields rfl rfl rfl rfl rfl rfl rfl rfl

@[simp] theorem imagePoint (h : o.Keeps s) : o.Keeps s.imagePoint := by
  unfold State.imagePoint; (repeat' split) <;> simp [h]

@[simp] theorem imageHandOff (h : o.Keeps s) : o.Keeps s.imageHandOff := by
  unfold State.imageHandOff; (repeat' split) <;> simp [h]

@[simp] theorem callCheckpoint (h : o.Keeps s) : o.Keeps s.callCheckpoint := by
  unfold State.callCheckpoint; (repeat' split) <;> (try simp [*])
  exact h.of_fields rfl rfl rfl rfl rfl rfl rfl rfl

theorem refreshLearned_length (a : Fin 4) (c : ArmConfig) (rs w : List Record) (h : refreshLearned a c rs = some w) :
    w.length = rs.length := by
  induction rs generalizing w with
  | nil => simp [refreshLearned] at h
  | cons r rs ih =>
    have tail : ∀ r', (refreshLearned a c rs).map (r' :: ·) = some w → w.length = (r :: rs).length := by
      intro r' hr
      obtain ⟨v, hv, rfl⟩ := Option.map_eq_some_iff.1 hr
      simp [ih v hv]
    unfold refreshLearned at h
    split at h
    · contradiction
    · cases ‹_ :: _ = _›
      split at h
      · cases h; rfl
      · exact tail _ h
    · cases ‹_ :: _ = _›; exact tail _ h

@[simp] theorem queueLearned {a : Fin 4} (h : o.Keeps s) : o.Keeps (s.queueLearned a) := by
  unfold State.queueLearned; (repeat' split)
  · exact h
  · exact h.mapWaiting (refreshLearned_length _ _ _ _ ‹_›)
  · exact (h.enqueue_of_hasPlace ‹_›).modifyArm id
  · exact h.modifyArm id

@[simp] theorem evalLoad (h : o.Keeps s) : o.Keeps s.evalLoad := by
  unfold State.evalLoad; (repeat' split)
  · exact h
  · exact h
  · refine post ?_
    exact h.of_fields rfl rfl rfl rfl rfl rfl rfl rfl

@[simp] theorem evalComps (h : o.Keeps s) : o.Keeps s.evalComps := by unfold State.evalComps; split <;> simp [h]

@[simp] theorem compChanged {n : Nat} (h : o.Keeps s) : o.Keeps (s.compChanged n) := by
  unfold State.compChanged; split
  · exact h
  · exact h.post.evalComps.imagePoint

/-! ### Injectors -/

@[simp] theorem modifyResult {b : Binding} {f : ComponentResult → ComponentResult} (h : o.Keeps s) :
    o.Keeps (s.modifyResult b f) := h.modifyComp

@[simp] theorem modifyBound {j : Fin 8} {f : ComponentResult → ComponentResult} (h : o.Keeps s) :
    o.Keeps (s.modifyBound j f) := by
  unfold State.modifyBound; split <;> simp [h]

@[simp] theorem discardOwed {j : Fin 8} (h : o.Keeps s) : o.Keeps (s.discardOwed j) :=
  h.modifyBound.modifyInjector fun _ => rfl

@[simp] theorem cutStroke {j : Fin 8} (h : o.Keeps s) : o.Keeps (s.cutStroke j) := by
  unfold State.cutStroke; split
  · exact h.discardOwed.modifyBound.modifyInjector fun _ => rfl
  · exact h

@[simp] theorem cutStrokes (h : o.Keeps s) : o.Keeps s.cutStrokes := foldl (fun _ _ => cutStroke) _ _ h

@[simp] theorem flowStops {n : Nat} (h : o.Keeps s) : o.Keeps (s.flowStops n) :=
  foldl (fun _ _ h => by split <;> simp [h]) _ _ h

@[simp] theorem releaseInjector {j : Fin 8} (h : o.Keeps s) : o.Keeps (s.releaseInjector j) :=
  h.cutStroke.discardOwed.modifyInjector fun _ => rfl

@[simp] theorem releaseInjectors {n : Nat} (h : o.Keeps s) : o.Keeps (s.releaseInjectors n) :=
  foldl (fun _ _ h => by split <;> simp [h]) _ _ h

@[simp] theorem compDone {n : Nat} {f : CompRecord → CompRecord} (h : o.Keeps s) : o.Keeps (s.compDone n f) :=
  h.modifyComp.releaseInjectors.modifyComp.compChanged.callCheckpoint

end State.Keeps

/-! ### What changes of an arm keep its valve fit -/

@[simp] theorem Arm.valveFits_of_closed {x : Arm} (h : x.valve = .closed) : x.ValveFits := by simp [Arm.ValveFits, h]

/-- The valve of an arm that does not flow is closed. -/
@[simp] theorem Arm.ValveFits.closed {x : Arm} (h : x.ValveFits) (hx : x.state.isFlowing = false) : x.valve = .closed := by
  by_contra hv
  simp [h.1 hv] at hx

@[simp] theorem Arm.valveFits_driven {x : Arm} (h : x.ValveFits) : x.driven.ValveFits := by
  unfold Arm.driven; split
  · exact Arm.valveFits_of_closed rfl
  · exact h

@[simp] theorem Arm.valveFits_faulted (cause : FaultCause) {x : Arm} (h : x.ValveFits) : (x.faulted cause).ValveFits := by
  unfold Arm.faulted; split
  · exact h
  · exact Arm.valveFits_of_closed (h.closed (by simp [*, ArmState.isFlowing]))
  · exact Arm.valveFits_of_closed (h.closed (by simp [*, ArmState.isFlowing]))
  all_goals exact Arm.valveFits_of_closed rfl

@[simp] theorem ArmState.not_flowing_of_closing_or_fault {st : ArmState} (h : st = .closing ∨ st = .fault) :
    st.isFlowing = false := by
  rcases h with rfl | rfl <;> rfl

@[simp] theorem Arm.valveFits_held {x : Arm} (h : x.ValveFits) : x.held.ValveFits := by
  unfold Arm.held; split
  · simp [Arm.ValveFits, *, ArmState.isFlowing]
  · exact h

/-- Learning changes the anticipation of an arm, not its state (R83). -/
theorem State.learn_armState (a b : Fin 4) (c : CompRecord) (s : State) : (s.learn a c).arms[b].state = s.arms[b].state := by
  unfold State.learn State.queueLearned; (repeat' split) <;>
    simp only [State.mapWaiting_arms, State.modifyArm_get, State.enqueue_arms] <;> (repeat' split) <;> simp_all

namespace State.Keeps

variable {o s t : State}

/-! ### Drives, pumps, faults and causes -/

theorem driven {a : Fin 4} (h : o.Keeps s) : o.Keeps (s.modifyArm a Arm.driven) := h.modifyArm Arm.valveFits_driven

@[simp] theorem driveClose {n : Nat} {r : CloseReason} (h : o.Keeps s) : o.Keeps (s.driveClose n r) := by
  unfold State.driveClose; (repeat' split)
  · exact h
  · exact h.modifyComp.driven.flowStops.compChanged
  · exact h

@[simp] theorem driveAll {r : CloseReason} (h : o.Keeps s) : o.Keeps (s.driveAll r) := foldl (fun _ _ => driveClose) _ _ h

@[simp] theorem settleExpired {a : Fin 4} (h : o.Keeps s) : o.Keeps (s.settleExpired a) := by
  have opened : o.Keeps (s.modifyArm a fun x => { x with state := .low, valve := .low, settleTimer := none }) :=
    h.modifyArm fun _ => by simp [Arm.ValveFits, ArmState.isFlowing]
  unfold State.settleExpired; dsimp only; (repeat' split) <;> simp [h, opened]

@[simp] theorem startSettle {a : Fin 4} {k : Nat} (h : o.Keeps s) : o.Keeps (s.startSettle a k) := by
  unfold State.startSettle; split
  · exact h.settleExpired
  · exact h.modifyArm id

@[simp] theorem startSettles {p : Fin 4} (h : o.Keeps s) : o.Keeps (s.startSettles p) :=
  foldl (fun _ _ h => by split <;> simp [h]) _ _ h

@[simp] theorem pumpRunning {p : Fin 4} (h : o.Keeps s) : o.Keeps (s.pumpRunning p) :=
  h.modifyPump.startSettles.modifyPump

@[simp] theorem startPump {p : Fin 4} (h : o.Keeps s) : o.Keeps (s.startPump p) := by
  unfold State.startPump; dsimp only; split <;> simp [h]

@[simp] theorem demandRises {p : Fin 4} (h : o.Keeps s) : o.Keeps (s.demandRises p) := by
  unfold State.demandRises; (repeat' split) <;> simp [h]

@[simp] theorem demandFalls {p : Fin 4} (h : o.Keeps s) : o.Keeps (s.demandFalls p) := by
  unfold State.demandFalls; split <;> simp [h]

@[simp] theorem recountPump {p : Fin 4} (h : o.Keeps s) : o.Keeps (s.recountPump p) := by
  unfold State.recountPump; dsimp only; (repeat' split) <;> simp [h]

@[simp] theorem recount (h : o.Keeps s) : o.Keeps s.recount := foldl (fun _ _ => recountPump) _ _ h

@[simp] theorem failPump {p : Fin 4} {k : FailKind} (h : o.Keeps s) : o.Keeps (s.failPump p k) := by
  unfold State.failPump
  exact foldl (fun _ _ h => by (repeat' split) <;> simp [h]) _ _ h.modifyPump.post

@[simp] theorem armFault {a : Fin 4} {c : FaultCause} (h : o.Keeps s) : o.Keeps (s.armFault a c) := by
  have faulted : o.Keeps (s.modifyArm a (Arm.faulted c)) := h.modifyArm (Arm.valveFits_faulted c)
  unfold State.armFault; dsimp only; (repeat' split) <;> simp [h, faulted]

@[simp] theorem postCause {e : EventCode} {c : Cause} (h : o.Keeps s) : o.Keeps (s.postCause e c) := by
  unfold State.postCause; split <;> simp [h]

@[simp] theorem addCause {c : Cause} (h : o.Keeps s) : o.Keeps (s.addCause c) := by
  unfold State.addCause; (repeat' split)
  · exact h
  · exact h
  · exact h.driveAll.modifyLoad.evalLoad.imagePoint.postCause

@[simp] theorem removeCause {c : Cause} (h : o.Keeps s) : o.Keeps (s.removeCause c) := by
  unfold State.removeCause; (repeat' split)
  · exact h
  · exact h.modifyLoad.postCause.imagePoint.evalLoad
  · exact h

@[simp] theorem judgePermissive (h : o.Keeps s) : o.Keeps s.judgePermissive := by
  unfold State.judgePermissive; split <;> simp [h]

/-! ### The end of a load -/

@[simp] theorem queueCharge {r : Record} (h : o.Keeps s) : o.Keeps (s.queueCharge r) := by
  unfold State.queueCharge; split
  · exact h.of_fields rfl rfl rfl rfl rfl rfl rfl rfl
  · exact h.enqueue_of_hasPlace (by simp_all)

@[simp] theorem chargePermit {l : LoadRecord} (h : o.Keeps s) : o.Keeps (s.chargePermit l) := by
  unfold State.chargePermit; (repeat' split)
  · exact h
  · exact queueCharge (h.of_fields rfl rfl rfl rfl rfl rfl rfl rfl)
  · exact h

@[simp] theorem queueCommit {i : Fin 8} {r : Record} (h : o.Keeps s) (hp : s.hasPlace = true) :
    o.Keeps (s.queueCommit i r) := (h.enqueue_of_hasPlace hp).modifySlot

@[simp] theorem tryCommit (h : o.Keeps s) : o.Keeps s.tryCommit := by
  unfold State.tryCommit; (repeat' split) <;> simp [*]

@[simp] theorem handOff (h : o.Keeps s) : o.Keeps s.handOff := by
  unfold State.handOff; split
  · exact h
  · refine tryCommit (modifySlot (chargePermit (imageHandOff ?_)))
    exact h.of_fields rfl rfl rfl rfl rfl rfl rfl rfl

@[simp] theorem enterClosing (h : o.Keeps s) : o.Keeps s.enterClosing :=
  (h.modifyLoad.post.imagePoint.removeCause).of_fields rfl rfl rfl rfl rfl rfl rfl rfl

@[simp] theorem closeIfDone (h : o.Keeps s) : o.Keeps s.closeIfDone := by
  unfold State.closeIfDone; dsimp only; (repeat' split) <;> simp [h]

@[simp] theorem compHalted {n : Nat} {c : HaltCause} {f : CompRecord → CompRecord} (h : o.Keeps s) :
    o.Keeps (s.compHalted n c f) := by
  unfold State.compHalted; dsimp only; (repeat' split)
  · exact h.modifyComp.compChanged.callCheckpoint
  · exact h.modifyComp.compChanged.callCheckpoint.compDone
  · exact h.modifyComp.compChanged.callCheckpoint

@[simp] theorem releaseLoad (h : o.Keeps s) : o.Keeps s.releaseLoad :=
  post (h.of_fields rfl rfl rfl rfl rfl rfl rfl rfl)

@[simp] theorem finishIdle (h : o.Keeps s) : o.Keeps s.finishIdle :=
  foldl (fun _ _ h => by (repeat' split) <;> simp [h]) _ _ h

/-! ### Injection -/

@[simp] theorem bindFrom {n : Nat} {a : Fin 4} {r p : Nat} {cs : List Component} (h : o.Keeps s) :
    o.Keeps (State.bindFrom n a r p cs s) := by
  induction cs generalizing s p with
  | nil => exact h
  | cons c cs ih =>
    refine ih ?_
    split
    · exact h.modifyComp
    · exact h.modifyComp.modifyInjector fun _ => rfl

@[simp] theorem duePoint {j : Fin 8} (h : o.Keeps s) : o.Keeps (s.duePoint j) := by
  unfold State.duePoint; (repeat' split) <;> (try simp only [modifyBound, h])
  · exact h.modifyInjector fun _ => rfl
  · exact h.modifyInjector fun _ => rfl

@[simp] theorem duePoints {j : Fin 8} {d : Nat} (h : o.Keeps s) : o.Keeps (State.duePoints j d s) := by
  induction d generalizing s with
  | zero => exact h
  | succ d ih => exact ih h.duePoint

@[simp] theorem dueResult {n g : Nat} {r : ComponentResult} (h : o.Keeps s) : o.Keeps (s.dueResult n g r) := by
  unfold State.dueResult; dsimp only; (repeat' split) <;> simp [h]

@[simp] theorem strokesDue {a : Fin 4} {n : Nat} (h : o.Keeps s) : o.Keeps (s.strokesDue a n) := by
  unfold State.strokesDue; (repeat' split)
  · exact h
  · exact foldl (fun _ _ => dueResult) _ _ h
  · exact h

@[simp] theorem strokeEnded {j : Fin 8} (h : o.Keeps s) : o.Keeps (s.strokeEnded j) := by
  unfold State.strokeEnded; split <;> exact h.modifyInjector fun _ => rfl

theorem le_satAdd {limit x d : Nat} (h : x ≤ limit) : x ≤ satAdd limit x d ∧ satAdd limit x d ≤ limit := by
  unfold satAdd; omega

@[simp] theorem confirmStroke {j : Fin 8} (h : o.Keeps s) : o.Keeps (s.confirmStroke j) :=
  strokeEnded (h.modifyBound.modifyInjector_of_le fun _ => le_satAdd)

@[simp] theorem injectorFeedback {j : Fin 8} {on : Bool} (h : o.Keeps s) : o.Keeps (s.injectorFeedback j on) := by
  have seen : o.Keeps (s.modifyInjector j fun x => { x with feedback := on }) := h.modifyInjector fun _ => rfl
  unfold State.injectorFeedback; dsimp only; split <;> simp [seen]

@[simp] theorem faultComponent {b : Binding} (h : o.Keeps s) : o.Keeps (s.faultComponent b) := by
  unfold State.faultComponent; (repeat' split) <;> simp [h]

@[simp] theorem injectorFault {j : Fin 8} (h : o.Keeps s) : o.Keeps (s.injectorFault j) := by
  have faulted : o.Keeps ((s.discardOwed j).modifyInjector j fun x => { x with state := .fault }) :=
    h.discardOwed.modifyInjector fun _ => rfl
  unfold State.injectorFault; dsimp only; split <;> simp [faulted]

@[simp] theorem missStroke {j : Fin 8} (h : o.Keeps s) : o.Keeps (s.missStroke j) := by
  unfold State.missStroke; dsimp only; split
  · exact injectorFault (h.modifyBound.modifyInjector fun _ => rfl)
  · exact strokeEnded (h.modifyBound.modifyInjector fun _ => rfl)

/-! ### Arms -/

@[simp] theorem armTakes {a : Fin 4} {n : Nat} {p : Option (Fin 4)} (h : o.Keeps s) : o.Keeps (s.armTakes a n p) := by
  have taken : o.Keeps (s.modifyArm a (Arm.taking n)) := h.modifyArm fun _ => Arm.valveFits_of_closed rfl
  unfold State.armTakes; dsimp only; (repeat' split) <;> simp [taken]

@[simp] theorem startComp {c : CompRecord} (h : o.Keeps s) : o.Keeps (s.startComp c) := by
  unfold State.startComp; dsimp only; split
  · exact h.bindFrom.modifyComp.compChanged.armTakes
  · exact h.modifyComp.compChanged.armTakes

@[simp] theorem endClose {a : Fin 4} {c : CompRecord} (h : o.Keeps s) : o.Keeps (s.endClose a c) := by
  unfold State.endClose; split <;> simp [h]

@[simp] theorem learn {a : Fin 4} {c : CompRecord} (h : o.Keeps s) : o.Keeps (s.learn a c) := by
  unfold State.learn; split
  · exact queueLearned (h.modifyArm id)
  · exact h

theorem released {a : Fin 4} (h : o.Keeps s) (ha : s.arms[a].state = .closing ∨ s.arms[a].state = .fault) :
    o.Keeps (s.modifyArm a Arm.released) :=
  h.modifyArm fun hx => Arm.valveFits_of_closed (hx.closed (ArmState.not_flowing_of_closing_or_fault ha))

theorem leaked {a : Fin 4} (h : o.Keeps s) (ha : s.arms[a].state = .closing ∨ s.arms[a].state = .fault) :
    o.Keeps (s.modifyArm a Arm.leaked) :=
  h.modifyArm fun hx => Arm.valveFits_of_closed (hx.closed (ArmState.not_flowing_of_closing_or_fault ha))

/-- A leak concerns an arm in CLOSING or in FAULT, whose valve is closed (R82). -/
theorem closeExpired {a : Fin 4} {n : Nat} (h : o.Keeps s) (ha : s.arms[a].state = .closing ∨ s.arms[a].state = .fault) :
    o.Keeps (s.closeExpired a n) := by
  unfold State.closeExpired
  refine (leaked h.post.compDone ?_).recount.closeIfDone
  rw [State.compDone_arms]; exact ha

theorem noFlowConfirmed {a : Fin 4} (h : o.Keeps s) (ha : s.arms[a].state = .closing ∨ s.arms[a].state = .fault) :
    o.Keeps (s.noFlowConfirmed a) := by
  unfold State.noFlowConfirmed; split
  · exact h
  · refine (released h.endClose.learn ?_).recount.closeIfDone
    rw [State.learn_armState, State.endClose_arms]; exact ha

theorem noFlowCount {a : Fin 4} {k : Nat} (h : o.Keeps s) (ha : s.arms[a].state = .closing ∨ s.arms[a].state = .fault) :
    o.Keeps (s.noFlowCount a k) := by
  unfold State.noFlowCount; dsimp only; (repeat' split)
  · exact noFlowConfirmed (h.modifyArm id) (by simpa using ha)
  · exact h.modifyArm id
  · exact h.modifyArm id

/-! ### The gate -/

@[simp] theorem presetClose {a : Fin 4} {c : CompRecord} {g : GateFigures} (h : o.Keeps s) :
    o.Keeps (s.presetClose a c g) := by
  unfold State.presetClose; exact h.modifyComp.driveClose.modifyArm id

theorem stageArm {a : Fin 4} {n : Nat} {st : ArmState} {v : Valve} {hold : Bool} {cs : CompState} (h : o.Keeps s)
    (hv : (v ≠ .closed → st.isFlowing = true) ∧ (v = .full → st = .full ∧ hold = false)) :
    o.Keeps (s.stageArm a n st v hold cs) := by
  unfold State.stageArm
  refine compChanged (modifyComp (h.modifyArm fun _ => ?_))
  exact hv

@[simp] theorem leaveLow {a : Fin 4} {c : CompRecord} (h : o.Keeps s) : o.Keeps (s.leaveLow a c) := by
  unfold State.leaveLow; dsimp only; (repeat' split) <;> exact h.stageArm (by simp [ArmState.isFlowing])

@[simp] theorem compare {a : Fin 4} {c : CompRecord} {g : GateFigures} (h : o.Keeps s) : o.Keeps (s.compare a c g) := by
  have slowed : o.Keeps (s.stageArm a c.line.compartment .slowdown .low false .slowdown) :=
    h.stageArm (by simp [ArmState.isFlowing])
  unfold State.compare; (repeat' split) <;> (try simp [h, slowed])
  exact h.modifyArm fun _ => by simp_all [Arm.ValveFits, ArmState.isFlowing]

@[simp] theorem armGate {a : Fin 4} {n k : Nat} {g : GateFigures} (h : o.Keeps s) : o.Keeps (s.armGate a n k g) := by
  unfold State.armGate; (repeat' split) <;> (try simp [h])
  · exact h.noFlowCount (.inl ‹_›)
  · exact h.noFlowCount (.inr ‹_›)

@[simp] theorem strayCheck {a : Fin 4} (h : o.Keeps s) : o.Keeps (s.strayCheck a) := by
  unfold State.strayCheck; split <;> simp [h]

@[simp] theorem judgeGate {m : Fin 4} {f b e : Nat} (h : o.Keeps s) : o.Keeps (s.judgeGate m f b e) := by
  unfold State.judgeGate; split <;> simp [h]

@[simp] theorem repay {m : Fin 4} {f b : Nat} (h : o.Keeps s) : o.Keeps (s.repay m f b) := by
  have repaid (d : Nat) : o.Keeps (s.modifyMeter m fun x => { x with debt := d }) :=
    h.modifyMeter fun _ hg hn => ⟨⟨le_rfl, le_rfl⟩, hg, hn⟩
  unfold State.repay; dsimp only; split
  · exact (repaid _).post.armFault
  · exact repaid _

@[simp] theorem tempDrive {m : Fin 4} (h : o.Keeps s) : o.Keeps (s.tempDrive m) := by
  unfold State.tempDrive; (repeat' split) <;> simp [h]

@[simp] theorem followGate {m : Fin 4} {n f b : Nat} {g : GateFigures} (h : o.Keeps s) : o.Keeps (s.followGate m n f b g) := by
  unfold State.followGate; dsimp only; (repeat' split)
  · exact h.post
  · exact h.strokesDue.armGate.post
  · exact h
  · exact h.strokesDue.armGate

@[simp] theorem route {m : Fin 4} {d : Option CompRecord} {f : Nat} {r : Bool} {g : GateFigures} (h : o.Keeps s) :
    o.Keeps (s.route m d f r g) := by
  have strayed : o.Keeps (s.modifyArm m fun x => { x with stray := satAdd (2 ^ 32 - 1) x.stray g.gross }) := h.modifyArm id
  unfold State.route; dsimp only; (repeat' split)
  · exact h.modifyComp.followGate
  · exact strayed
  · exact strayed.strayCheck

@[simp] theorem crossing {m : Fin 4} {b : Nat} (h : o.Keeps s) : o.Keeps (s.crossing m b) := by
  unfold State.crossing; split <;> simp [h]

@[simp] theorem gate {m : Fin 4} (h : o.Keeps s) : o.Keeps (s.gate m) := by
  have zeroed : o.Keeps (s.modifyMeter m fun x => { x with forward := 0, backward := 0, errors := 0, gateTimer := some 100 }) :=
    h.modifyMeter fun _ hg hn => ⟨⟨le_rfl, le_rfl⟩, hg, hn⟩
  unfold State.gate
  refine (zeroed.judgeGate.repay.tempDrive.modifyMeter fun x hg hn => ?_).route.crossing
  exact ⟨⟨(le_satAdd hg).1, (le_satAdd hn).1⟩, (le_satAdd hg).2, (le_satAdd hn).2⟩

@[simp] theorem poll {r : ConverterAnswer} (h : o.Keeps s) : o.Keeps (s.poll r) := by
  have polled {t : State} {c : Scanner} (h : o.Keeps t) : o.Keeps { t with scanner := c } :=
    h.of_fields rfl rfl rfl rfl rfl rfl rfl rfl
  unfold State.poll; dsimp only; split
  · exact polled h.modifyProbe.post
  · exact polled h.modifyProbe

theorem decode {m : Fin 4} {f : Meter → Meter} (h : o.Keeps s) (hf : ∀ x : Meter, (f x).gross = x.gross ∧ (f x).net = x.net) :
    o.Keeps (s.decode m f) := by
  have decoded : o.Keeps (s.modifyMeter m f) :=
    h.modifyMeter fun x hg hn => by rw [(hf x).1, (hf x).2]; exact ⟨⟨le_rfl, le_rfl⟩, hg, hn⟩
  unfold State.decode; (repeat' split) <;> simp [h, decoded]

@[simp] theorem pumpFeedback {p : Fin 4} {on : Bool} (h : o.Keeps s) : o.Keeps (s.pumpFeedback p on) := by
  unfold State.pumpFeedback; dsimp only; split <;> simp [h]

/-! ### Permits, notes and interlocks -/

theorem dropContext {r : Reason} (h : o.Keeps s) : o.Keeps (s.dropContext r) := by
  unfold State.dropContext; split
  · exact h
  · refine post ?_
    exact h.of_fields rfl rfl rfl rfl rfl rfl rfl rfl

/-- An order queue that has not grown. -/
theorem of_orders (h : o.Keeps s) (hq : t.queue = s.queue) (hp : t.ports = s.ports)
    (ho : t.orders.length ≤ s.orders.length) (ha : t.arms = s.arms) (hm : t.meters = s.meters)
    (hi : t.injectors = s.injectors) (hc : t.cal = s.cal) (hph : t.phase = s.phase) :
    o.Keeps t := by
  refine ⟨fun x => ?_, fun x => ?_, fun x => ?_, hc.trans h.cal, fun x => h.held (hph ▸ x)⟩
  · obtain ⟨h1, h2, h3, h4, h5⟩ := h.bounded x
    exact ⟨hq ▸ h1, hp ▸ h2, hp ▸ h3, hp ▸ h4, ho.trans h5⟩
  · simpa only [State.ValvesFit, ha] using h.fits x
  · simpa only [State.TotalsAtLeast, State.TotalsInRange, hm, hi] using h.totals x

@[simp] theorem openLoad {k : Nat} {e : PermitEntry} {r : Order} {i : Fin 8} (h : o.Keeps s) (hp : s.hasPlace = true) :
    o.Keeps (s.openLoad k e r i) := by
  unfold State.openLoad
  refine post (post (imagePoint (modifySlot (enqueue ?_ fun _ => length_of_hasPlace hp))))
  exact h.of_orders rfl rfl (List.length_filter_le ..) rfl rfl rfl rfl rfl

@[simp] theorem reportPermissives {p : Permissives} (h : o.Keeps s) : o.Keeps (s.reportPermissives p) := by
  have reported : o.Keeps { s with safety := s.safety.report p } := h.of_fields rfl rfl rfl rfl rfl rfl rfl rfl
  unfold State.reportPermissives; dsimp only; split
  · exact reported.judgePermissive
  · exact reported.post.judgePermissive

@[simp] theorem goStale (h : o.Keeps s) : o.Keeps s.goStale := by
  unfold State.goStale
  refine judgePermissive (post (post ?_))
  exact h.of_fields rfl rfl rfl rfl rfl rfl rfl rfl

@[simp] theorem stopArms {k : ArmMask} (h : o.Keeps s) : o.Keeps (s.stopArms k) :=
  foldl (fun _ _ h => by (repeat' split) <;> simp [h]) _ _ h

@[simp] theorem shutDown (h : o.Keeps s) : o.Keeps s.shutDown :=
  (h.driveAll.mapArms fun _ _ => Arm.valveFits_of_closed rfl).mapPumps.cutStrokes

@[simp] theorem setEsd (h : o.Keeps s) : o.Keeps s.setEsd := by
  have latched : o.Keeps { s with safety := { s.safety with esdLatch := true } } := h.of_fields rfl rfl rfl rfl rfl rfl rfl rfl
  unfold State.setEsd; dsimp only; split
  · exact latched.shutDown.addCause
  · exact latched.shutDown.addCause.post

@[simp] theorem esdInput {on : Bool} (h : o.Keeps s) : o.Keeps (s.esdInput on) := by
  have seen : o.Keeps { s with safety := { s.safety with esdInput := some on } } := h.of_fields rfl rfl rfl rfl rfl rfl rfl rfl
  unfold State.esdInput; dsimp only; split <;> simp [seen]

@[simp] theorem restartPumps (h : o.Keeps s) : o.Keeps s.restartPumps :=
  foldl (fun _ _ h => by split <;> simp [h]) _ _ h

@[simp] theorem renew (h : o.Keeps s) : o.Keeps s.renew := by
  unfold State.renew
  refine removeCause (mapArms ?_ fun x hx => ⟨hx.1, fun hv => ⟨(hx.2 hv).1, rfl⟩⟩)
  exact h.of_fields rfl rfl rfl rfl rfl rfl rfl rfl

@[simp] theorem firstExpiry (h : o.Keeps s) : o.Keeps s.firstExpiry := by
  unfold State.firstExpiry
  refine post (mapArms ?_ fun _ => Arm.valveFits_held)
  exact h.of_fields rfl rfl rfl rfl rfl rfl rfl rfl

@[simp] theorem secondExpiry (h : o.Keeps s) : o.Keeps s.secondExpiry := by
  unfold State.secondExpiry
  refine addCause ?_
  exact h.of_fields rfl rfl rfl rfl rfl rfl rfl rfl

@[simp] theorem sealChange {on : Bool} (h : o.Keeps s) : o.Keeps (s.sealChange on) := by
  have sealedOrOpen : o.Keeps { s with sealState := sealOf on } := h.of_fields rfl rfl rfl rfl rfl rfl rfl rfl
  unfold State.sealChange; dsimp only; (repeat' split) <;> simp [h, sealedOrOpen]

@[simp] theorem freeNote {i : Fin 8} {k : Nat} (h : o.Keeps s) (hp : s.hasPlace = true) : o.Keeps (s.freeNote i k) := by
  unfold State.freeNote
  refine post ?_
  exact (h.modifySlot.enqueue_of_hasPlace hp).of_fields rfl rfl rfl rfl rfl rfl rfl rfl

/-- What CAL-WRITE does beside the calibration set (R144). -/
theorem calibrate {i : CalItem} (h : o.Keeps s) (hp : s.hasPlace = true) : o.Keeps { s.calibrate i with cal := s.cal } := by
  have put (c : Calibration) : o.Keeps { ({ s with cal := c } : State).zeroRemI i with cal := s.cal } := by
    unfold State.zeroRemI; split
    · exact modifyMeter (f := fun x => { x with remI := 0 }) h fun _ hg hn => ⟨⟨le_rfl, le_rfl⟩, hg, hn⟩
    all_goals exact h
  have hq : (({ s with cal := { s.cal.put i with cec := s.cal.cec + 1 } } : State).zeroRemI i).queue = s.queue := by
    unfold State.zeroRemI; split <;> rfl
  exact enqueue (put _) fun _ => by
    show List.length (State.queue _) < 8
    rw [hq]; exact length_of_hasPlace hp

/-! ### Owners that answer with what they did -/

theorem postStaged {g : Staging} (h : o.Keeps s) : o.Keeps (s.postStaged g).1 := by
  unfold State.postStaged; dsimp only; split
  · exact h.of_fields rfl rfl rfl rfl rfl rfl rfl rfl
  · split
    · exact h.of_fields rfl rfl rfl rfl rfl rfl rfl rfl
    · refine post ⟨fun x => ?_, h.fits, h.totals, h.cal, h.held⟩
      obtain ⟨h1, h2, h3, h4, _⟩ := h.bounded x
      refine ⟨h1, h2, h3, h4, ?_⟩
      simp only [List.length_append, List.length_singleton]; omega

theorem amendLoad {c : CompRecord} {k : Nat} (h : o.Keeps s) : o.Keeps (s.amendLoad c k).1 := by
  have replaced : o.Keeps (s.modifyComp c.line.compartment (CompRecord.withPreset k)).imagePoint := h.modifyComp.imagePoint
  unfold State.amendLoad; dsimp only [refuse, reply]; (repeat' split) <;> simp [h, replaced]

theorem setPermit {e : PermitEntry} (h : o.Keeps s) : o.Keeps (s.setPermit e).1 := by
  have replaced : o.Keeps { s with permits := withPermit e.content.card (some e) s.permits } :=
    h.of_fields rfl rfl rfl rfl rfl rfl rfl rfl
  unfold State.setPermit; split
  · exact h
  · have hp : s.hasPlace = true := by simp_all
    exact replaced.enqueue fun _ => length_of_hasPlace hp

theorem setBlocked {k : ArmMask} {b : Bool} (h : o.Keeps s) : o.Keeps (s.setBlocked k b).1 := by
  unfold State.setBlocked; dsimp only [refuse, reply]; (repeat' split)
  · exact h
  · exact h
  · have hp : s.hasPlace = true := by simp_all
    exact enqueue (modifyArms h fun _ hx => hx) fun _ => length_of_hasPlace hp

end State.Keeps

end Sys2Proof.Machine
end

section
/-! PROOFS. Every owner of a request, and every row but the restarts, keeps the queues bounded, the valves fit and the
totalizers standing. -/

namespace Sys2Proof.Machine

/-! ### A request row runs its owner -/

/-- A request row is its window, judged at the port and taken by the owner of the request (R165 to R171). -/
theorem exec_eq_request {i : Instr} {c : ReqCode} {w : Win} (hc : reqCode? i = some c) (hw : win? i = some w) (s : State) :
    exec i s = request c w (ownerOf i) s := by
  cases i <;> cases hc <;> cases hw <;> rfl

/-- A command that is a request has a window. -/
theorem win?_of_reqCode? {i : Instr} {c : ReqCode} (hc : reqCode? i = some c) : ∃ w, win? i = some w := by
  cases i <;> cases hc <;> exact ⟨_, rfl⟩

/-- Giving a request another window leaves its code. -/
@[simp] theorem reqCode?_withWin (w : Win) (i : Instr) : reqCode? (withWin w i) = reqCode? i := by cases i <;> rfl

/-- What a payload reads as is a request of the code (R168). -/
theorem reqCode?_of_readRequest {w : Win} {c : ReqCode} {p : List Byte} {i : Instr} (h : readRequest w c p = some i) :
    reqCode? i = some c := by
  have bare {j : Instr} (h : noArgument p j = some i) : j = i := by
    unfold noArgument at h; split at h <;> cases h; rfl
  unfold readRequest at h
  split at h
  case h_13 =>
    obtain ⟨r, _, rfl⟩ := Option.map_eq_some_iff.1 h; rfl
  case h_14 =>
    unfold openRequest at h; (repeat' split at h) <;> cases h
    rename_i j _ hj
    rw [reqCode?_withWin, hj]
  case h_10 | h_11 | h_12 => split at h <;> cases h; rfl
  all_goals rw [← bare h]; rfl

/-! ### Owners that only read -/

section Reading

variable (s : State)

theorem ownStatusRead_state (k x y : Nat) : (ownStatusRead k x y s).1 = s := by
  unfold ownStatusRead State.compStatus State.additiveStatus; (repeat' split) <;> rfl

theorem ownTotalsRead_state (x : TotalsObject) : (ownTotalsRead x s).1 = s := by
  unfold ownTotalsRead; (repeat' split) <;> rfl

theorem ownProductRead_state (k : Nat) : (ownProductRead k s).1 = s := by
  unfold ownProductRead; split <;> rfl

theorem ownRecipeRead_state (k : Nat) : (ownRecipeRead k s).1 = s := by
  unfold ownRecipeRead; split <;> rfl

theorem ownPermitRead_state (k : Nat) : (ownPermitRead k s).1 = s := by
  unfold ownPermitRead; split <;> rfl

theorem ownOrderList_state (k : Nat) : (ownOrderList k s).1 = s := by
  unfold ownOrderList; (repeat' split) <;> rfl

theorem ownCalRead_state (k x : Nat) : (ownCalRead k x s).1 = s := by
  unfold ownCalRead; split <;> rfl

end Reading

namespace State.Keeps

variable {o s t : State}

/-- A record joins a queue that a check has found with a place. -/
theorem joined {r : Record} (h : o.Keeps t) (hp : ¬ (!s.hasPlace) = true) (hq : t.queue = s.queue) : o.Keeps (t.enqueue r) :=
  h.enqueue fun _ => hq ▸ length_of_hasPlace (by simpa using hp)

/-! ### Owners -/

theorem ownProductPut {n : Nat} {e : ProductArg} (h : o.Keeps s) : o.Keeps (Machine.ownProductPut n e s).1 := by
  unfold Machine.ownProductPut; (repeat' split) <;> (try exact h)
  rename_i code entry _ _ _ hp
  have put : o.Keeps { s with products := s.products.set code entry } := h.of_fields rfl rfl rfl rfl rfl rfl rfl rfl
  exact put.joined hp rfl

theorem ownRecipePut {n : Nat} {d : YesNo} {cs : List ComponentArg} (h : o.Keeps s) :
    o.Keeps (Machine.ownRecipePut n d cs s).1 := by
  unfold Machine.ownRecipePut; (repeat' split) <;> (try exact h)
  rename_i i d' cs' _ _ _ _ hp
  have put : o.Keeps { s with recipes := s.recipes.set i { defined := d', components := cs' } } :=
    h.of_fields rfl rfl rfl rfl rfl rfl rfl rfl
  exact put.joined hp rfl

theorem ownOrderBegin {n k : Nat} {b c : Option Nat} (h : o.Keeps s) : o.Keeps (Machine.ownOrderBegin n b c k s).1 := by
  unfold Machine.ownOrderBegin; (repeat' split) <;> (try exact h)
  exact h.of_fields rfl rfl rfl rfl rfl rfl rfl rfl

theorem ownOrderLine {n : Nat} {l : LineArg} (h : o.Keeps s) : o.Keeps (Machine.ownOrderLine n l s).1 := by
  unfold Machine.ownOrderLine; dsimp only; (repeat' split) <;> (try exact h)
  · exact h.postStaged
  · exact h.of_fields rfl rfl rfl rfl rfl rfl rfl rfl

theorem ownOrderCancel {n : Nat} (h : o.Keeps s) : o.Keeps (Machine.ownOrderCancel n s).1 := by
  unfold Machine.ownOrderCancel; (repeat' split) <;> (try exact h)
  · exact h.of_orders rfl rfl (List.length_filter_le ..) rfl rfl rfl rfl rfl
  · exact h.of_fields rfl rfl rfl rfl rfl rfl rfl rfl

theorem ownOrderAmend {n k v : Nat} (h : o.Keeps s) : o.Keeps (Machine.ownOrderAmend n k v s).1 := by
  unfold Machine.ownOrderAmend; (repeat' split) <;> (try exact h)
  · exact h.of_fields rfl rfl (List.length_map ..) rfl rfl rfl rfl rfl
  · exact h.amendLoad

theorem ownInjectorAssign {j a d v : Nat} (h : o.Keeps s) : o.Keeps (Machine.ownInjectorAssign j a d v s).1 := by
  unfold Machine.ownInjectorAssign; dsimp only [refuse, reply]; (repeat' split) <;> (try exact h)
  all_goals exact joined (modifyInjector h fun _ => rfl) ‹_› rfl

theorem ownInjectorReset {j : Nat} (h : o.Keeps s) : o.Keeps (Machine.ownInjectorReset j s).1 := by
  unfold Machine.ownInjectorReset; dsimp only [refuse, reply]; (repeat' split) <;> (try exact h)
  all_goals dsimp only; exact modifyInjector h fun _ => rfl

theorem ownArmConfig {a : Nat} {c : ArmArg} (h : o.Keeps s) : o.Keeps (Machine.ownArmConfig a c s).1 := by
  unfold Machine.ownArmConfig; (repeat' split) <;> (try exact h)
  exact joined (modifyArm h id) ‹_› rfl

theorem ownArmClear {k : ArmMask} (h : o.Keeps s) : o.Keeps (Machine.ownArmClear k s).1 := by
  unfold Machine.ownArmClear; (repeat' split) <;> (try exact h)
  refine modifyArms h fun x hx => ?_
  unfold Arm.cleared; split
  · exact Arm.valveFits_of_closed (hx.closed (by simp [*, ArmState.isFlowing]))
  all_goals exact hx

theorem ownPumpConfig {p : Nat} {c : PumpArg} (h : o.Keeps s) : o.Keeps (Machine.ownPumpConfig p c s).1 := by
  unfold Machine.ownPumpConfig; (repeat' split) <;> (try exact h)
  exact joined h.modifyPump ‹_› rfl

theorem ownPumpReset {p : Nat} (h : o.Keeps s) : o.Keeps (Machine.ownPumpReset p s).1 := by
  unfold Machine.ownPumpReset; dsimp only [refuse, reply]; (repeat' split) <;> (try exact h)
  dsimp only; exact h.modifyPump

theorem ownMeterErrors {m : Nat} (h : o.Keeps s) : o.Keeps (Machine.ownMeterErrors m s).1 := by
  unfold Machine.ownMeterErrors; dsimp only [refuse, reply]; split
  · exact h
  · dsimp only; exact modifyMeter h fun _ hg hn => ⟨⟨le_rfl, le_rfl⟩, hg, hn⟩

theorem ownMeterClearDebt {m : Nat} (h : o.Keeps s) : o.Keeps (Machine.ownMeterClearDebt m s).1 := by
  unfold Machine.ownMeterClearDebt; dsimp only [refuse, reply]; (repeat' split) <;> (try exact h)
  dsimp only; exact modifyMeter h fun _ hg hn => ⟨⟨le_rfl, le_rfl⟩, hg, hn⟩

theorem ownCompartmentStart {n : Nat} (h : o.Keeps s) : o.Keeps (Machine.ownCompartmentStart n s).1 := by
  unfold Machine.ownCompartmentStart; (repeat' split) <;> (try exact h)
  exact h.startComp

theorem ownCompartmentStop {n : Nat} (h : o.Keeps s) : o.Keeps (Machine.ownCompartmentStop n s).1 := by
  unfold Machine.ownCompartmentStop; (repeat' split) <;> (try exact h)
  exact h.driveClose

theorem ownLoadFinish (h : o.Keeps s) : o.Keeps (Machine.ownLoadFinish s).1 := by
  unfold Machine.ownLoadFinish; (repeat' split) <;> (try exact h)
  exact h.finishIdle.closeIfDone

theorem ownLoadResume (h : o.Keeps s) : o.Keeps (Machine.ownLoadResume s).1 := by
  unfold Machine.ownLoadResume; (repeat' split) <;> (try exact h)
  exact h.removeCause

theorem ownLoadAbort (h : o.Keeps s) : o.Keeps (Machine.ownLoadAbort s).1 := by
  unfold Machine.ownLoadAbort; (repeat' split) <;> (try exact h)
  exact h.enterClosing.finishIdle.driveAll.closeIfDone

theorem ownTimeSet {d k : Nat} (h : o.Keeps s) : o.Keeps (Machine.ownTimeSet d k s).1 := by
  unfold Machine.ownTimeSet; split
  · exact h
  · exact h.of_fields rfl rfl rfl rfl rfl rfl rfl rfl

theorem ownPermitPut {e : PermitArg} (h : o.Keeps s) : o.Keeps (Machine.ownPermitPut e s).1 := by
  unfold Machine.ownPermitPut; dsimp only; (repeat' split) <;> (try exact h) <;> (try exact h.setPermit)
  rename_i c _ _ _ _ hp
  have added : o.Keeps { s with permits := s.permits ++ [{ content := c, inUse := false, action := .none }] } :=
    h.of_fields rfl rfl rfl rfl rfl rfl rfl rfl
  exact added.joined hp rfl

theorem ownPermitDelete {k : Nat} (h : o.Keeps s) : o.Keeps (Machine.ownPermitDelete k s).1 := by
  unfold Machine.ownPermitDelete; dsimp only; split
  · exact h
  split
  · exact h.setPermit
  split
  · exact h
  rename_i hp
  have removed : o.Keeps (({ s with permits := withPermit k none s.permits } : State).enqueue (.permit k none true)) :=
    joined (h.of_fields rfl rfl rfl rfl rfl rfl rfl rfl) hp rfl
  dsimp only [reply]; split
  · exact removed.dropContext
  · exact removed

theorem setPermitState {k : Nat} {x : PermitState} (h : o.Keeps s) : o.Keeps (s.setPermitState k x).1 := by
  unfold State.setPermitState; split
  · exact h
  · exact h.setPermit

theorem ownCardPresent {k : Nat} (h : o.Keeps s) : o.Keeps (Machine.ownCardPresent k s).1 := by
  unfold Machine.ownCardPresent; split
  · exact h.post
  · refine post ?_
    exact h.of_fields rfl rfl rfl rfl rfl rfl rfl rfl

theorem ownCardWithdraw (h : o.Keeps s) : o.Keeps (Machine.ownCardWithdraw s).1 := by
  unfold Machine.ownCardWithdraw; split
  · exact h
  · exact h.dropContext

theorem ownOrderSelect {n : Nat} (h : o.Keeps s) : o.Keeps (Machine.ownOrderSelect n s).1 := by
  unfold Machine.ownOrderSelect; (repeat' split) <;> (try exact h)
  · exact h.dropContext
  · have hp : s.hasPlace = true := by simp_all
    exact h.openLoad hp

theorem ownNoteConfig {k : Nat} (h : o.Keeps s) : o.Keeps (Machine.ownNoteConfig k s).1 := by
  unfold Machine.ownNoteConfig; (repeat' split) <;> (try exact h)
  exact joined (t := { s with holdMinutes := k }) (h.of_fields rfl rfl rfl rfl rfl rfl rfl rfl) ‹_› rfl

theorem ownNotePrinted {k : Nat} (h : o.Keeps s) : o.Keeps (Machine.ownNotePrinted k s).1 := by
  unfold Machine.ownNotePrinted; dsimp only [refuse, reply]; split
  · exact h
  · dsimp only; exact h.modifySlot

theorem ownNoteRelease {k : Nat} (h : o.Keeps s) : o.Keeps (Machine.ownNoteRelease k s).1 := by
  unfold Machine.ownNoteRelease; (repeat' split) <;> (try exact h)
  have hp : s.hasPlace = true := by simp_all
  exact h.freeNote hp

theorem setReader {p : Port} {r : Reader} (h : o.Keeps s) : o.Keeps (s.setReader p r) := by
  unfold State.setReader; split
  · exact h.of_fields rfl rfl rfl rfl rfl rfl rfl rfl
  · exact h.of_fields rfl rfl rfl rfl rfl rfl rfl rfl
  · exact h

theorem ownNoteOpen {p : Port} {k a b d : Nat} (h : o.Keeps s) : o.Keeps (Machine.ownNoteOpen p k a b d s).1 := by
  unfold Machine.ownNoteOpen; (repeat' split) <;> (try exact h)
  exact h.setReader

theorem ownNoteRead {p : Port} (h : o.Keeps s) : o.Keeps (Machine.ownNoteRead p s).1 := by
  unfold Machine.ownNoteRead; (repeat' split) <;> (try exact h)
  all_goals exact h.setReader

theorem ownPermissiveReport {a b c : FlagValue} (h : o.Keeps s) : o.Keeps (Machine.ownPermissiveReport a b c s).1 := by
  unfold Machine.ownPermissiveReport; split
  · exact h
  · exact h.reportPermissives

theorem ownStopAll {k : ArmMask} (h : o.Keeps s) : o.Keeps (Machine.ownStopAll k s).1 := by
  unfold Machine.ownStopAll; (repeat' split) <;> (try exact h)
  · refine addCause ?_
    exact h.of_fields rfl rfl rfl rfl rfl rfl rfl rfl
  · exact h.stopArms

theorem ownResume (h : o.Keeps s) : o.Keeps (Machine.ownResume s).1 := by
  unfold Machine.ownResume; split
  · exact h
  · refine removeCause ?_
    exact h.of_fields rfl rfl rfl rfl rfl rfl rfl rfl

theorem ownEsdReset (h : o.Keeps s) : o.Keeps (Machine.ownEsdReset s).1 := by
  unfold Machine.ownEsdReset; split
  · exact h
  · refine post (restartPumps (removeCause ?_))
    exact h.of_fields rfl rfl rfl rfl rfl rfl rfl rfl

theorem ownDeadmanConfig {a b : Nat} (h : o.Keeps s) : o.Keeps (Machine.ownDeadmanConfig a b s).1 := by
  unfold Machine.ownDeadmanConfig; (repeat' split) <;> (try exact h)
  exact joined (t := { s with safety := { s.safety with period := a, warning := b } })
    (h.of_fields rfl rfl rfl rfl rfl rfl rfl rfl) ‹_› rfl

theorem ownDeadman {k : Nat} (h : o.Keeps s) : o.Keeps (Machine.ownDeadman k s).1 := by
  unfold Machine.ownDeadman; split
  · exact h.of_fields rfl rfl rfl rfl rfl rfl rfl rfl
  · split
    · exact h.renew
    · exact h
  · exact h

/-- Every owner but that of CAL-WRITE keeps what a safe run keeps (R168). -/
theorem owner {i : Instr} (h : o.Keeps s) (hi : reqCode? i ≠ some .calWrite) : o.Keeps (ownerOf i s).1 := by
  cases i <;> simp only [ownerOf]
  case eventRead w =>
    rw [ownEventRead_eq]
    exact h.modifyPort fun x hx => (List.length_drop ..).trans_le ((Nat.sub_le ..).trans hx)
  case productPut => exact h.ownProductPut
  case orderBegin => exact h.ownOrderBegin
  case orderLine => exact h.ownOrderLine
  case orderCancel => exact h.ownOrderCancel
  case orderAmend => exact h.ownOrderAmend
  case compartmentStart => exact h.ownCompartmentStart
  case compartmentStop => exact h.ownCompartmentStop
  case loadFinish => exact h.ownLoadFinish
  case loadResume => exact h.ownLoadResume
  case loadAbort => exact h.ownLoadAbort
  case timeSet => exact h.ownTimeSet
  case permitPut => exact h.ownPermitPut
  case permitDelete => exact h.ownPermitDelete
  case permitBlock => exact h.setPermitState
  case permitUnblock => exact h.setPermitState
  case careMaskSet => exact h.of_fields rfl rfl rfl rfl rfl rfl rfl rfl
  case cardPresent => exact h.ownCardPresent
  case cardWithdraw => exact h.ownCardWithdraw
  case orderSelect => exact h.ownOrderSelect
  case armConfig => exact h.ownArmConfig
  case armClear => exact h.ownArmClear
  case armBlock => exact h.setBlocked
  case armUnblock => exact h.setBlocked
  case pumpConfig => exact h.ownPumpConfig
  case pumpReset => exact h.ownPumpReset
  case injectorAssign => exact h.ownInjectorAssign
  case injectorReset => exact h.ownInjectorReset
  case recipePut => exact h.ownRecipePut
  case deadmanConfig => exact h.ownDeadmanConfig
  case deadman => exact h.ownDeadman
  case permissiveReport => exact h.ownPermissiveReport
  case stopAll => exact h.ownStopAll
  case resume => exact h.ownResume
  case esdReset => exact h.ownEsdReset
  case meterErrors => exact h.ownMeterErrors
  case meterClearDebt => exact h.ownMeterClearDebt
  case calWrite => exact absurd rfl hi
  case noteConfig => exact h.ownNoteConfig
  case noteRelease => exact h.ownNoteRelease
  case notePrinted => exact h.ownNotePrinted
  case noteOpen => exact h.ownNoteOpen
  case noteRead => exact h.ownNoteRead
  case statusRead => rwa [ownStatusRead_state]
  case totalsRead => rwa [ownTotalsRead_state]
  case productRead => rwa [ownProductRead_state]
  case permitRead => rwa [ownPermitRead_state]
  case orderList => rwa [ownOrderList_state]
  case recipeRead => rwa [ownRecipeRead_state]
  case calRead => rwa [ownCalRead_state]
  all_goals exact h

end State.Keeps

/-! ### CAL-WRITE -/

/-- What CAL-WRITE keeps: all that `Keeps` says but the calibration set, which changes under an open seal with no load open
(R143, R144). -/
def State.KeepsBesideCal (s t : State) : Prop :=
  s.Keeps { t with cal := s.cal }
    ∧ (t.cal = s.cal ∨ s.sealState = .isOpen ∧ s.load = none ∧ t.cal.cec = s.cal.cec + 1)

theorem State.Keeps.besideCal {s t : State} (h : s.Keeps t) : s.KeepsBesideCal t :=
  ⟨⟨h.bounded, h.fits, h.totals, rfl, h.held⟩, .inl h.cal⟩

/-- An accepted CAL-WRITE raises the CEC by one (R144). -/
theorem State.calibrate_cec (i : CalItem) (s : State) : (s.calibrate i).cal.cec = s.cal.cec + 1 := by
  unfold State.calibrate State.zeroRemI; split <;> rfl

theorem ownCalWrite_keeps {o s : State} (k : Nat) (v : CalValueArg) (h : o.Keeps s) (hs : s.sealState = o.sealState)
    (hl : s.load = o.load) : o.KeepsBesideCal (ownCalWrite k v s).1 := by
  unfold ownCalWrite; (repeat' split) <;> (try exact h.besideCal)
  rename_i hseal hload _ _ i _ _
  have hp : s.hasPlace = true := by simp_all
  refine ⟨?_, .inr ⟨by simpa [hs] using hseal, by simpa [hl] using hload, ?_⟩⟩
  · rw [← h.cal]; exact h.calibrate hp
  · rw [← h.cal]; exact s.calibrate_cec i

/-! ### Windows -/

namespace State.Keeps

variable {o s t : State}

theorem take {w : Win} {own : State → State × Reply} (h : o.Keeps (own s).1) : o.Keeps (s.take w own) := h.startWrite.respond

/-- A request taken by its owner keeps all but the calibration set, and that too where it is no CAL-WRITE. -/
theorem taken {w : Win} (i : Instr) (h : o.Keeps s) (hs : s.sealState = o.sealState) (hl : s.load = o.load) :
    o.KeepsBesideCal (s.take w (ownerOf i)) ∧ (reqCode? i ≠ some .calWrite → (s.take w (ownerOf i)).cal = o.cal) := by
  by_cases hi : reqCode? i = some .calWrite
  · refine ⟨?_, fun h => absurd hi h⟩
    cases i <;> simp only [reqCode?, Option.some.injEq, reduceCtorEq] at hi
    obtain ⟨hk, hc⟩ := ownCalWrite_keeps _ _ h hs hl
    exact ⟨hk.startWrite.respond, hc⟩
  · have hk := take (w := w) (h.owner hi)
    exact ⟨hk.besideCal, fun _ => hk.cal⟩

/-- A request row keeps what its owner keeps. -/
theorem request {c : ReqCode} {w : Win} {i : Instr} (he : Machine.request c w (ownerOf i) s = .next t) :
    s.KeepsBesideCal t ∧ (reqCode? i ≠ some .calWrite → t.cal = s.cal) := by
  have passed : s.Keeps (s.seen c w) := (refl s).seen
  have quiet {t : State} (h : s.Keeps t) : s.KeepsBesideCal t ∧ (reqCode? i ≠ some .calWrite → t.cal = s.cal) :=
    ⟨h.besideCal, fun _ => h.cal⟩
  unfold Machine.request at he
  split at he
  · cases he; exact quiet (refl s).noWindow
  split at he
  · cases he; exact quiet passed.respond
  split at he
  · cases he; exact quiet passed.respond
  · cases he; exact taken i passed rfl rfl

/-- A frame keeps what its request keeps; one that changes the calibration set carries the code of CAL-WRITE, at TP. -/
theorem framed {w : Win} {n : Nat} {p : List Byte} (h : o.Keeps s) (hs : s.sealState = o.sealState) (hl : s.load = o.load) :
    o.KeepsBesideCal (s.framed w n p)
      ∧ ((s.framed w n p).cal = o.cal ∨ reqCodeOf n = some .calWrite ∧ permitted .calWrite w.port = true) := by
  have quiet {t : State} (h : o.Keeps t) : o.KeepsBesideCal t ∧ (t.cal = o.cal
      ∨ reqCodeOf n = some .calWrite ∧ permitted .calWrite w.port = true) := ⟨h.besideCal, .inl h.cal⟩
  unfold State.framed; (repeat' split)
  · exact quiet h.respond
  · exact quiet h.respond
  · exact quiet h.respond
  · exact quiet h.respond
  · rename_i c hc hp _ _ i hi
    obtain ⟨hk, hcal⟩ := taken (w := w) i h hs hl
    refine ⟨hk, ?_⟩
    by_cases hw : c = .calWrite
    · subst hw; exact .inr ⟨hc, by simpa using hp⟩
    · exact .inl (hcal (by rw [reqCode?_of_readRequest hi]; simpa using hw))

theorem judged {p : Port} {b : List Byte} {j : Inbound} (h : o.Keeps s) (hs : s.sealState = o.sealState)
    (hl : s.load = o.load) :
    o.KeepsBesideCal (s.judged p b j)
      ∧ ((s.judged p b j).cal = o.cal
        ∨ permitted .calWrite p = true ∧ ∃ g n x, j = .framed g n x ∧ reqCodeOf n = some .calWrite) := by
  unfold State.judged; split
  · exact ⟨h.besideCal, .inl h.cal⟩
  · exact ⟨h.respond.besideCal, .inl h.cal⟩
  · obtain ⟨hk, hc⟩ := h.framed hs hl
    exact ⟨hk, hc.imp_right fun ⟨hn, hp⟩ => ⟨hp, _, _, _, rfl, hn⟩⟩

/-! ### Writes, power failure and time -/

theorem postDone {r : Record} (h : o.Keeps s) : o.Keeps (s.postDone r) := by
  unfold State.postDone; split <;> simp [h]

theorem committed {r : Record} (h : o.Keeps s) : o.Keeps (s.committed r) := by
  unfold State.committed; split
  · refine releaseLoad (post (modifySlot ?_))
    exact h.of_fields rfl rfl rfl rfl rfl rfl rfl rfl
  all_goals exact h

/-- One owed record joins the queue from which a completion has taken its head (R182). -/
theorem grant (h : o.Keeps s) (hq : o.QueuesBounded → s.queue.length < 8) : o.Keeps s.grant := by
  have join (r : Record) : o.Keeps (s.enqueue r) := h.enqueue hq
  have last : o.Keeps s.grantLast := by
    unfold State.grantLast; (repeat' split)
    · exact (join _).modifyArm id
    · exact h
    · exact (join _).of_fields rfl rfl rfl rfl rfl rfl rfl rfl
  have commit : o.Keeps s.grantCommit := by
    unfold State.grantCommit; (repeat' split)
    · exact (join _).modifySlot
    · exact (join _).of_fields rfl rfl rfl rfl rfl rfl rfl rfl
    · exact last
  have charge : o.Keeps s.grantCharge := by
    unfold State.grantCharge; split
    · exact (join _).of_fields rfl rfl rfl rfl rfl rfl rfl rfl
    · exact commit
  unfold State.grant; split
  · exact (join _).of_fields rfl rfl rfl rfl rfl rfl rfl rfl
  · exact charge

theorem takeSave (h : o.Keeps s) : o.Keeps s.takeSave :=
  (h.mapMeters (f := fun x => { x with gateTimer := none, decoding := false }) fun _ => ⟨rfl, rfl⟩).of_fields
    rfl rfl rfl rfl rfl rfl rfl rfl

theorem postDone_queue (r : Record) (s : State) : (s.postDone r).queue = s.queue := by
  unfold State.postDone; split <;> rfl

theorem committed_queue (r : Record) (s : State) : (s.committed r).queue = s.queue := by
  unfold State.committed; split <;> rfl

theorem written {r : Record} {rest : List Record} (hq : s.queue = r :: rest) : s.Keeps (s.written r rest) := by
  have taken : s.Keeps { s with queue := rest, writing := false, audit := s.audit.write r, startRecords := s.startRecords - 1 } := by
    refine ⟨fun ⟨h1, hrest⟩ => ⟨?_, hrest⟩, id, (refl s).totals, rfl, id⟩
    rw [hq, List.length_cons] at h1; exact Nat.le_of_succ_le h1
  unfold State.written; dsimp only; (repeat' split)
  · exact (taken.postDone.committed (r := r)).takeSave
  · exact taken.postDone.committed
  · refine taken.postDone.committed.grant fun h => ?_
    rw [committed_queue, postDone_queue]
    have := h.1
    rw [hq, List.length_cons] at this
    show rest.length < 8; omega

theorem powerDown (h : o.Keeps s) : o.Keeps s.powerDown := by
  have off {x : State} (h : o.Keeps x) : o.Keeps { x with
      safety := { x.safety with validity := none, horn := false }
      phase := .powerDown, pfail := true, imageOwed := false, chargeOwed := none, checkpointOwed := false
      backlog := [], startRecords := 0 } := ⟨h.bounded, h.fits, h.totals, h.cal, fun hx => by cases hx⟩
  have stopped : o.Keeps ((((s.mapArms Arm.powerDown).mapPumps Pump.powerDown).cutStrokes).mapSlots fun x =>
      { x with holdTimer := none }) :=
    (h.mapArms fun _ _ => Arm.valveFits_of_closed rfl).mapPumps.cutStrokes.mapSlots
  unfold State.powerDown; dsimp only; split
  · exact (off stopped).takeSave
  · exact off stopped

theorem begin (h : o.Keeps s) : o.Keeps s.begin := by
  have begun {x : State} (h : o.Keeps x) : o.Keeps
      { x with phase := .running, started := true
               scanner := { channel := 0, request := pollRequest 0, slotTimer := some 250 } } :=
    ⟨h.bounded, h.fits, h.totals, h.cal, fun hx => by cases hx⟩
  have gated : o.Keeps (s.mapMeters fun x => { x with gateTimer := some 100 }) := h.mapMeters fun _ => ⟨rfl, rfl⟩
  unfold State.begin; dsimp only; (repeat' split)
  · exact (begun gated).post
  · exact (begun gated).post.handOff
  · exact (begun gated).post

/-- An update of every injector that leaves its totalizer. -/
theorem mapInjectors {f : Injector → Injector} (h : o.Keeps s) (hf : ∀ x : Injector, (f x).total = x.total) :
    o.Keeps (s.mapInjectors f) := by
  refine h.trans ⟨id, id, fun ⟨hm, hi⟩ => ⟨⟨fun _ => ⟨le_rfl, le_rfl⟩, fun j => ?_⟩, hm, fun j => ?_⟩, rfl, id⟩
  · rw [State.mapInjectors_get, hf]
  · rw [State.mapInjectors_get, hf]; exact hi j

theorem tickTimers (h : o.Keeps s) : o.Keeps s.tickTimers := by
  have arms : o.Keeps (s.mapArms Arm.tick) := h.mapArms fun _ hx => hx
  have meters : o.Keeps (((s.mapArms Arm.tick).mapPumps Pump.tick).mapMeters Meter.tick) :=
    arms.mapPumps.mapMeters fun _ => ⟨rfl, rfl⟩
  have injectors : o.Keeps ((((s.mapArms Arm.tick).mapPumps Pump.tick).mapMeters Meter.tick).mapInjectors Injector.tick) :=
    meters.mapInjectors fun _ => rfl
  exact injectors.of_fields rfl rfl rfl rfl rfl rfl rfl rfl

theorem tick (h : o.Keeps s) : o.Keeps s.tick := by
  unfold State.tick; split
  · exact h
  · exact h
  · exact h.tickTimers
  · exact h.tickTimers.mapSlots

end State.Keeps

theorem Arm.closing_or_fault_of_closingFor {x : Arm} {n : Nat} (h : x.closingFor = some n) :
    x.state = .closing ∨ x.state = .fault := by
  unfold Arm.closingFor at h; split at h
  · exact (‹_ ∧ _›).2
  · cases h

/-! ### The rows that are no requests -/

namespace State.Keeps

variable {s t : State}

theorem execQuadratureStep {m : Fin 4} {i : PulseInput} (he : Machine.execQuadratureStep m i s = .next t) : s.Keeps t := by
  cases he; exact (refl s).decode fun _ => ⟨rfl, rfl⟩

theorem execIntegrityError {m : Fin 4} (he : Machine.execIntegrityError m s = .next t) : s.Keeps t := by
  cases he; exact (refl s).decode fun _ => ⟨rfl, rfl⟩

theorem execGateExpiry {m : Fin 4} (he : Machine.execGateExpiry m s = .next t) : s.Keeps t := by
  unfold Machine.execGateExpiry at he; split at he <;> cases he
  · exact (refl s).gate.startWrite
  · exact refl s

theorem execPollSlot {r : ConverterAnswer} (he : Machine.execPollSlot r s = .next t) : s.Keeps t := by
  unfold Machine.execPollSlot at he; split at he <;> cases he
  · exact (refl s).poll
  · exact refl s

theorem execSettleTimerExpiry {a : Fin 4} (he : Machine.execSettleTimerExpiry a s = .next t) : s.Keeps t := by
  unfold Machine.execSettleTimerExpiry at he; split at he <;> cases he
  · exact (refl s).settleExpired.startWrite
  · exact refl s

theorem execCloseTimerExpiry {a : Fin 4} (he : Machine.execCloseTimerExpiry a s = .next t) : s.Keeps t := by
  unfold Machine.execCloseTimerExpiry at he; (repeat' split at he) <;> obtain rfl := Host.Outcome.next.inj he
  · exact ((refl s).closeExpired (Arm.closing_or_fault_of_closingFor ‹_›)).startWrite
  · exact refl s
  · exact refl s

theorem execPumpFeedback {p : Fin 4} {on : Bool} (he : Machine.execPumpFeedback p on s = .next t) : s.Keeps t := by
  unfold Machine.execPumpFeedback at he; split at he <;> cases he
  · exact refl s
  · exact refl s
  · exact (refl s).pumpFeedback.startWrite
  · exact (refl s).pumpFeedback.startWrite

theorem execStartTimerExpiry {p : Fin 4} (he : Machine.execStartTimerExpiry p s = .next t) : s.Keeps t := by
  unfold Machine.execStartTimerExpiry at he; split at he <;> cases he
  · exact (refl s).failPump.startWrite
  · exact refl s

theorem execRunOnTimerExpiry {p : Fin 4} (he : Machine.execRunOnTimerExpiry p s = .next t) : s.Keeps t := by
  unfold Machine.execRunOnTimerExpiry at he; split at he <;> cases he
  · exact (refl s).modifyPump.startWrite
  · exact refl s

theorem execInjectorFeedback {j : Fin 8} {on : Bool} (he : Machine.execInjectorFeedback j on s = .next t) : s.Keeps t := by
  unfold Machine.execInjectorFeedback at he; split at he <;> cases he
  · exact refl s
  all_goals exact (refl s).injectorFeedback.startWrite

theorem execFeedbackTimerExpiry {j : Fin 8} (he : Machine.execFeedbackTimerExpiry j s = .next t) : s.Keeps t := by
  unfold Machine.execFeedbackTimerExpiry at he; split at he <;> cases he
  · exact (refl s).missStroke.startWrite
  · exact refl s

theorem execEsdInputChange {on : Bool} (he : Machine.execEsdInputChange on s = .next t) : s.Keeps t := by
  unfold Machine.execEsdInputChange at he; split at he <;> cases he
  · exact refl s
  · exact (refl s).esdInput.startWrite
  · exact (refl s).esdInput.startWrite
  · exact (refl s).of_fields rfl rfl rfl rfl rfl rfl rfl rfl

theorem execValidityTimerExpiry (he : Machine.execValidityTimerExpiry s = .next t) : s.Keeps t := by
  unfold Machine.execValidityTimerExpiry at he; split at he <;> cases he
  · exact (refl s).goStale.startWrite
  · exact refl s

theorem execFirstExpiry (he : Machine.execFirstExpiry s = .next t) : s.Keeps t := by
  unfold Machine.execFirstExpiry at he; split at he <;> cases he
  · exact (refl s).firstExpiry
  · exact refl s

theorem execSecondExpiry (he : Machine.execSecondExpiry s = .next t) : s.Keeps t := by
  unfold Machine.execSecondExpiry at he; split at he <;> cases he
  · exact (refl s).secondExpiry.startWrite
  · exact refl s

theorem execContextTimerExpiry (he : Machine.execContextTimerExpiry s = .next t) : s.Keeps t := by
  unfold Machine.execContextTimerExpiry at he; (repeat' split at he) <;> cases he
  · exact refl s
  · exact (refl s).dropContext
  · exact refl s

theorem execHoldTimerExpiry {i : Fin 8} (he : Machine.execHoldTimerExpiry i s = .next t) : s.Keeps t := by
  unfold Machine.execHoldTimerExpiry at he; split at he <;> cases he
  · exact (refl s).modifySlot
  · exact refl s

theorem execSealInputChange {on : Bool} (he : Machine.execSealInputChange on s = .next t) : s.Keeps t := by
  unfold Machine.execSealInputChange at he; split at he <;> cases he
  · exact refl s
  all_goals exact (refl s).sealChange

theorem execBayClockSecond (he : Machine.execBayClockSecond s = .next t) : s.Keeps t := by
  unfold Machine.execBayClockSecond at he; split at he <;> cases he
  · exact refl s
  all_goals exact (refl s).of_fields rfl rfl rfl rfl rfl rfl rfl rfl

theorem execRecordWriteComplete (he : Machine.execRecordWriteComplete s = .next t) : s.Keeps t := by
  unfold Machine.execRecordWriteComplete at he; (repeat' split at he) <;> cases he
  · exact refl s
  · exact (written ‹_›).startWrite
  · exact refl s

theorem execSaveWriteComplete (he : Machine.execSaveWriteComplete s = .next t) : s.Keeps t := by
  unfold Machine.execSaveWriteComplete at he; split at he <;> cases he
  · exact refl s
  · exact (refl s).of_fields rfl rfl rfl rfl rfl rfl rfl rfl

theorem execPfailAssertion (he : Machine.execPfailAssertion s = .next t) : s.Keeps t := by
  unfold Machine.execPfailAssertion at he; split at he <;> obtain rfl := Host.Outcome.next.inj he
  · exact refl s
  · exact refl s
  · exact (refl s).powerDown
  · exact (refl s).powerDown

theorem execStart (he : Machine.execStart s = .next t) : s.Keeps t := by
  unfold Machine.execStart at he; split at he <;> cases he
  · exact (refl s).begin.startWrite
  · exact refl s

end State.Keeps

/-- Every command but a restart keeps what a safe run keeps; one that changes the calibration set is a CAL-WRITE, as its row or
as its frame at a port that permits it. -/
theorem exec_keeps {c : Instr} {s t : State} (hc : restarts c = false) (he : exec c s = .next t) :
    s.KeepsBesideCal t
      ∧ (t.cal = s.cal ∨ reqCode? c = some .calWrite
        ∨ ∃ p b, c = .selectWindow p b ∧ permitted .calWrite p = true
          ∧ ∃ g n x, judgeInbound (b.take 65) = .framed g n x ∧ reqCodeOf n = some .calWrite) := by
  have quiet (h : s.Keeps t) : s.KeepsBesideCal t
      ∧ (t.cal = s.cal ∨ reqCode? c = some .calWrite
        ∨ ∃ p b, c = .selectWindow p b ∧ permitted .calWrite p = true
          ∧ ∃ g n x, judgeInbound (b.take 65) = .framed g n x ∧ reqCodeOf n = some .calWrite) := ⟨h.besideCal, .inl h.cal⟩
  cases hr : reqCode? c with
  | some k =>
    obtain ⟨w, hw⟩ := win?_of_reqCode? hr
    rw [exec_eq_request hr hw] at he
    obtain ⟨hk, hcal⟩ := State.Keeps.request he
    refine ⟨hk, ?_⟩
    by_cases hi : reqCode? c = some .calWrite
    · exact .inr (.inl (hr ▸ hi))
    · exact .inl (hcal hi)
  | none =>
    cases c <;> simp only [reqCode?, restarts, reduceCtorEq, Bool.true_eq_false] at hr hc
    case selectWindow p b =>
      simp only [exec, execSelectWindow] at he
      split at he <;> obtain rfl := Host.Outcome.next.inj he
      · obtain ⟨hk, hc⟩ := State.Keeps.judged (p := p) (b := b) (j := judgeInbound (b.take 65)) ((State.Keeps.refl s).window
          (p := p) (k := b.length) (b := b.take 65)) rfl rfl
        exact ⟨hk, hc.imp_right fun h => .inr ⟨p, b, rfl, h⟩⟩
      · exact quiet (State.Keeps.refl s).noWindow
    case quadratureStep => exact quiet (.execQuadratureStep he)
    case integrityError => exact quiet (.execIntegrityError he)
    case gateExpiry => exact quiet (.execGateExpiry he)
    case pollSlot => exact quiet (.execPollSlot he)
    case settleTimerExpiry => exact quiet (.execSettleTimerExpiry he)
    case closeTimerExpiry => exact quiet (.execCloseTimerExpiry he)
    case pumpFeedback => exact quiet (.execPumpFeedback he)
    case startTimerExpiry => exact quiet (.execStartTimerExpiry he)
    case runOnTimerExpiry => exact quiet (.execRunOnTimerExpiry he)
    case injectorFeedback => exact quiet (.execInjectorFeedback he)
    case feedbackTimerExpiry => exact quiet (.execFeedbackTimerExpiry he)
    case esdInputChange => exact quiet (.execEsdInputChange he)
    case validityTimerExpiry => exact quiet (.execValidityTimerExpiry he)
    case firstExpiry => exact quiet (.execFirstExpiry he)
    case secondExpiry => exact quiet (.execSecondExpiry he)
    case contextTimerExpiry => exact quiet (.execContextTimerExpiry he)
    case holdTimerExpiry => exact quiet (.execHoldTimerExpiry he)
    case sealInputChange => exact quiet (.execSealInputChange he)
    case bayClockSecond => exact quiet (.execBayClockSecond he)
    case recordWriteComplete => exact quiet (.execRecordWriteComplete he)
    case saveWriteComplete => exact quiet (.execSaveWriteComplete he)
    case pfailAssertion => exact quiet (.execPfailAssertion he)
    case start => exact quiet (.execStart he)

/-! ### The restarts -/

/-- Start-up values give every arm a closed valve, empty event queues and no orders (R72, R171, R189). -/
theorem State.fresh_valvesFit (a : Audit) (m : Vector SavedMeter 4) (t : Vector Nat 8) (i : SampledInputs) :
    (State.fresh a m t i).ValvesFit :=
  forall_four (Arm.valveFits_of_closed rfl) (Arm.valveFits_of_closed rfl) (Arm.valveFits_of_closed rfl)
    (Arm.valveFits_of_closed rfl)

theorem State.hold_valvesFit (a : Audit) (s : State) : (s.hold a).ValvesFit :=
  forall_four (Arm.valveFits_of_closed rfl) (Arm.valveFits_of_closed rfl) (Arm.valveFits_of_closed rfl)
    (Arm.valveFits_of_closed rfl)

theorem State.hold_queuesBounded (a : Audit) (s : State) : (s.hold a).QueuesBounded := by
  simp [State.QueuesBounded, State.hold, State.held, State.fresh, PortState.idle]

/-- What a restoration leaves as start-up has set it. -/
theorem State.withLoad_leaves (l : Option LoadRecord) (s : State) :
    (s.withLoad l).arms = s.arms ∧ (s.withLoad l).ports = s.ports ∧ (s.withLoad l).orders = s.orders := by
  have rearm (n : Nat) (s : State) (r : ComponentResult) : (s.rearm n r).arms = s.arms ∧ (s.rearm n r).ports = s.ports
      ∧ (s.rearm n r).orders = s.orders := by
    unfold State.rearm; split <;> exact ⟨rfl, rfl, rfl⟩
  have rearmComp (s : State) (c : CompRecord) : (s.rearmComp c).arms = s.arms ∧ (s.rearmComp c).ports = s.ports
      ∧ (s.rearmComp c).orders = s.orders := by
    unfold State.rearmComp; split
    · exact ⟨rfl, rfl, rfl⟩
    · exact ⟨foldl_keeps State.arms _ (fun s r => (rearm _ s r).1) _ _, foldl_keeps State.ports _ (fun s r => (rearm _ s r).2.1) _ _,
        foldl_keeps State.orders _ (fun s r => (rearm _ s r).2.2) _ _⟩
  unfold State.withLoad; split
  · exact ⟨rfl, rfl, rfl⟩
  · exact ⟨foldl_keeps State.arms _ (fun s c => (rearmComp s c).1) _ _, foldl_keeps State.ports _ (fun s c => (rearmComp s c).2.1) _ _,
      foldl_keeps State.orders _ (fun s c => (rearmComp s c).2.2) _ _⟩

theorem State.startUp_valvesFit (i : SampledInputs) (s : State) : (s.startUp i).ValvesFit := by
  intro a
  have ha : (s.startUp i).arms = (State.fresh s.audit s.audit.restoredMeters s.audit.restoredInjectors i).arms :=
    (State.withLoad_leaves _ _).1
  rw [ha]; exact State.fresh_valvesFit _ _ _ _ a

theorem State.startUp_queuesBounded (i : SampledInputs) (s : State) : (s.startUp i).QueuesBounded := by
  have hp : (s.startUp i).ports = { tp := .idle, pp := .idle, sp := .idle } := (State.withLoad_leaves _ _).2.1
  have ho : (s.startUp i).orders = [] := (State.withLoad_leaves _ _).2.2
  refine ⟨(List.length_take ..).trans_le (Nat.min_le_left ..), ?_⟩
  simp [hp, ho, PortState.idle]

/-! ### The step -/

/-- A step passes a millisecond or runs one command. -/
theorem step_cases {s t : State} (h : step s = .next t) :
    t = s.tick ∨ ∃ c rest, s.pending = c :: rest ∧ exec c { s with pending := rest } = .next t := by
  unfold step at h; split at h
  · exact .inl (Host.Outcome.next.inj h).symm
  · exact .inr ⟨_, _, ‹_›, h⟩

/-- The command of a restart begins start-up or holds the part. -/
theorem exec_restart {c : Instr} {s t : State} (hc : restarts c = true) (he : exec c s = .next t) :
    t = s ∨ (∃ i, t = (s.startUp i).startWrite) ∨ ∃ a, t = s.hold a := by
  cases c <;> simp only [restarts, Bool.false_eq_true] at hc <;> simp only [exec] at he
  case startUp i =>
    unfold execStartUp at he
    split at he <;> obtain rfl := Host.Outcome.next.inj he
    · exact .inr (.inl ⟨i, rfl⟩)
    all_goals exact .inl rfl
  case resetAssertion => exact .inr (.inr ⟨_, (Host.Outcome.next.inj he).symm⟩)
  case lossOfPower => exact .inr (.inr ⟨_, (Host.Outcome.next.inj he).symm⟩)

/-- What every operation keeps, and a restart sets up, every step keeps. -/
theorem step_keeps {s t : State} (h : step s = .next t) :
    (s.QueuesBounded → t.QueuesBounded) ∧ (s.ValvesFit → t.ValvesFit) := by
  obtain rfl | ⟨c, rest, _, he⟩ := step_cases h
  · exact ⟨(State.Keeps.refl s).tick.bounded, (State.Keeps.refl s).tick.fits⟩
  cases hc : restarts c with
  | false => exact ⟨(exec_keeps hc he).1.1.bounded, (exec_keeps hc he).1.1.fits⟩
  | true =>
    obtain rfl | ⟨i, rfl⟩ | ⟨a, rfl⟩ := exec_restart hc he
    · exact ⟨id, id⟩
    · exact ⟨fun _ => State.startUp_queuesBounded i _, fun _ => State.startUp_valvesFit i _⟩
    · exact ⟨fun _ => State.hold_queuesBounded a _, fun _ => State.hold_valvesFit a _⟩

/-- Settles O5: a valve opens only with its arm's state, in every operation. -/
theorem stepKeepsValvesFit : Obligations.StepKeepsValvesFit := fun _ _ hs h => (step_keeps h).2 hs

/-- Settles O7: a record or an event joins only a queue with a place, and an order a queue that holds fewer than sixteen. -/
theorem stepKeepsQueuesBounded : Obligations.StepKeepsQueuesBounded := fun _ _ hs h => (step_keeps h).1 hs

/-- Settles O8: a totalizer is only ever added to, and stops at its limit. -/
theorem totalsNeverFall : Obligations.TotalsNeverFall := fun _ _ _ hc hs he => (exec_keeps hc he).1.1.totals hs

/-- A code names CAL-WRITE only as 72 hex (R188). -/
theorem eq_of_reqCodeOf {n : Nat} {c : ReqCode} (h : reqCodeOf n = some c) : n = reqNumber c := by
  have hn := List.find?_some h
  exact (beq_iff_eq.1 hn).symm

/-- Settles O9: what changes the calibration set is the owner of CAL-WRITE, which its row or its frame reaches. -/
theorem calibrationChangesOnlyUnsealed : Obligations.CalibrationChangesOnlyUnsealed := by
  intro c s t hc he
  obtain ⟨⟨_, hcal⟩, how⟩ := exec_keeps hc he
  obtain hsame | ⟨hseal, hload, hcec⟩ := hcal
  · exact .inl hsame
  obtain hsame | hrow | ⟨p, b, rfl, hp, g, n, x, hj, hn⟩ := how
  · exact .inl hsame
  · refine .inr ⟨hseal, hload, hcec, .inl ?_⟩
    cases c <;> simp only [reqCode?, Option.some.injEq, reduceCtorEq] at hrow
    exact ⟨_, _, _, rfl⟩
  · have htp : p = .tp := by cases p <;> first | rfl | exact absurd hp (by decide)
    obtain rfl := eq_of_reqCodeOf hn
    subst htp
    exact .inr ⟨hseal, hload, hcec, .inr ⟨b, g, x, rfl, hj⟩⟩

end Sys2Proof.Machine
end

section
/-! PROOFS. The step itself, the passing of a millisecond, and RESET: what the machine is at reset and what a held part does. -/

namespace Sys2Proof.Machine

/-- Settles O1: it is the second equation of `step`. -/
theorem stepRunsTheFrontCommand : Obligations.StepRunsTheFrontCommand := by
  intro c rest s h
  simp only [step, h]

/-! ### A millisecond passes -/

theorem step_of_idle {s : State} (h : s.pending = []) : step s = .next s.tick := by
  simp only [step, h]

theorem State.tick_of_not_started {s : State} (h : s.phase = .held ∨ s.phase = .startUp) : s.tick = s := by
  rcases h with h | h <;> simp only [State.tick, h]

theorem State.tick_of_started {s : State} (h : s.phase = .running ∨ s.phase = .powerDown) :
    s.tick = if s.phase = .running then s.tickTimers.mapSlots Slot.tick else s.tickTimers := by
  rcases h with h | h <;> simp [State.tick, h]

/-- The deadman counts while a running part has a compartment flowing (R127). -/
theorem State.deadmanCounts_eq (s : State) :
    s.deadmanCounts = (s.phase == .running && s.load.any fun l => l.comps.any fun c => c.state.isFlowing) := by
  unfold State.deadmanCounts State.flowing; cases s.load <;> rfl

theorem State.tickTimers_arm (s : State) (a : Fin 4) : s.tickTimers.arms[a] = Arm.tick s.arms[a] :=
  State.mapArms_get ..

theorem State.tickTimers_pump (s : State) (p : Fin 4) : s.tickTimers.pumps[p] = Pump.tick s.pumps[p] :=
  State.mapPumps_get (s.mapArms Arm.tick) ..

theorem State.tickTimers_meter (s : State) (m : Fin 4) : s.tickTimers.meters[m] = Meter.tick s.meters[m] :=
  State.mapMeters_get ((s.mapArms Arm.tick).mapPumps Pump.tick) ..

theorem State.tickTimers_injector (s : State) (j : Fin 8) : s.tickTimers.injectors[j] = Injector.tick s.injectors[j] :=
  State.mapInjectors_get (((s.mapArms Arm.tick).mapPumps Pump.tick).mapMeters Meter.tick) ..

theorem State.tickTimers_safety (s : State) : s.tickTimers.safety = s.safety.tick s.deadmanCounts := rfl

/-- Settles O2: the tick is a map over each kind of timer. -/
theorem idleStepPassesTime : Obligations.IdleStepPassesTime := by
  intro s hidle
  refine ⟨fun h => ?still, fun h => ⟨s.tick, step_of_idle hidle, ?_⟩⟩
  case still => rw [step_of_idle hidle, State.tick_of_not_started h]
  rw [State.tick_of_started h]
  have hcount : (s.deadmanCounts && s.safety.stage != .expired) = true ↔ s.phase = .running
      ∧ (s.load.any fun l => l.comps.any fun c => c.state.isFlowing) = true ∧ s.safety.stage ≠ .expired := by
    rw [State.deadmanCounts_eq]; simp [and_assoc]
  split
  case isTrue hrun =>
    refine ⟨s.tickTimers_arm, s.tickTimers_pump, s.tickTimers_meter, s.tickTimers_injector, rfl, rfl,
      fun i => ?_, ?_, ?_⟩
    · rw [State.mapSlots_get]; rfl
    · simp only [State.mapSlots_safety, State.tickTimers_safety, Safety.tick, hcount, hrun]; rfl
    · simp [State.tickTimers]
  case isFalse hrun =>
    refine ⟨s.tickTimers_arm, s.tickTimers_pump, s.tickTimers_meter, s.tickTimers_injector, rfl, rfl,
      fun i => ?_, ?_, ?_⟩
    · simp [State.tickTimers]
    · simp only [State.tickTimers_safety, Safety.tick, hcount]; rfl
    · simp [State.tickTimers]

/-! ### Held outputs -/

theorem State.fresh_outputsOff (a : Audit) (m : Vector SavedMeter 4) (t : Vector Nat 8) (i : SampledInputs) :
    (State.fresh a m t i).OutputsOff := by
  refine ⟨forall_four ?_ ?_ ?_ ?_, forall_four rfl rfl rfl rfl, forall_eight rfl rfl rfl rfl rfl rfl rfl rfl, rfl, rfl,
    fun p => ?_⟩
  case refine_5 => cases p <;> exact ⟨rfl, fun _ h => absurd h (List.not_mem_nil)⟩
  all_goals exact ⟨rfl, rfl⟩

theorem State.hold_outputsOff (a : Audit) (s : State) : (s.hold a).OutputsOff :=
  State.fresh_outputsOff a
    #v[.ofCheckpoint a.checkpoint.meters[0], .ofCheckpoint a.checkpoint.meters[1],
       .ofCheckpoint a.checkpoint.meters[2], .ofCheckpoint a.checkpoint.meters[3]]
    a.checkpoint.injectors unsampledInputs

/-- The data out of a window that does not open carries zeros (R189). -/
theorem State.OutputsOff.noWindow {s : State} (h : s.OutputsOff) (p : Port) (k : Nat) : (s.noWindow p k).OutputsOff := by
  obtain ⟨hv, hp, hi, hh, ht, hs⟩ := h
  refine ⟨hv, hp, hi, hh, ht, fun q => ?_⟩
  by_cases hq : q = p
  · subst hq
    rw [State.noWindow, State.modifyPort_ports, Ports.get_set_self]
    exact ⟨(hs q).1, fun _ hb => List.eq_of_mem_replicate hb⟩
  · rw [State.noWindow, State.modifyPort_ports, Ports.get_set_of_ne hq]
    exact hs q

theorem State.takesWindows_of_held {s : State} (h : s.phase = .held) : s.takesWindows = false := by
  simp [State.takesWindows, h]

theorem State.timersRun_of_held {s : State} (h : s.phase = .held) : s.timersRun = false := by
  simp [State.timersRun, h]

/-- A command taken while the part is held opens no window and changes no record but the end of a save (R189). -/
theorem exec_held {c : Instr} {s t : State} (h : s.phase = .held) (hc : restarts c = false) (he : exec c s = .next t) :
    t = s ∨ (∃ p k, t = s.noWindow p k) ∨ ∃ a, t = { s with saving := none, audit := a } := by
  have idle := State.timersRun_of_held h
  have shut := State.takesWindows_of_held h
  cases hr : reqCode? c with
  | some k =>
    obtain ⟨w, hw⟩ := win?_of_reqCode? hr
    rw [exec_eq_request hr hw, request_unopened shut] at he
    exact .inr (.inl ⟨_, _, (Host.Outcome.next.inj he).symm⟩)
  | none =>
    cases c <;> simp only [reqCode?, restarts, reduceCtorEq, Bool.true_eq_false] at hr hc <;> simp only [exec] at he
    case selectWindow p b =>
      simp only [execSelectWindow, shut, Bool.false_eq_true, if_false] at he
      exact .inr (.inl ⟨_, _, (Host.Outcome.next.inj he).symm⟩)
    case saveWriteComplete =>
      unfold execSaveWriteComplete at he
      split at he <;> obtain rfl := Host.Outcome.next.inj he
      · exact .inl rfl
      · exact .inr (.inr ⟨_, rfl⟩)
    case closeTimerExpiry a =>
      unfold execCloseTimerExpiry at he
      split at he
      · rw [idle] at he; exact .inl (Host.Outcome.next.inj he).symm
      · exact .inl (Host.Outcome.next.inj he).symm
    case contextTimerExpiry =>
      unfold execContextTimerExpiry at he
      split at he
      · exact .inl (Host.Outcome.next.inj he).symm
      · simp only [idle, Bool.false_eq_true, false_and, if_false] at he
        exact .inl (Host.Outcome.next.inj he).symm
    case recordWriteComplete =>
      simp only [execRecordWriteComplete, h, if_true] at he
      split at he <;> exact .inl (Host.Outcome.next.inj he).symm
    all_goals
      refine .inl (Host.Outcome.next.inj (Eq.trans ?_ he)).symm
      simp [execQuadratureStep, execIntegrityError, State.decode, execGateExpiry, execPollSlot, execSettleTimerExpiry,
        execPumpFeedback, execStartTimerExpiry, execRunOnTimerExpiry, execInjectorFeedback, execFeedbackTimerExpiry,
        execEsdInputChange, execValidityTimerExpiry, execFirstExpiry, execSecondExpiry, State.deadmanCounts,
        execHoldTimerExpiry, execSealInputChange, execBayClockSecond, execPfailAssertion, execStart, State.startReady, h, idle]

/-- Settles O3: a step that leaves the part held either begins RESET, with start-up values and outputs off, or is taken by a
part held before, which only a window's zeros and the end of a save reach. -/
theorem resetHoldsOutputsInactive : Obligations.ResetHoldsOutputsInactive := by
  refine ⟨rfl, State.fresh_outputsOff _ _ _ _, fun p => by cases p <;> rfl,
    fun whole s => ⟨_, _, rfl, rfl, rfl, State.hold_outputsOff _ _, rfl, State.hold_outputsOff _ _⟩, ?step⟩
  intro s t hs hstep ht
  obtain rfl | ⟨c, rest, _, he⟩ := step_cases hstep
  · have hheld := (State.Keeps.refl s).tick.held ht
    rw [State.tick_of_not_started (.inl hheld)]
    exact hs hheld
  generalize hu : { s with pending := rest } = u at he
  have hus : (u.phase = .held → u.OutputsOff) := by subst hu; exact hs
  cases hc : restarts c with
  | false =>
    have hheld : u.phase = .held := (exec_keeps hc he).1.1.held ht
    obtain rfl | ⟨p, k, rfl⟩ | ⟨a, rfl⟩ := exec_held hheld hc he
    · exact hus hheld
    · exact (hus hheld).noWindow p k
    · exact hus hheld
  | true =>
    obtain rfl | ⟨i, rfl⟩ | ⟨a, rfl⟩ := exec_restart hc he
    · exact hus ht
    · cases ht
    · exact State.hold_outputsOff a _

end Sys2Proof.Machine
end

section
/-! PROOFS. Integers in bytes, the frame and its judgement, and the window that carries a frame (R165 to R168, R188). -/

namespace Sys2Proof.Machine

/-! ### Integers in bytes -/

theorem beBytes_length (n v : Nat) : (beBytes n v).length = n := by
  induction n generalizing v with
  | zero => rfl
  | succ n ih => simp [beBytes, ih]

theorem ofBytes_cons (b : Byte) (bs : List Byte) : ofBytes (b :: bs) = b.toNat * 256 ^ bs.length + ofBytes bs := by
  have acc (bs : List Byte) (k : Nat) :
      bs.foldl (fun acc b => acc * 256 + b.toNat) k = k * 256 ^ bs.length + ofBytes bs := by
    induction bs generalizing k with
    | nil => simp [ofBytes]
    | cons c bs ih =>
      have hc : ofBytes (c :: bs) = c.toNat * 256 ^ bs.length + ofBytes bs := by
        rw [ofBytes, List.foldl_cons, ih, Nat.zero_mul, Nat.zero_add]
      rw [List.foldl_cons, ih, hc, List.length_cons]
      ring
  rw [ofBytes, List.foldl_cons, acc, Nat.zero_mul, Nat.zero_add]

/-- The bytes of an integer spell it, as far as they reach. -/
theorem ofBytes_beBytes (n v : Nat) : ofBytes (beBytes n v) = v % 256 ^ n := by
  induction n with
  | zero => simp [beBytes, ofBytes, Nat.mod_one]
  | succ n ih =>
    have digit : (BitVec.ofNat 8 (v / 256 ^ n)).toNat = v / 256 ^ n % 256 := BitVec.toNat_ofNat ..
    rw [beBytes, ofBytes_cons, ih, beBytes_length, digit, Nat.pow_succ, Nat.mod_mul (a := 256 ^ n), Nat.add_comm, Nat.mul_comm]

theorem ofBytes_beBytes_of_lt {n v : Nat} (h : v < 256 ^ n) : ofBytes (beBytes n v) = v := by
  rw [ofBytes_beBytes, Nat.mod_eq_of_lt h]

/-! ### The frame -/

theorem frame_length (g : Byte) (n : Nat) (p : List Byte) : (frame g n p).length = p.length + 5 := by
  simp [frame, beBytes_length]

/-- Settles O10: the length byte tells where the payload and the CRC lie, and the CRC is that of the bytes before it. -/
theorem frameIsJudgedWhole : Obligations.FrameIsJudgedWhole := by
  intro g code payload extra hcode hlen
  have len : (BitVec.ofNat 8 (payload.length + 2)).toNat = payload.length + 2 := by
    rw [BitVec.toNat_ofNat]; omega
  have hcrc : ofBytes (beBytes 2 (crc16 (BitVec.ofNat 8 (payload.length + 2) :: g :: BitVec.ofNat 8 code :: payload)).toNat)
      = (crc16 (BitVec.ofNat 8 (payload.length + 2) :: g :: BitVec.ofNat 8 code :: payload)).toNat :=
    ofBytes_beBytes_of_lt (BitVec.isLt _)
  simp only [frame, judgeInbound, List.cons_append, len, List.length_cons, List.length_append, beBytes_length,
    List.take_succ_cons, List.drop_succ_cons, List.append_assoc]
  have hshort : ¬ (payload.length + 2 < 2 ∨ 62 < payload.length + 2
      ∨ payload.length + (2 + extra.length) + 1 + 1 + 1 < payload.length + 2 + 3) := by omega
  rw [if_neg hshort, Nat.add_sub_cancel, List.take_left, List.drop_left, List.take_left' (beBytes_length ..), hcrc,
    BitVec.ofNat_toNat, BitVec.setWidth_eq, if_pos rfl, BitVec.toNat_ofNat, Nat.mod_eq_of_lt hcode]

/-- Settles O11: each field is read from the bytes that it was written to. -/
theorem permitBytesReadBack : Obligations.PermitBytesReadBack := by
  intro c hcard hcarrier hexpiry hloads
  have card : ofBytes (beBytes 4 c.card) = c.card := ofBytes_beBytes_of_lt hcard
  have carrier : ofBytes (beBytes 2 (c.carrier.getD 0)) = c.carrier.getD 0 := by
    refine ofBytes_beBytes_of_lt ?_
    cases hk : c.carrier with
    | none => decide
    | some k => exact hcarrier k hk
  have quals : ofBytes (beBytes 2 c.quals.toNat) = c.quals.toNat := ofBytes_beBytes_of_lt c.quals.isLt
  have expiry : ofBytes (beBytes 2 c.expiry) = c.expiry := ofBytes_beBytes_of_lt hexpiry
  have loads : (BitVec.ofNat 8 (c.loads / 256 ^ 0)).toNat = c.loads := by simp; omega
  refine ⟨by simp [PermitContent.bytes, beBytes_length], ?_⟩
  have read : readPermit c.bytes
      = { card := ofBytes (beBytes 4 c.card)
          carrier := if (BitVec.ofNat 8 (c.carrier.isSome.toNat / 256 ^ 0)).getLsbD 0 then
            some (ofBytes (beBytes 2 (c.carrier.getD 0))) else none
          quals := BitVec.ofNat 16 (ofBytes (beBytes 2 c.quals.toNat)), expiry := ofBytes (beBytes 2 c.expiry)
          loads := (BitVec.ofNat 8 (c.loads / 256 ^ 0)).toNat
          state := (BitVec.ofNat 8 ((if c.state = .active then 0 else 1) / 256 ^ 0)).toNat } := rfl
  rw [read, card, carrier, quals, expiry, loads]
  cases c.carrier <;> cases c.state <;> simp

/-! ### A window that carries a frame -/

@[simp] theorem reqCodeOf_reqNumber (c : ReqCode) : reqCodeOf (reqNumber c) = some c := by cases c <;> rfl

theorem reqNumber_lt (c : ReqCode) : reqNumber c < 256 := by cases c <;> decide

theorem Win.sent_length (c : ReqCode) (w : Win) : (Win.sent c w).length = w.payload.length + 5 + w.after.length := by
  simp [Win.sent, frame_length]

/-- The inbound bytes of a request's window are judged to be its frame. -/
theorem judgeInbound_sent (c : ReqCode) (w : Win) (h : w.payload.length ≤ 60) :
    judgeInbound ((Win.sent c w).take 65) = .framed w.tag (reqNumber c) w.payload := by
  have hlen : (frame w.tag (reqNumber c) w.payload).length ≤ 65 := by rw [frame_length]; omega
  rw [Win.sent, List.take_append, List.take_of_length_le hlen]
  exact frameIsJudgedWhole _ _ _ _ (reqNumber_lt c) h

/-- What follows a request's frame is what its window says. -/
theorem drop_sent (c : ReqCode) (w : Win) : (Win.sent c w).drop (w.payload.length + 5) = w.after := by
  rw [Win.sent, ← frame_length w.tag (reqNumber c) w.payload, List.drop_left]

theorem win?_withWin {w : Win} {c : ReqCode} {i : Instr} (h : reqCode? i = some c) : win? (withWin w i) = some w := by
  cases i <;> cases h <;> rfl

/-- What a payload reads as stands in the window that it is read for (R168). -/
theorem win?_of_readRequest {w : Win} {c : ReqCode} {p : List Byte} {i : Instr} (h : readRequest w c p = some i) :
    win? i = some w := by
  have bare {j : Instr} (h : noArgument p j = some i) : j = i := by
    unfold noArgument at h; split at h <;> cases h; rfl
  unfold readRequest at h
  split at h
  case h_13 =>
    obtain ⟨r, _, rfl⟩ := Option.map_eq_some_iff.1 h; rfl
  case h_14 =>
    unfold openRequest at h; (repeat' split at h) <;> cases h
    exact win?_withWin ‹_›
  case h_10 | h_11 | h_12 => split at h <;> cases h; rfl
  all_goals rw [← bare h]; rfl

/-- A window that carries the frame of a request acts as the request's row. -/
theorem exec_selectWindow_sent (w : Win) (c : ReqCode) (i : Instr) (s : State) (hlen : w.payload.length ≤ 60)
    (hread : readRequest w c w.payload = some i) : exec (.selectWindow w.port (Win.sent c w)) s = exec i s := by
  rw [exec_eq_request (reqCode?_of_readRequest hread) (win?_of_readRequest hread)]
  simp only [exec, execSelectWindow, request, judgeInbound_sent c w hlen, State.judged, State.framed, drop_sent,
    reqCodeOf_reqNumber, hread]
  cases ht : s.takesWindows
  · rfl
  · cases hp : permitted c w.port
    · rfl
    · by_cases hpow : s.phase = .powerDown
      · simp only [State.window_phase, hpow]; rfl
      · simp only [State.window_phase, hpow]; rfl

theorem readPoints_length (n : Nat) (p : List Byte) : (readPoints n p).length = n := by
  induction n generalizing p with
  | zero => rfl
  | succ n ih => simp [readPoints, ih]

/-- A payload that spells a CAL-WRITE whose value fits its field fits a frame. -/
theorem length_le_of_readCalibration {p : List Byte} {r : Nat × CalValueArg} (h : readCalibration p = some r)
    (hw : r.2.wellFormed = true) : p.length ≤ 60 := by
  unfold readCalibration at h
  split at h
  · rename_i kind index value
    simp only [List.length_cons]
    (repeat' split at h) <;> cases h
    · omega
    · rename_i hp
      simp only [CalValueArg.wellFormed, Bool.and_eq_true, decide_eq_true_eq, readPoints_length] at hw
      simp only [List.length_cons]; omega
    · omega
    · omega
    · rename_i hc
      have : value.length ∈ calibrationLengths := by simpa using hc
      simp only [calibrationLengths, List.mem_cons, List.not_mem_nil, or_false] at this
      omega
  · cases h

/-- A well-formed row whose payload is printed has a payload that fits a frame and reads as the row. -/
theorem printed_row_reads {w : Win} {c : ReqCode} {i : Instr} (hw : win? i = some w) (hc : reqCode? i = some c)
    (hp : printed c = true) (hi : i.wellFormed = true) :
    w.payload.length ≤ 60 ∧ readRequest w c w.payload = some i := by
  have hfits : i.fits = true := by
    unfold Instr.wellFormed at hi; exact (Bool.and_eq_true_iff.1 hi).1
  have hread : readRequest w c w.payload = some i := by
    unfold Instr.wellFormed at hi
    have := (Bool.and_eq_true_iff.1 hi).2
    simpa [hw, Instr.spelledBy, hc, hp] using this
  refine ⟨?_, hread⟩
  have empty {j : Instr} (h : noArgument w.payload j = some i) : w.payload.length ≤ 60 := by
    unfold noArgument at h; split at h
    · simp_all
    · cases h
  have sized {n : Nat} {x : Option Instr} (hn : n ≤ 60) (h : (if w.payload.length = n then x else none) = some i) :
      w.payload.length ≤ 60 := by
    split at h
    · omega
    · cases h
  unfold readRequest at hread
  split at hread
  case h_13 =>
    obtain ⟨r, hr, rfl⟩ := Option.map_eq_some_iff.1 hread
    exact length_le_of_readCalibration hr (Bool.and_eq_true_iff.1 hfits).2
  case h_14 => cases c <;> simp_all [printed]
  case h_10 | h_11 | h_12 => exact sized (by decide) hread
  all_goals exact empty hread

/-- Settles O12: the judged frame gives back the window, and its payload reads as the row. -/
theorem framedRequestActsAsItsRow : Obligations.FramedRequestActsAsItsRow := by
  refine ⟨fun w c i s hlen _ hread => exec_selectWindow_sent w c i s hlen hread, fun w c i s hw hc hp hi => ?_⟩
  obtain ⟨hlen, hread⟩ := printed_row_reads hw hc hp hi
  exact exec_selectWindow_sent w c i s hlen hread

end Sys2Proof.Machine
end

section
/-! PROOFS. What a window meets at the port (R165 to R171): the row of a window of bytes, and the requests refused there. -/

namespace Sys2Proof.Machine

/-! ### Windows that open and windows that do not -/

theorem State.takesWindows_of_started {s : State} (h : s.phase = .running ∨ s.phase = .powerDown ∧ s.started = true) :
    s.takesWindows = true := by
  rcases h with h | ⟨h, hs⟩ <;> simp [State.takesWindows, *]

theorem State.not_takesWindows_of_not_started {s : State}
    (h : s.phase = .held ∨ s.phase = .startUp ∨ s.phase = .powerDown ∧ s.started = false) : s.takesWindows = false := by
  rcases h with h | h | ⟨h, hs⟩ <;> simp [State.takesWindows, *]

/-- A window that does not open moves the data out of its port, and nothing else (R171). -/
theorem State.noWindow_moves (p : Port) (k : Nat) (s : State) :
    (s.noWindow p k).ports.get p = { s.ports.get p with shifted := List.replicate k 0#8 }
      ∧ (∀ q, q ≠ p → (s.noWindow p k).ports.get q = s.ports.get q)
      ∧ { s.noWindow p k with ports := s.ports } = s :=
  ⟨Ports.get_set_self .., fun _ hq => Ports.get_set_of_ne hq .., rfl⟩

theorem exec_selectWindow_opened {p : Port} {bytes : List Byte} {s : State} (h : s.takesWindows = true) :
    exec (.selectWindow p bytes) s
      = .next ((s.window p bytes.length (bytes.take 65)).judged p bytes (judgeInbound (bytes.take 65))) := by
  simp only [exec, execSelectWindow, h, if_true]

theorem exec_selectWindow_unopened {p : Port} {bytes : List Byte} {s : State} (h : s.takesWindows = false) :
    exec (.selectWindow p bytes) s = .next (s.noWindow p bytes.length) := by
  simp only [exec, execSelectWindow, h, Bool.false_eq_true, if_false]

/-! ### Payloads that spell no request -/

/-- Whether a payload spells a request does not lie in its window. -/
theorem readRequest_eq_none {w : Win} (w' : Win) {c : ReqCode} {p : List Byte} (h : readRequest w c p = none) :
    readRequest w' c p = none := by
  have bare {i j : Instr} (h : noArgument p i = none) : noArgument p j = none := by
    unfold noArgument at h ⊢; split at h <;> simp_all
  have sized {n : Nat} {i j : Instr} (h : (if p.length = n then some i else none) = none) :
      (if p.length = n then some j else none) = none := by
    split at h <;> simp_all
  cases c <;> simp only [readRequest] at h ⊢
  case calWrite => simpa using h
  case permitPut | orderLine | orderList => exact sized h
  case nop | eventRead | loadFinish | loadResume | loadAbort | cardWithdraw | resume | esdReset | noteRead => exact bare h
  all_goals
    unfold openRequest at h ⊢
    split at h
    · rfl
    · split at h <;> simp_all

theorem readRequest_argument {w : Win} {c : ReqCode} {p : List Byte}
    (hc : c ∈ [ReqCode.nop, .eventRead, .loadFinish, .loadResume, .loadAbort, .cardWithdraw, .resume, .esdReset, .noteRead])
    (hp : p ≠ []) : readRequest w c p = none := by
  simp only [List.mem_cons, List.not_mem_nil, or_false] at hc
  rcases hc with rfl | rfl | rfl | rfl | rfl | rfl | rfl | rfl | rfl <;> simp [readRequest, noArgument, hp]

theorem readCalibration_short {p : List Byte} (h : p.length < 2) : readCalibration p = none := by
  match p, h with
  | [], _ => rfl
  | [_], _ => rfl

/-- The value of a CAL-WRITE that spells none has a length not allowed for its kind (R168, section 11.5). -/
theorem readCalibration_value {kind index : Byte} {value : List Byte} :
    (kind = 0#8 ∨ kind = 3#8 → value.length ≠ 4 → readCalibration (kind :: index :: value) = none)
      ∧ (kind = 1#8 → value = [] → readCalibration (kind :: index :: value) = none)
      ∧ (∀ count points, kind = 1#8 → value = count :: points → points.length ≠ 5 * count.toNat →
        readCalibration (kind :: index :: value) = none)
      ∧ (kind = 2#8 → value.length ≠ 2 → readCalibration (kind :: index :: value) = none) := by
  refine ⟨?_, ?_, ?_, ?_⟩
  · rintro (rfl | rfl) h <;> simp [readCalibration, h]
  · rintro rfl rfl; rfl
  · rintro count points rfl rfl h; simp [readCalibration, h]
  · rintro rfl h; simp [readCalibration, h]

/-! ### Refusals -/

/-- A frame that its port takes, whose payload spells no request, is answered BAD_ARGUMENT (R168). -/
theorem State.framed_unread {w : Win} {n : Nat} {p : List Byte} {c : ReqCode} {s : State} (hn : reqCodeOf n = some c)
    (hp : permitted c w.port = true) (hrun : s.phase = .running) (hread : readRequest w c p = none) :
    s.framed w n p = s.respond w.port w.tag { status := .badArgument, payload := .none } := by
  simp [State.framed, hn, hp, hrun, hread, State.refused]

theorem State.framed_busy {w : Win} {n : Nat} {p : List Byte} {c : ReqCode} {s : State} (hn : reqCodeOf n = some c)
    (hp : permitted c w.port = true) (hpow : s.phase = .powerDown) :
    s.framed w n p = s.respond w.port w.tag { status := .busy, payload := .none } := by
  simp [State.framed, hn, hp, hpow, State.refused]

theorem State.framed_notPermitted {w : Win} {n : Nat} {p : List Byte} {c : ReqCode} {s : State} (hn : reqCodeOf n = some c)
    (hp : permitted c w.port = false) :
    s.framed w n p = s.respond w.port w.tag { status := .notPermitted, payload := .none } := by
  simp [State.framed, hn, hp, State.refused]

theorem State.framed_unknown {w : Win} {n : Nat} {p : List Byte} {s : State} (hn : reqCodeOf n = none) :
    s.framed w n p = s.respond w.port w.tag { status := .unknownRequest, payload := .none } := by
  simp [State.framed, hn, State.refused]

/-- A row of a request, with the window `w`. -/
theorem exec_withWin {i : Instr} {c : ReqCode} (w : Win) (s : State) (hc : reqCode? i = some c) :
    exec (withWin w i) s = request c w (ownerOf (withWin w i)) s :=
  exec_eq_request (by rw [reqCode?_withWin, hc]) (win?_withWin hc) s

/-- Settles O13: the judgement of the bytes, the code, the port, the phase and the payload decide in this order. -/
theorem windowsAreRefusedAtThePort : Obligations.WindowsAreRefusedAtThePort := by
  refine ⟨fun p bytes s => ⟨fun hopen => ?window, fun hshut => ?shut⟩, fun i c w s hc => ⟨fun hshut => ?shutRow, ?_, ?_⟩⟩
  case shut =>
    rw [exec_selectWindow_unopened (State.not_takesWindows_of_not_started hshut)]
    exact ⟨_, rfl, State.noWindow_moves p _ s⟩
  case shutRow =>
    rw [exec_withWin w s hc, request_unopened (State.not_takesWindows_of_not_started hshut)]
    exact ⟨_, rfl, State.noWindow_moves w.port _ s⟩
  case window =>
    rw [exec_selectWindow_opened (State.takesWindows_of_started hopen)]
    refine ⟨fun hj => by rw [hj]; rfl, fun g hj => by rw [hj]; rfl, fun g code payload hj => ?_⟩
    rw [hj]
    refine ⟨fun hn => congrArg _ (State.framed_unknown hn), fun c hn => ⟨fun hp => congrArg _ (State.framed_notPermitted hn hp),
      fun hp hpow => congrArg _ (State.framed_busy hn hp hpow), fun hp hrun => ?_⟩⟩
    have unread (w : Win) (h : readRequest w c payload = none) := congrArg (Host.Outcome.next (φ := Fault) (ρ := Refusal))
      (State.framed_unread (w := { port := p, tag := g, payload, after := bytes.drop (payload.length + 5) })
        (s := s.window p bytes.length (bytes.take 65)) hn hp hrun (readRequest_eq_none _ h))
    have w : Win := ⟨p, g, payload, []⟩
    have calibration (hc : c = .calWrite) (h : readCalibration payload = none) := unread w (by subst hc; simp [readRequest, h])
    refine ⟨fun hc hne => unread w (readRequest_argument hc hne), fun hc h => unread w (by subst hc; simp [readRequest, h]),
      fun hc h => unread w (by subst hc; simp [readRequest, h]), fun hc h => unread w (by subst hc; simp [readRequest, h]),
      fun hc h => calibration hc (readCalibration_short h), fun kind index value hc hv => ?_, unread⟩
    obtain ⟨h1, h2, h3, h4⟩ := readCalibration_value (kind := kind) (index := index) (value := value)
    subst hv
    exact ⟨fun hk h => calibration hc (h1 hk h), fun hk h => calibration hc (h2 hk h),
      fun n x hk hx h => calibration hc (h3 n x hk hx h), fun hk h => calibration hc (h4 hk h)⟩
  · rintro ⟨hpow, hstarted⟩ hp
    rw [exec_withWin w s hc]
    simp [request, State.takesWindows, hpow, hstarted, hp]
  · intro hopen hp
    rw [exec_withWin w s hc]
    simp [request, State.takesWindows_of_started hopen, hp]

end Sys2Proof.Machine
end

section
/-! PROOFS. The requests that read and change nothing (R2, R99, R31, R135, R146, R178, R179): what each owner replies, and the
rows built from them. -/

namespace Sys2Proof.Machine

variable {s t : State} {i : Instr} {c : ReqCode} {w : Win} {status : Status} {payload : Payload}

/-! ### A request that a running part takes -/

/-- The row of a request at a port that may send it, in a running part, is its owner's work in the state that the window leaves
(R168). -/
theorem exec_answers (hc : reqCode? i = some c) (hw : win? i = some w) (hrun : s.phase = .running)
    (hp : permitted c w.port = true) (ho : ownerOf i (s.seen c w) = (t, { status, payload })) :
    exec i s = .next (t.answered w status payload) :=
  (exec_eq_request hc hw s).trans (request_takes hrun hp ho)

/-! ### NOP -/

/-- NOP is answered OK in the state that its window leaves (R169). -/
theorem exec_nop {w : Win} (hrun : s.phase = .running) : exec (.nop w) s = .next ((s.seen .nop w).answered w .ok .none) :=
  exec_answers rfl rfl hrun rfl rfl

theorem exec_nop_port (w : Win) (s : State) :
    ((s.seen .nop w).answered w .ok .none).ports.get w.port
      = { s.ports.get w.port with
          pending := some ⟨w.tag, .ok, .none⟩, inbound := (Win.sent .nop w).take 65
          outPosition := min (Win.sent .nop w).length (((s.ports.get w.port).pending.getD ⟨0#8, .none, .none⟩).bytes).length
          shifted := (((s.ports.get w.port).pending.getD ⟨0#8, .none, .none⟩).bytes).take (Win.sent .nop w).length
            ++ List.replicate ((Win.sent .nop w).length
              - (((s.ports.get w.port).pending.getD ⟨0#8, .none, .none⟩).bytes).length) 0#8 } := by
  rw [State.answered_port, State.seen_port]
  rfl

/-! ### STATUS-READ -/

theorem exec_statusRead {w : Win} {sect i j : Nat} (hrun : s.phase = .running)
    (ho : ownStatusRead sect i j (s.seen .statusRead w) = (t, { status, payload })) :
    exec (.statusRead w sect i j) s = .next (t.answered w status payload) :=
  exec_answers rfl rfl hrun rfl ho

/-- The compartment record found first under a number, with its index counted from 1 (R178). -/
theorem indexOf?_append {n k : Nat} {c : CompRecord} (before after : List CompRecord) (hc : c.line.compartment = n)
    (hb : ∀ b ∈ before, b.line.compartment ≠ n) :
    indexOf? n k (before ++ c :: after) = some (k + before.length, c) := by
  induction before generalizing k with
  | nil => simp [indexOf?, hc]
  | cons b before ih =>
    have hbn : b.line.compartment ≠ n := hb b (by simp)
    have := ih (k := k + 1) fun x hx => hb x (by simp [hx])
    simp [indexOf?, hbn, this]; omega

theorem indexOf?_eq_none {n k : Nat} {cs : List CompRecord} (h : ∀ c ∈ cs, c.line.compartment ≠ n) :
    indexOf? n k cs = none := by
  induction cs generalizing k with
  | nil => rfl
  | cons c cs ih =>
    simp [indexOf?, h c (by simp), ih (k := k + 1) fun x hx => h x (by simp [hx])]

theorem LoadRecord.comp?_eq_none {n : Nat} {l : LoadRecord} (h : ∀ c ∈ l.comps, c.line.compartment ≠ n) :
    l.comp? n = none := by
  simpa [LoadRecord.comp?] using h

theorem LoadRecord.comp?_append {n : Nat} {l : LoadRecord} {before after : List CompRecord} {c : CompRecord}
    (hl : l.comps = before ++ c :: after) (hc : c.line.compartment = n) (hb : ∀ b ∈ before, b.line.compartment ≠ n) :
    l.comp? n = some c := by
  have hb' : before.find? (fun c => c.line.compartment == n) = none := by simpa using hb
  simp [LoadRecord.comp?, hl, hb', hc]

/-- The two sections that name a compartment refuse a number that names none (R178). -/
theorem ownStatusRead_compartment_outOfRange {x y : Nat} :
    (x = 0 ∨ 8 < x → ownStatusRead 1 x y s = refuse .badArgument s)
      ∧ (x = 0 ∨ 8 < x ∨ y = 0 ∨ 2 < y → ownStatusRead 2 x y s = refuse .badArgument s) := by
  constructor
  · intro h
    have h : x < 1 ∨ 8 < x := by omega
    simp only [ownStatusRead, State.compStatus, if_pos h]
  · intro h
    have h : x < 1 ∨ 8 < x ∨ y < 1 ∨ 2 < y := by omega
    simp only [ownStatusRead, State.additiveStatus, if_pos h]

/-- COMPARTMENT of a number in its range (R178). -/
theorem ownStatusRead_compartment {x y : Nat} (h1 : 1 ≤ x) (h8 : x ≤ 8) :
    ownStatusRead 1 x y s
      = match s.load with
        | none => refuse .state s
        | some l =>
          match indexOf? x 1 l.comps with
          | none => refuse .notFound s
          | some r => reply .ok (.compartment (r.2.status r.1)) s := by
  have h : ¬ (x < 1 ∨ 8 < x) := by omega
  simp only [ownStatusRead, State.compStatus, if_neg h] <;> rfl

/-- ADDITIVE of a number and a position in their ranges (R178). -/
theorem ownStatusRead_additive {x y : Nat} (h1 : 1 ≤ x) (h8 : x ≤ 8) (hy1 : 1 ≤ y) (hy2 : y ≤ 2) :
    ownStatusRead 2 x y s
      = match s.load with
        | none => refuse .state s
        | some l =>
          match (l.comp? x).bind fun c => c.additives.find? fun r => r.position == y with
          | none => refuse .notFound s
          | some r => reply .ok (.additive r) s := by
  have h : ¬ (x < 1 ∨ 8 < x ∨ y < 1 ∨ 2 < y) := by omega
  simp only [ownStatusRead, State.additiveStatus, if_neg h] <;> rfl

theorem four?_eq_none {n : Nat} (h : 4 ≤ n) : four? n = none := by simp [four?, h]
theorem eight?_eq_none {n : Nat} (h : 8 ≤ n) : eight? n = none := by simp [eight?, h]
theorem sixteen?_eq_none {n : Nat} (h : 16 ≤ n) : sixteen? n = none := by simp [sixteen?, h]
theorem recipeIndex?_eq_none {n : Nat} (h : n = 0 ∨ 16 < n) : recipeIndex? n = none := by
  have h : ¬ (0 < n ∧ n ≤ 16) := by omega
  simp only [recipeIndex?, dif_neg h]

/-- ARM and INJECTOR refuse a number that names no unit (R179). -/
theorem ownStatusRead_unit_outOfRange {x y : Nat} :
    (4 ≤ x → ownStatusRead 3 x y s = refuse .badArgument s)
      ∧ (8 ≤ x → ownStatusRead 5 x y s = refuse .badArgument s) := by
  constructor <;> intro h
  · simp only [ownStatusRead, four?_eq_none h]
  · simp only [ownStatusRead, eight?_eq_none h]

theorem ownStatusRead_arm (a : Fin 4) (y : Nat) : ownStatusRead 3 a.val y s = reply .ok (.arm (s.armStatus a)) s := by
  simp only [ownStatusRead, four?_val]

theorem ownStatusRead_injector (j : Fin 8) (y : Nat) :
    ownStatusRead 5 j.val y s = reply .ok (.injector s.injectors[j].status) s := by
  simp only [ownStatusRead, eight?_val]

theorem Valve.main_eq (v : Valve) : v.main = decide (v = .full) := by cases v <;> rfl
theorem Valve.trim_eq (v : Valve) : v.trim = decide (v ≠ .closed) := by cases v <;> rfl

theorem ownStatusRead_beyond {sect x y : Nat} (h : 7 < sect) : ownStatusRead sect x y s = refuse .badArgument s := by
  unfold ownStatusRead
  split <;> first | omega | rfl

/-- Settles O14: NOP by its port's record; STATUS-READ section by section, from what its owner replies. -/
theorem nopAndStatusRead : Obligations.NopAndStatusRead := by
  refine ⟨fun w s hrun => ?nop, fun w x y s hrun => ?status⟩
  case nop =>
    exact ⟨_, exec_nop hrun, fun p hp => by rw [State.answered_other_port hp, State.seen_other_port hp],
      exec_nop_port w s, rfl, by rw [State.answered_off_port, State.seen_off_port]⟩
  case status =>
    refine ⟨?bay, fun h => ?_, fun h => ?_, fun h1 h8 hl => ?noLoad, fun l hl h1 h8 => ?load, fun a => ?arm, fun h => ?_,
      ?pumps, fun j => ?injector, fun h => ?_, ?safety, ?notes, fun sect h => ?_⟩
    case bay => exact exec_statusRead hrun rfl
    case noLoad =>
      exact ⟨exec_statusRead hrun (by rw [ownStatusRead_compartment h1 h8, State.seen_load, hl]; rfl),
        fun hy1 hy2 =>
          exec_statusRead hrun (by rw [ownStatusRead_additive h1 h8 hy1 hy2, State.seen_load, hl]; rfl)⟩
    case load =>
      refine ⟨fun hnone => ⟨exec_statusRead hrun ?_, fun hy1 hy2 => exec_statusRead hrun ?_⟩,
        fun before c after hcs hc hb => ⟨exec_statusRead hrun ?_, fun hy1 hy2 =>
          ⟨fun hr => exec_statusRead hrun ?_, fun r hr => exec_statusRead hrun ?_⟩⟩⟩
      · simp only [ownStatusRead_compartment h1 h8, State.seen_load, hl, indexOf?_eq_none hnone]; rfl
      · simp only [ownStatusRead_additive h1 h8 hy1 hy2, State.seen_load, hl, LoadRecord.comp?_eq_none hnone]; rfl
      · simp only [ownStatusRead_compartment h1 h8, State.seen_load, hl, hcs, indexOf?_append before after hc hb]
        rw [Nat.add_comm]; rfl
      · have hr : c.additives.find? (fun r => r.position == y) = none := by simpa using hr
        simp only [ownStatusRead_additive h1 h8 hy1 hy2, State.seen_load, hl, LoadRecord.comp?_append hcs hc hb,
          Option.bind_some, hr]
        rfl
      · simp only [ownStatusRead_additive h1 h8 hy1 hy2, State.seen_load, hl, LoadRecord.comp?_append hcs hc hb,
          Option.bind_some, hr]
        rfl
    case arm =>
      refine exec_statusRead hrun ((ownStatusRead_arm a y).trans ?_)
      simp only [State.armStatus, Valve.main_eq, Valve.trim_eq]; rfl
    case pumps => exact exec_statusRead hrun rfl
    case injector => exact exec_statusRead hrun (ownStatusRead_injector j y)
    case safety => exact exec_statusRead hrun rfl
    case notes => exact exec_statusRead hrun rfl
    · exact exec_statusRead hrun (ownStatusRead_compartment_outOfRange.1 h)
    · exact exec_statusRead hrun (ownStatusRead_compartment_outOfRange.2 h)
    · exact exec_statusRead hrun (ownStatusRead_unit_outOfRange.1 h)
    · exact exec_statusRead hrun (ownStatusRead_unit_outOfRange.2 h)
    · exact exec_statusRead hrun (ownStatusRead_beyond h)

/-! ### The reads of products, recipes, permits, totals and calibration items -/

theorem ownTotalsRead_outOfRange {x : TotalsObject}
    (h : match x with | .meter n => 4 ≤ n | .injector n => 8 ≤ n | .other => True) :
    ownTotalsRead x s = refuse .badArgument s := by
  cases x with
  | meter n => simp only [ownTotalsRead, four?_eq_none h]
  | injector n => simp only [ownTotalsRead, eight?_eq_none h]
  | other => rfl

/-- An item kind or index that names no item of the calibration set (R146). -/
theorem Calibration.item?_eq_none {kind index : Nat} (c : Calibration) (h : 4 ≤ kind ∨ 8 ≤ index ∨ kind ≠ 3 ∧ 4 ≤ index) :
    c.item? kind index = none := by
  unfold Calibration.item?
  split
  case h_4 => rw [eight?_eq_none (by omega)]; rfl
  case h_5 => rfl
  all_goals rw [four?_eq_none (by omega)]; rfl

theorem ownCalRead_of_item {kind index : Nat} {i : CalItem} (h : s.cal.item? kind index = some i) :
    ownCalRead kind index s = reply .ok (.calibration i s.cal.cec s.sealState) s := by
  simp only [ownCalRead, h]

/-- Settles O15: each read by the item that its operand names, or by the lack of one. -/
theorem readsAnswerWhatIsHeld : Obligations.ReadsAnswerWhatIsHeld := by
  intro g body tail s hrun
  refine ⟨fun code => ?_, fun i => ?_, fun card e he => ?_, fun p m => ?_, fun p j => ?_, fun m => ?_, fun m => ?_,
    fun m => ?_, fun j => ?_, fun code h => ?_, fun n h => ?_, fun p x h => ?_, fun kind index h => ?_⟩
  · exact exec_answers rfl rfl hrun rfl (by simp only [ownerOf, ownProductRead, sixteen?_val]; rfl)
  · exact exec_answers rfl rfl hrun rfl (by simp only [ownerOf, ownRecipeRead, recipeIndex?_succ]; rfl)
  · have he : State.permit? card (s.seen .permitRead ⟨.tp, g, body, tail⟩) = some e := he
    exact exec_answers rfl rfl hrun rfl (by simp only [ownerOf, ownPermitRead, he]; rfl)
  · exact exec_answers rfl rfl hrun rfl (by simp only [ownerOf, ownTotalsRead, four?_val]; rfl)
  · exact exec_answers rfl rfl hrun rfl (by simp only [ownerOf, ownTotalsRead, eight?_val]; rfl)
  · exact exec_answers rfl rfl hrun rfl (ownCalRead_of_item (by simp only [Calibration.item?, four?_val]; rfl))
  · exact exec_answers rfl rfl hrun rfl (ownCalRead_of_item (by simp only [Calibration.item?, four?_val]; rfl))
  · exact exec_answers rfl rfl hrun rfl (ownCalRead_of_item (by simp only [Calibration.item?, four?_val]; rfl))
  · exact exec_answers rfl rfl hrun rfl (ownCalRead_of_item (by simp only [Calibration.item?, eight?_val]; rfl))
  · exact exec_answers rfl rfl hrun rfl (by simp only [ownerOf, ownProductRead, sixteen?_eq_none h]; rfl)
  · exact exec_answers rfl rfl hrun rfl (by simp only [ownerOf, ownRecipeRead, recipeIndex?_eq_none h]; rfl)
  · exact exec_answers rfl rfl hrun rfl (ownTotalsRead_outOfRange h)
  · exact exec_answers rfl rfl hrun rfl (by simp only [ownerOf, ownCalRead, Calibration.item?_eq_none _ h]; rfl)

end Sys2Proof.Machine
end

section
/-! PROOFS. PRODUCT-PUT and RECIPE-PUT (R1, R98), and the configuration requests (R69, R87, R88, R96, R126, R157): which arguments
each admits, what its owner replies in each case, and the rows built from them. -/

namespace Sys2Proof.Machine

variable {s : State}

/-! ### Places in the write queue (R181) -/

theorem State.hasPlace_eq (h : s.phase = .running) : s.hasPlace = decide (s.queue.length < 8) := by
  simp [State.hasPlace, h]

theorem State.hasPlace_of_length (h : s.phase = .running) (hq : s.queue.length < 8) : s.hasPlace = true := by
  simp [State.hasPlace_eq h, hq]

theorem State.not_hasPlace_of_length (hq : 8 ≤ s.queue.length) : s.hasPlace = false := by
  simp [State.hasPlace, hq]

@[simp] theorem State.seen_hasPlace (c : ReqCode) (w : Win) : (s.seen c w).hasPlace = s.hasPlace := rfl

/-! ### Fields and their ranges -/

theorem validName_iff {name : List Byte} :
    validName name = true ↔ 1 ≤ name.length ∧ name.length ≤ 8 ∧ ∀ b ∈ name, nameChar b = true := by
  simp [validName, and_assoc]

theorem YesNo.value?_ofBool (b : Bool) : YesNo.value? (if b then .yes else .no) = some b := by cases b <;> rfl

theorem YesNo.value?_eq_none {v : YesNo} : YesNo.value? v = none ↔ v = .other := by cases v <;> simp [YesNo.value?]

theorem YesNo.value?_of_ne_other {v : YesNo} (h : v ≠ .other) : YesNo.value? v = some (decide (v = .yes)) := by
  cases v <;> simp_all [YesNo.value?]

theorem fourOrNone?_eq_none {n : Nat} : fourOrNone? n = none ↔ ¬ (n < 4 ∨ n = 255) := by
  unfold fourOrNone? four?
  split <;> simp_all

theorem four?_eq_some_iff {n : Nat} {a : Fin 4} : four? n = some a ↔ a.val = n := by
  unfold four?
  split <;> simp [Fin.ext_iff] <;> omega

/-- The entry that PRODUCT-PUT gives where every field lies in its range (R1). -/
theorem ProductArg.entry?_of_good {e : ProductArg} (hname : validName e.shortName = true) (ha : e.alpha ≤ 20000)
    (hp : e.pump < 4 ∨ e.pump = 255) (hd : e.defined ≠ .other) :
    ∃ entry, ProductArg.entry? e = some entry ∧ entry.defined = decide (e.defined = .yes) := by
  obtain ⟨pump, hpump⟩ := Option.ne_none_iff_exists'.1 (mt fourOrNone?_eq_none.1 (not_not.2 hp))
  simp [ProductArg.entry?, hpump, YesNo.value?_of_ne_other hd, hname, ha]

/-- PRODUCT-PUT gives no entry where a field lies out of its range (R1). -/
theorem ProductArg.entry?_of_bad {e : ProductArg}
    (h : ¬ (validName e.shortName = true ∧ e.alpha ≤ 20000 ∧ (e.pump < 4 ∨ e.pump = 255) ∧ e.defined ≠ .other)) :
    ProductArg.entry? e = none := by
  unfold ProductArg.entry?
  split
  · rename_i pump defined hp hd
    have hp : e.pump < 4 ∨ e.pump = 255 := by
      by_contra hn
      rw [fourOrNone?_eq_none.2 hn] at hp
      cases hp
    have hd : e.defined ≠ .other := fun ho => by
      rw [YesNo.value?_eq_none.2 ho] at hd
      cases hd
    exact if_neg fun hg => h ⟨hg.1, hg.2, hp, hd⟩
  · rfl

/-! ### PRODUCT-PUT -/

theorem State.productQueued_iff {code : Fin 16} :
    s.productQueued code = true ↔ ∃ o ∈ s.orders, ∃ l ∈ o.lines, l.product = code := by
  simp [State.productQueued]

theorem ownProductPut_loadOpen {code : Nat} {e : ProductArg} (hl : s.load.isSome = true) :
    ownProductPut code e s = refuse .loadOpen s := by
  simp only [ownProductPut, hl, if_true]

theorem ownProductPut_badArgument {code : Nat} {e : ProductArg} (hl : s.load = none)
    (h : sixteen? code = none ∨ ProductArg.entry? e = none) : ownProductPut code e s = refuse .badArgument s := by
  rcases h with h | h
  · simp [ownProductPut, hl, h]
  · cases hc : sixteen? code <;> simp [ownProductPut, hl, h, hc]

/-- PRODUCT-PUT of an entry in its ranges, with no load open (R1). -/
theorem ownProductPut_of_entry {code : Fin 16} {e : ProductArg} {entry : ProductEntry} (hl : s.load = none)
    (he : ProductArg.entry? e = some entry) :
    ownProductPut code.val e s
      = if !entry.defined && s.productQueued code then refuse .inUse s
        else if !s.hasPlace then refuse .busy s
        else reply .accepted .none (({ s with products := s.products.set code entry }).enqueue (.product code entry)) := by
  simp only [ownProductPut, hl, Option.isSome_none, Bool.false_eq_true, if_false, sixteen?_val, he]

/-! ### RECIPE-PUT -/

/-- A component as RECIPE-PUT may give it (section 5.2.1). -/
def ComponentArg.InRange (c : ComponentArg) : Prop :=
  c.additive ≤ 7 ∧ 10 ≤ c.ratio ∧ c.ratio ≤ 10000 ∧ 1 ≤ c.tolerance ∧ c.tolerance ≤ 20 ∧ c.mandatory ≠ .other

theorem ComponentArg.component?_of_inRange {c : ComponentArg} (h : ComponentArg.InRange c) :
    ComponentArg.component? c = some ⟨c.additive, c.ratio, c.tolerance, decide (c.mandatory = .yes)⟩ := by
  obtain ⟨h1, h2, h3, h4, h5, h6⟩ := h
  simp [ComponentArg.component?, YesNo.value?_of_ne_other h6, *]

theorem ComponentArg.component?_isSome_iff {c : ComponentArg} : (ComponentArg.component? c).isSome = true ↔ ComponentArg.InRange c := by
  constructor
  · intro h
    unfold ComponentArg.component? at h
    split at h
    · cases h
    · rename_i hv
      have hm : c.mandatory ≠ .other := fun ho => by
        rw [YesNo.value?_eq_none.2 ho] at hv
        cases hv
      split at h
      · rename_i hr
        obtain ⟨h1, h2, h3, h4, h5⟩ := hr
        exact ⟨h1, h2, h3, h4, h5, hm⟩
      · cases h
  · intro h
    rw [ComponentArg.component?_of_inRange h]; rfl

/-- A list that RECIPE-PUT admits: one component, or two of different additive codes, each in its ranges (R98). -/
theorem components?_of_good {cs : List ComponentArg} (hlen : cs.length = 1 ∨ cs.length = 2)
    (hnd : (cs.map ComponentArg.additive).Nodup) (hr : ∀ c ∈ cs, ComponentArg.InRange c) :
    components? cs = some (cs.map fun c => ⟨c.additive, c.ratio, c.tolerance, decide (c.mandatory = .yes)⟩) := by
  match cs, hlen with
  | [x], _ => simp [components?, ComponentArg.component?_of_inRange (hr x (by simp))]
  | [x, y], _ =>
    have hne : x.additive ≠ y.additive := by simpa using hnd
    simp [components?, ComponentArg.component?_of_inRange (hr x (by simp)),
      ComponentArg.component?_of_inRange (hr y (by simp)), hne]

theorem components?_good {cs : List ComponentArg} (h : (components? cs).isSome = true) :
    (cs.length = 1 ∨ cs.length = 2) ∧ (cs.map ComponentArg.additive).Nodup ∧ ∀ c ∈ cs, ComponentArg.InRange c := by
  match cs, h with
  | [x], h =>
    have hx : (ComponentArg.component? x).isSome = true := by simpa [components?] using h
    simpa using ComponentArg.component?_isSome_iff.1 hx
  | [x, y], h =>
    have ranged {z : ComponentArg} (hz : ComponentArg.component? z ≠ none) : ComponentArg.InRange z :=
      ComponentArg.component?_isSome_iff.1 (Option.isSome_iff_ne_none.2 hz)
    have hx : ComponentArg.InRange x := ranged fun hn => by simp [components?, hn] at h
    have hy : ComponentArg.InRange y := ranged fun hn => by simp [components?, hn] at h
    have hne : x.additive ≠ y.additive := by
      simpa [components?, ComponentArg.component?_of_inRange hx, ComponentArg.component?_of_inRange hy] using h
    exact ⟨.inr rfl, by simpa using hne, by simpa using ⟨hx, hy⟩⟩

theorem State.recipeQueued_iff {n : Nat} : s.recipeQueued n = true ↔ ∃ o ∈ s.orders, ∃ l ∈ o.lines, l.recipe = n := by
  simp [State.recipeQueued]

theorem ownRecipePut_loadOpen {n : Nat} {d : YesNo} {cs : List ComponentArg} (hl : s.load.isSome = true) :
    ownRecipePut n d cs s = refuse .loadOpen s := by
  simp only [ownRecipePut, hl, if_true]

theorem ownRecipePut_badArgument {n : Nat} {d : YesNo} {cs : List ComponentArg} (hl : s.load = none)
    (h : recipeIndex? n = none ∨ YesNo.value? d = none ∨ components? cs = none) :
    ownRecipePut n d cs s = refuse .badArgument s := by
  unfold ownRecipePut
  simp only [hl, Option.isSome_none, Bool.false_eq_true, if_false]
  split
  · rename_i hi hd hc
    simp [hi, hd, hc] at h
  · rfl

/-- RECIPE-PUT of an entry in its ranges, with no load open (R98). -/
theorem ownRecipePut_of_entry {i : Fin 16} {d : YesNo} {defined : Bool} {cs : List ComponentArg} {components : List Component}
    (hl : s.load = none) (hd : YesNo.value? d = some defined) (hc : components? cs = some components) :
    ownRecipePut (i.val + 1) d cs s
      = if !defined && s.recipeQueued (i.val + 1) then refuse .inUse s
        else if !s.hasPlace then refuse .busy s
        else reply .accepted .none (({ s with recipes := s.recipes.set i { defined, components } }).enqueue
          (.recipe i { defined, components })) := by
  simp only [ownRecipePut, hl, Option.isSome_none, Bool.false_eq_true, if_false, recipeIndex?_succ, hd, hc]

/-! ### The writes of the two tables that are accepted -/

/-- Settles O18: the entries of both tables read back from their arguments, then the owner's last case. -/
theorem tableWritesAccepted : Obligations.TableWritesAccepted := by
  intro g body tail s hrun hl hq w v
  have place {c : ReqCode} : (s.seen c w).hasPlace = true := State.hasPlace_of_length hrun hq
  refine ⟨fun code name alpha required pump defined h1 h8 hn ha hnamed => ?product,
    fun i cs defined hlen hr hnd hnamed => ?recipe⟩
  case product =>
    have he : ProductArg.entry? ⟨name, alpha, required, pump.elim 255 Fin.val, if defined then .yes else .no⟩
        = some ⟨name, alpha, required, pump, defined⟩ := by
      simp [ProductArg.entry?, YesNo.value?_ofBool, validName_iff.2 ⟨h1, h8, hn⟩, ha]
    have hin : (!defined && (s.seen .productPut w).productQueued code) = false := by
      rcases hnamed with rfl | h
      · rfl
      · rw [Bool.and_eq_false_iff]
        exact .inr (Bool.eq_false_iff.2 fun hp =>
          let ⟨o, ho, l, hm, hc⟩ := State.productQueued_iff.1 hp
          h o ho l hm hc)
    refine exec_answers rfl rfl hrun rfl ((ownProductPut_of_entry (s := s.seen .productPut w) hl he).trans ?_)
    simp only [hin, place, Bool.not_true, Bool.false_eq_true, if_false]
    rfl
  case recipe =>
    have hc : components? (cs.map fun c => ⟨c.additive, c.ratio, c.tolerance, if c.mandatory then .yes else .no⟩)
        = some cs := by
      rw [components?_of_good (by simpa using hlen) (by simpa [List.map_map, Function.comp_def] using hnd)]
      · rw [List.map_map, Option.some.injEq]
        refine (List.map_congr_left fun c _ => ?_).trans (List.map_id cs)
        obtain ⟨additive, ratio, tolerance, mandatory⟩ := c
        cases mandatory <;> rfl
      · simp only [List.mem_map]
        rintro _ ⟨c, hm, rfl⟩
        obtain ⟨h1, h2, h3, h4, h5⟩ := hr c hm
        exact ⟨h1, h2, h3, h4, h5, by dsimp only; split <;> simp⟩
    have hin : (!defined && (s.seen .recipePut w).recipeQueued (i.val + 1)) = false := by
      rcases hnamed with rfl | h
      · rfl
      · rw [Bool.and_eq_false_iff]
        exact .inr (Bool.eq_false_iff.2 fun hp =>
          let ⟨o, ho, l, hm, hc⟩ := State.recipeQueued_iff.1 hp
          h o ho l hm hc)
    refine exec_answers rfl rfl hrun rfl ((ownRecipePut_of_entry (s := s.seen .recipePut w) hl (YesNo.value?_ofBool defined) hc).trans ?_)
    simp only [hin, place, Bool.not_true, Bool.false_eq_true, if_false]
    rfl

end Sys2Proof.Machine
end

section
/-! PROOFS. The configuration requests of arms, pumps, injectors, the deadman and the notes (R69, R87, R88, R96, R126, R157): what
each owner replies in each case, and the rows built from them. -/

namespace Sys2Proof.Machine

variable {s : State}

/-! ### ARM-CONFIG -/

/-- The arguments that ARM-CONFIG admits (table 4.1.1). -/
def ArmArg.Good (c : ArmArg) : Prop :=
  c.lowStart ≤ 500 ∧ c.slowdown ≤ 1000 ∧ c.maxAnt ≤ 200 ∧ c.ant ≤ c.maxAnt ∧ 2 ≤ c.closeTimeout
    ∧ c.closeTimeout ≤ 30 ∧ c.strayLimit ≤ 20 ∧ 10 ≤ c.progress ∧ c.progress ≤ 1000

theorem ownArmConfig_badArgument {a : Nat} {c : ArmArg} (h : 4 ≤ a ∨ ¬ ArmArg.Good c) :
    ownArmConfig a c s = refuse .badArgument s := by
  rcases h with h | h
  · simp only [ownArmConfig, four?_eq_none h]
  · have h : ArmArg.config? c = none := if_neg h
    cases ha : four? a <;> simp only [ownArmConfig, h, ha]

theorem ownArmConfig_of_good {a : Fin 4} {c : ArmArg} (h : ArmArg.Good c) :
    ownArmConfig a.val c s
      = if s.arms[a].state ≠ .idle then refuse .state s
        else if !s.hasPlace then refuse .busy s
        else
          let config : ArmConfig :=
            ⟨c.lowStart * 1000, c.slowdown * 1000, c.maxAnt * 1000, c.ant * 1000, c.closeTimeout, c.strayLimit * 1000,
              c.progress * 1000⟩
          reply .accepted .none ((s.modifyArm a fun x => { x with config }).enqueue (.arm a config false)) := by
  have h : ArmArg.config? c = some
      ⟨c.lowStart * 1000, c.slowdown * 1000, c.maxAnt * 1000, c.ant * 1000, c.closeTimeout, c.strayLimit * 1000,
        c.progress * 1000⟩ := if_pos h
  simp only [ownArmConfig, four?_val, h]

/-! ### PUMP-CONFIG -/

theorem ownPumpConfig_badArgument {p x y z : Nat} (h : 4 ≤ p ∨ ¬ (1 ≤ x ∧ x ≤ 60 ∧ y ≤ 10 ∧ z ≤ 120)) :
    ownPumpConfig p ⟨x, y, z⟩ s = refuse .badArgument s := by
  rcases h with h | h
  · simp only [ownPumpConfig, four?_eq_none h]
  · have h : PumpArg.config? ⟨x, y, z⟩ = none := if_neg h
    cases hp : four? p <;> simp only [ownPumpConfig, h, hp]

theorem ownPumpConfig_of_good {p : Fin 4} {x y z : Nat} (h : 1 ≤ x ∧ x ≤ 60 ∧ y ≤ 10 ∧ z ≤ 120) :
    ownPumpConfig p.val ⟨x, y, z⟩ s
      = if (s.pumps[p].state ≠ .stopped ∧ s.pumps[p].state ≠ .failed) ∨ 0 < s.pumps[p].demand then refuse .state s
        else if !s.hasPlace then refuse .busy s
        else reply .accepted .none
          ((s.modifyPump p fun u => { u with config := ⟨x, y, z⟩ }).enqueue (.pump p ⟨x, y, z⟩)) := by
  have h : PumpArg.config? ⟨x, y, z⟩ = some ⟨x, y, z⟩ := if_pos h
  simp only [ownPumpConfig, four?_val, h]

/-! ### INJECTOR-ASSIGN -/

/-- The values that INJECTOR-ASSIGN admits (section 5.1.1). -/
def InjectorArgGood (arm code timeout : Nat) : Prop := (arm < 4 ∨ arm = 255) ∧ code ≤ 7 ∧ 100 ≤ timeout ∧ timeout ≤ 2000

/-- An injector that INJECTOR-ASSIGN may assign: IDLE or DISABLED, its old and its new arm IDLE (R96). -/
def State.Assignable (s : State) (j : Fin 8) (arm : Option (Fin 4)) : Prop :=
  (s.injectors[j].state = .idle ∨ s.injectors[j].state = .disabled)
    ∧ (∀ b, s.injectors[j].assign.arm = some b → s.arms[b].state = .idle) ∧ ∀ b, arm = some b → s.arms[b].state = .idle

theorem ownInjectorAssign_badArgument {j arm code timeout : Nat} (h : 8 ≤ j ∨ ¬ InjectorArgGood arm code timeout) :
    ownInjectorAssign j arm code timeout s = refuse .badArgument s := by
  unfold ownInjectorAssign
  split
  · rename_i hj ha
    have hj : ¬ 8 ≤ j := fun hn => by rw [eight?_eq_none hn] at hj; cases hj
    have ha : arm < 4 ∨ arm = 255 := by
      by_contra hn
      rw [fourOrNone?_eq_none.2 hn] at ha
      cases ha
    have h : ¬ (code ≤ 7 ∧ 100 ≤ timeout ∧ timeout ≤ 2000) := fun hg => h.elim hj fun hn => hn ⟨ha, hg⟩
    exact if_pos (by omega)
  · rfl

/-- INJECTOR-ASSIGN of values in their ranges (R96). -/
theorem ownInjectorAssign_of_good {j : Fin 8} {n code timeout : Nat} {arm : Option (Fin 4)} (ha : fourOrNone? n = some arm)
    (h : code ≤ 7 ∧ 100 ≤ timeout ∧ timeout ≤ 2000) [Decidable (s.Assignable j arm)] :
    ownInjectorAssign j.val n code timeout s
      = if ¬ s.Assignable j arm then refuse .state s
        else if !s.hasPlace then refuse .busy s
        else reply .accepted .none
          ((s.modifyInjector j fun x =>
            { x with
              assign := ⟨arm, code, timeout⟩, consecutive := 0
              state := if arm.isNone then .disabled else .idle }).enqueue (.injector j ⟨arm, code, timeout⟩)) := by
  have hr : ¬ (7 < code ∨ timeout < 100 ∨ 2000 < timeout) := by omega
  have arms : ((s.injectors[j].assign.arm.any fun b => s.arms[b].state != .idle)
      || (arm.any fun b => s.arms[b].state != .idle)) = false
        ↔ (∀ b, s.injectors[j].assign.arm = some b → s.arms[b].state = .idle)
          ∧ ∀ b, arm = some b → s.arms[b].state = .idle := by
    have any (x : Option (Fin 4)) :
        (x.any fun b => s.arms[b].state != .idle) = false ↔ ∀ b, x = some b → s.arms[b].state = .idle := by
      cases x <;> simp
    rw [Bool.or_eq_false_iff, any, any]
  simp only [ownInjectorAssign, eight?_val, ha, if_neg hr]
  by_cases hstate : s.injectors[j].state ≠ .idle ∧ s.injectors[j].state ≠ .disabled
  · have hn : ¬ s.Assignable j arm := fun hg => hg.1.elim hstate.1 hstate.2
    rw [if_pos hstate, if_pos hn]
  · have hstate' : s.injectors[j].state = .idle ∨ s.injectors[j].state = .disabled := by
      by_contra hn; exact hstate (not_or.1 hn)
    rw [if_neg hstate]
    by_cases harms : (∀ b, s.injectors[j].assign.arm = some b → s.arms[b].state = .idle)
        ∧ ∀ b, arm = some b → s.arms[b].state = .idle
    · have hg : s.Assignable j arm := ⟨hstate', harms⟩
      rw [arms.2 harms, if_neg Bool.false_ne_true, if_neg (not_not.2 hg)]
    · have hn : ¬ s.Assignable j arm := fun hg => harms hg.2
      rw [Bool.eq_true_of_not_eq_false (mt arms.1 harms), if_pos rfl, if_pos hn]

/-- The arm that a number given for an arm stands for (R188). -/
theorem fourOrNone?_arm {n : Nat} {arm : Option (Fin 4)} (h : fourOrNone? n = some arm) (b : Fin 4) :
    arm = some b ↔ b.val = n := by
  unfold fourOrNone? at h
  split at h
  · cases h
    have := b.isLt
    simp only [reduceCtorEq, false_iff]; omega
  · obtain ⟨c, hc, rfl⟩ := Option.map_eq_some_iff.1 h
    rw [← four?_eq_some_iff, hc]

/-! ### DEADMAN-CONFIG, NOTE-CONFIG, ARM-BLOCK and ARM-UNBLOCK -/

theorem ownDeadmanConfig_of_good {d x : Nat} (h : 30 ≤ d ∧ d ≤ 300 ∧ 15 ≤ x ∧ x ≤ 60) :
    ownDeadmanConfig d x s
      = if s.load.isSome then refuse .loadOpen s
        else if !s.hasPlace then refuse .busy s
        else reply .accepted .none (({ s with safety := { s.safety with period := d, warning := x } }).enqueue (.deadman d x)) := by
  have h : ¬ (d < 30 ∨ 300 < d ∨ x < 15 ∨ 60 < x) := by omega
  simp only [ownDeadmanConfig, if_neg h]

theorem ownNoteConfig_of_good {n : Nat} (h : 1 ≤ n ∧ n ≤ 60) :
    ownNoteConfig n s
      = if !s.hasPlace then refuse .busy s
        else reply .accepted .none (({ s with holdMinutes := n }).enqueue (.noteConfig n)) := by
  have h : ¬ (n < 1 ∨ 60 < n) := by omega
  simp only [ownNoteConfig, if_neg h]

/-- ARM-BLOCK and ARM-UNBLOCK of a mask that names arms (R87). -/
theorem State.setBlocked_of_inRange {m : ArmMask} {blocked : Bool} (h : m.toNat < 16) :
    s.setBlocked m blocked
      = if !s.hasPlace then refuse .busy s
        else reply .accepted .none ((s.modifyArms m fun x => { x with blocked }).enqueue
          (.block (s.modifyArms m fun x => { x with blocked }).blockFlags)) := by
  have h : (!maskInRange m) = false := by simp [maskInRange, h]
  simp only [State.setBlocked, h, Bool.false_eq_true, if_false]

theorem State.setBlocked_outOfRange {m : ArmMask} {blocked : Bool} (h : 16 ≤ m.toNat) :
    s.setBlocked m blocked = refuse .badArgument s := by
  have h : (!maskInRange m) = true := by simp [maskInRange, h]
  simp only [State.setBlocked, h, if_true]

/-! ### What a configuration request is refused with -/

theorem productPut_refusals {w : Win} {code : Nat} {e : ProductArg} (hrun : s.phase = .running) (hp : w.port = .tp) :
    let good : Prop := code < 16 ∧ 1 ≤ e.shortName.length ∧ e.shortName.length ≤ 8
      ∧ (∀ b ∈ e.shortName, nameChar b = true) ∧ e.alpha ≤ 20000 ∧ (e.pump < 4 ∨ e.pump = 255) ∧ e.defined ≠ .other
    let named : Prop := ∃ o ∈ s.orders, ∃ l ∈ o.lines, l.product.val = code
    let refused (status : Status) : Prop :=
      exec (.productPut w code e) s = .next ((s.seen .productPut w).answered w status .none)
    (s.load.isSome = true → refused .loadOpen)
    ∧ (s.load = none →
      (¬ good → refused .badArgument)
      ∧ (good → e.defined = .no → named → refused .inUse)
      ∧ (good → e.defined = .yes ∨ ¬ named → 8 ≤ s.queue.length → refused .busy)) := by
  intro good named refused
  have hp : permitted .productPut w.port = true := by rw [hp]; rfl
  have answer {status : Status} (ho : ownProductPut code e (s.seen .productPut w) = refuse status (s.seen .productPut w)) :
      refused status := exec_answers rfl rfl hrun hp ho
  refine ⟨fun hl => answer (ownProductPut_loadOpen hl), fun hl => ⟨fun hbad => answer (ownProductPut_badArgument hl ?_), ?_⟩⟩
  · by_cases hc : code < 16
    · exact .inr (ProductArg.entry?_of_bad fun ⟨hn, ha, hpump, hd⟩ =>
        let ⟨h1, h8, hall⟩ := validName_iff.1 hn
        hbad ⟨hc, h1, h8, hall, ha, hpump, hd⟩)
    · exact .inl (sixteen?_eq_none (by omega))
  · have entry (hg : good) : ∃ (c : Fin 16) (entry : ProductEntry), c.val = code ∧ ProductArg.entry? e = some entry
        ∧ entry.defined = decide (e.defined = .yes) := by
      obtain ⟨hc, h1, h8, hall, ha, hpump, hd⟩ := hg
      obtain ⟨entry, he⟩ := ProductArg.entry?_of_good (validName_iff.2 ⟨h1, h8, hall⟩) ha hpump hd
      exact ⟨⟨code, hc⟩, entry, rfl, he⟩
    have queued (c : Fin 16) : (s.seen .productPut w).productQueued c = true ↔ ∃ o ∈ s.orders, ∃ l ∈ o.lines, l.product.val = c.val := by
      rw [State.productQueued_iff]; simp only [Fin.ext_iff, State.seen_orders]
    refine ⟨fun hg hno hn => ?_, fun hg hfree hq => ?_⟩
    · obtain ⟨c, entry, rfl, he, hd⟩ := entry hg
      refine answer ((ownProductPut_of_entry (s := s.seen .productPut w) hl he).trans (if_pos ?_))
      rw [(queued c).2 hn, hd, hno]; rfl
    · obtain ⟨c, entry, rfl, he, hd⟩ := entry hg
      refine answer ((ownProductPut_of_entry (s := s.seen .productPut w) hl he).trans ((if_neg ?_).trans (if_pos ?_)))
      · rw [hd]
        rcases hfree with hy | hn
        · simp [hy]
        · simp [Bool.eq_false_iff.2 (mt (queued c).1 hn)]
      · rw [State.seen_hasPlace, State.not_hasPlace_of_length hq]; rfl

theorem recipePut_refusals {w : Win} {n : Nat} {d : YesNo} {cs : List ComponentArg} (hrun : s.phase = .running)
    (hp : w.port = .tp) :
    let good : Prop := 1 ≤ n ∧ n ≤ 16 ∧ d ≠ .other ∧ (cs.length = 1 ∨ cs.length = 2) ∧ (cs.map ComponentArg.additive).Nodup
      ∧ ∀ c ∈ cs, ComponentArg.InRange c
    let named : Prop := ∃ o ∈ s.orders, ∃ l ∈ o.lines, l.recipe = n
    let refused (status : Status) : Prop :=
      exec (.recipePut w n d cs) s = .next ((s.seen .recipePut w).answered w status .none)
    (s.load.isSome = true → refused .loadOpen)
    ∧ (s.load = none →
      (¬ good → refused .badArgument)
      ∧ (good → d = .no → named → refused .inUse)
      ∧ (good → d = .yes ∨ ¬ named → 8 ≤ s.queue.length → refused .busy)) := by
  intro good named refused
  have hp : permitted .recipePut w.port = true := by rw [hp]; rfl
  have answer {status : Status} (ho : ownRecipePut n d cs (s.seen .recipePut w) = refuse status (s.seen .recipePut w)) :
      refused status := exec_answers rfl rfl hrun hp ho
  refine ⟨fun hl => answer (ownRecipePut_loadOpen hl), fun hl => ⟨fun hbad => answer (ownRecipePut_badArgument hl ?_), ?_⟩⟩
  · by_cases hn : 1 ≤ n ∧ n ≤ 16
    · by_cases hd : d = .other
      · exact .inr (.inl (YesNo.value?_eq_none.2 hd))
      · refine .inr (.inr (Option.not_isSome_iff_eq_none.1 fun hc => ?_))
        exact hbad ⟨hn.1, hn.2, hd, components?_good hc⟩
    · exact .inl (recipeIndex?_eq_none (by omega))
  · have owner (hg : good) (t : State) (ht : t.load = none) : ∃ components, ownRecipePut n d cs t
        = if !decide (d = .yes) && t.recipeQueued n then refuse .inUse t
          else if !t.hasPlace then refuse .busy t
          else components := by
      obtain ⟨h1, h16, hd, hlen, hnd, hr⟩ := hg
      have hn : n = (⟨n - 1, by omega⟩ : Fin 16).val + 1 := (Nat.sub_add_cancel h1).symm
      rw [hn]
      exact ⟨_, ownRecipePut_of_entry ht (YesNo.value?_of_ne_other hd) (components?_of_good hlen hnd hr)⟩
    have queued : (s.seen .recipePut w).recipeQueued n = s.recipeQueued n := rfl
    refine ⟨fun hg hno hn => ?_, fun hg hfree hq => ?_⟩
    · obtain ⟨rest, ho⟩ := owner hg (s.seen .recipePut w) hl
      refine answer (ho.trans (if_pos ?_))
      rw [queued, State.recipeQueued_iff.2 hn, hno]; rfl
    · obtain ⟨rest, ho⟩ := owner hg (s.seen .recipePut w) hl
      refine answer (ho.trans ((if_neg ?_).trans (if_pos ?_)))
      · rcases hfree with hy | hn
        · simp [hy]
        · simp [queued, Bool.eq_false_iff.2 (mt State.recipeQueued_iff.1 hn)]
      · rw [State.seen_hasPlace, State.not_hasPlace_of_length hq]; rfl

/-- Settles O19: request by request, the cases of each owner in their order. -/
theorem configurationRefused : Obligations.ConfigurationRefused := by
  intro g body tail s hrun w refused
  have noPlace {c : ReqCode} (hq : 8 ≤ s.queue.length) : (!(s.seen c w).hasPlace) = true := by
    rw [State.seen_hasPlace, State.not_hasPlace_of_length hq]; rfl
  refine ⟨fun code e => productPut_refusals hrun rfl, fun n d cs => recipePut_refusals hrun rfl, fun a c => ?arm,
    fun p x y z => ?pump, fun j arm code timeout => ?injector, fun d x => ?deadman, fun n => ?note, fun m => ?block⟩
  case arm =>
    refine ⟨fun h => exec_answers rfl rfl hrun rfl (ownArmConfig_badArgument h), fun hg b hb => ?_⟩
    subst hb
    refine ⟨fun h => exec_answers rfl rfl hrun rfl ((ownArmConfig_of_good hg).trans (if_pos h)), fun h hq => ?_⟩
    exact exec_answers rfl rfl hrun rfl ((ownArmConfig_of_good hg).trans ((if_neg (not_not.2 h)).trans (if_pos (noPlace hq))))
  case pump =>
    refine ⟨fun h => exec_answers rfl rfl hrun rfl (ownPumpConfig_badArgument h), fun hg q hq => ?_⟩
    subst hq
    refine ⟨fun h => exec_answers rfl rfl hrun rfl ((ownPumpConfig_of_good hg).trans (if_pos ?_)), fun h hq => ?_⟩
    · by_contra hn
      obtain ⟨h1, h2⟩ := not_or.1 hn
      exact h ⟨by by_contra h3; exact h1 (not_or.1 h3), Nat.le_zero.1 (Nat.not_lt.1 h2)⟩
    · refine exec_answers rfl rfl hrun rfl ((ownPumpConfig_of_good hg).trans ((if_neg ?_).trans (if_pos (noPlace hq))))
      obtain ⟨h1, h2⟩ := h
      exact not_or.2 ⟨fun hn => h1.elim hn.1 hn.2, by rw [State.seen_pumps, h2]; exact Nat.lt_irrefl 0⟩
  case injector =>
    refine ⟨fun h => exec_answers rfl rfl hrun rfl (ownInjectorAssign_badArgument h), fun hg k hk => ?_⟩
    subst hk
    obtain ⟨harm, hr⟩ := hg
    obtain ⟨b, hb⟩ := Option.ne_none_iff_exists'.1 (mt fourOrNone?_eq_none.1 (not_not.2 harm))
    have arms : (∀ c : Fin 4, c.val = arm → s.arms[c].state = .idle) ↔ ∀ c, b = some c → s.arms[c].state = .idle :=
      forall_congr' fun c => by rw [fourOrNone?_arm hb c]
    classical
    refine ⟨fun h => ?_, fun h hq => ?_⟩
    · refine exec_answers rfl rfl hrun rfl
        ((ownInjectorAssign_of_good (s := s.seen .injectorAssign w) hb hr).trans (if_pos fun hn => h ?_))
      obtain ⟨h1, h2, h3⟩ := hn
      exact ⟨h1, h2, arms.2 h3⟩
    · obtain ⟨h1, h2, h3⟩ := h
      exact exec_answers rfl rfl hrun rfl ((ownInjectorAssign_of_good (s := s.seen .injectorAssign w) hb hr).trans
        ((if_neg (not_not.2 ⟨h1, h2, arms.1 h3⟩)).trans (if_pos (noPlace hq))))
  case deadman =>
    refine ⟨fun h => exec_answers rfl rfl hrun rfl (if_pos h), fun h1 h2 h3 h4 => ⟨fun hl => ?_, fun hl hq => ?_⟩⟩
    · exact exec_answers rfl rfl hrun rfl ((ownDeadmanConfig_of_good ⟨h1, h2, h3, h4⟩).trans (if_pos hl))
    · refine exec_answers rfl rfl hrun rfl
        ((ownDeadmanConfig_of_good ⟨h1, h2, h3, h4⟩).trans ((if_neg ?_).trans (if_pos (noPlace hq))))
      rw [State.seen_load, hl]; exact Bool.false_ne_true
  case note =>
    exact ⟨fun h => exec_answers rfl rfl hrun rfl (if_pos h), fun h1 h2 hq =>
      exec_answers rfl rfl hrun rfl ((ownNoteConfig_of_good ⟨h1, h2⟩).trans (if_pos (noPlace hq)))⟩
  case block =>
    exact ⟨fun h => ⟨exec_answers rfl rfl hrun rfl (State.setBlocked_outOfRange h),
        exec_answers rfl rfl hrun rfl (State.setBlocked_outOfRange h)⟩,
      fun h hq => ⟨exec_answers rfl rfl hrun rfl ((State.setBlocked_of_inRange h).trans (if_pos (noPlace hq))),
        exec_answers rfl rfl hrun rfl ((State.setBlocked_of_inRange h).trans (if_pos (noPlace hq)))⟩⟩

/-! ### The configuration requests that are accepted -/

/-- Settles O20: each owner's last case, its checks met. -/
theorem equipmentConfigured : Obligations.EquipmentConfigured := by
  intro g body tail s hrun hq w v
  have place {c : ReqCode} : ¬ (!(s.seen c w).hasPlace) = true := by
    rw [State.seen_hasPlace, State.hasPlace_of_length hrun hq]; exact Bool.false_ne_true
  refine ⟨fun a c hidle h1 h2 h3 h4 h5 h6 h7 h8 h9 => ?arm, fun p x y z hstate hdemand h1 h2 h3 h4 => ?pump,
    fun j arm code timeout hstate hold hnew h1 h2 h3 => ?injector⟩
  case arm =>
    exact exec_answers rfl rfl hrun rfl ((ownArmConfig_of_good ⟨h1, h2, h3, h4, h5, h6, h7, h8, h9⟩).trans
      ((if_neg (not_not.2 hidle)).trans (if_neg place)))
  case pump =>
    refine exec_answers rfl rfl hrun rfl ((ownPumpConfig_of_good ⟨h1, h2, h3, h4⟩).trans ((if_neg ?_).trans (if_neg place)))
    exact not_or.2 ⟨fun hn => hstate.elim hn.1 hn.2, by rw [State.seen_pumps, hdemand]; exact Nat.lt_irrefl 0⟩
  case injector =>
    classical
    refine exec_answers rfl rfl hrun rfl
      ((ownInjectorAssign_of_good (s := s.seen .injectorAssign w) (fourOrNone?_elim arm) ⟨h1, h2, h3⟩).trans
        ((if_neg (not_not.2 ⟨hstate, hold, hnew⟩)).trans ((if_neg place).trans ?_)))
    cases arm <;> rfl

/-- What ARM-BLOCK and ARM-UNBLOCK make of the flags, the queue and the rest (R87). -/
theorem State.modifyArms_blocked (m : ArmMask) (blocked : Bool) (s : State) :
    let t := (s.modifyArms m fun x => { x with blocked }).enqueue (.block (s.modifyArms m fun x => { x with blocked }).blockFlags)
    (∀ a : Fin 4, t.arms[a] = if maskHas m a then { s.arms[a] with blocked } else s.arms[a])
      ∧ t.queue = s.queue ++ [.block #v[t.arms[0].blocked, t.arms[1].blocked, t.arms[2].blocked, t.arms[3].blocked]]
      ∧ { t with arms := s.arms, queue := s.queue } = s :=
  ⟨fun a => by rw [State.enqueue_arms, State.modifyArms_get], rfl, rfl⟩

/-- Settles O21: each owner's last case, and for the two masks the flags arm by arm. -/
theorem blocksAndTimesConfigured : Obligations.BlocksAndTimesConfigured := by
  intro g body tail s hrun hq w v
  have place {c : ReqCode} : ¬ (!(s.seen c w).hasPlace) = true := by
    rw [State.seen_hasPlace, State.hasPlace_of_length hrun hq]; exact Bool.false_ne_true
  refine ⟨fun m h => ?block, fun m h => ?unblock, fun d x hl h1 h2 h3 h4 => ?deadman, fun n h1 h2 => ?note⟩
  case block =>
    obtain ⟨harms, hqueue, hrest⟩ := State.modifyArms_blocked m true (v .armBlock)
    refine ⟨_, exec_answers rfl rfl hrun rfl ((State.setBlocked_of_inRange h).trans (if_neg place)), fun a => ?_, hqueue,
      hrest⟩
    rw [harms a, maskHas]
    cases m.getLsbD a.val <;> simp [v]
  case unblock =>
    obtain ⟨harms, hqueue, hrest⟩ := State.modifyArms_blocked m false (v .armUnblock)
    refine ⟨_, exec_answers rfl rfl hrun rfl ((State.setBlocked_of_inRange h).trans (if_neg place)), fun a => ?_, hqueue,
      hrest⟩
    rw [harms a, maskHas]
    cases m.getLsbD a.val <;> simp [v]
  case deadman =>
    refine exec_answers rfl rfl hrun rfl
      ((ownDeadmanConfig_of_good ⟨h1, h2, h3, h4⟩).trans ((if_neg ?_).trans (if_neg place)))
    rw [State.seen_load, hl]; exact Bool.false_ne_true
  case note =>
    exact exec_answers rfl rfl hrun rfl ((ownNoteConfig_of_good ⟨h1, h2⟩).trans (if_neg place))

end Sys2Proof.Machine
end

section
/-! PROOFS. The seal and CAL-WRITE (R141, R143, R144): which items CAL-WRITE admits, what its owner replies in each case, and the
rows built from them. -/

namespace Sys2Proof.Machine

variable {s : State}

/-! ### The items that CAL-WRITE admits -/

/-- A factor and a flow rate as a curve's point may hold them (section 7.5.1). -/
def PointInRange (y : Nat × Nat) : Prop := y.1 ≤ 60000 ∧ 95000 ≤ y.2 ∧ y.2 ≤ 105000

/-- The points behind `p` rise and lie in their ranges (section 7.5.1). -/
theorem curveRises_iff (p : Nat × Nat) (ps : List (Nat × Nat)) :
    curveRises p.1 ps = true ↔ (∀ y ∈ ps, PointInRange y) ∧ (p :: ps).Pairwise fun y z => y.1 < z.1 := by
  induction ps generalizing p with
  | nil => simp [curveRises]
  | cons r rest ih =>
    have step : (p :: r :: rest).Pairwise (fun y z => y.1 < z.1) ↔ p.1 < r.1 ∧ (r :: rest).Pairwise fun y z => y.1 < z.1 := by
      rw [List.pairwise_cons]
      refine and_congr_left fun hr => ⟨fun h => h r (by simp), fun h y hy => ?_⟩
      rcases List.mem_cons.1 hy with rfl | hy
      · exact h
      · exact h.trans ((List.pairwise_cons.1 hr).1 y hy)
    simp only [curveRises, Bool.and_eq_true, decide_eq_true_eq, ih, step, List.forall_mem_cons, PointInRange]
    tauto

/-- The curve of a point list, where section 7.5.1 admits it. -/
theorem curve?_of_good {p : Nat × Nat} {rest : List (Nat × Nat)} (hlen : rest.length ≤ 3)
    (hr : ∀ y ∈ p :: rest, PointInRange y) (hp : (p :: rest).Pairwise fun y z => y.1 < z.1) :
    curve? (p :: rest) = some ⟨p, rest⟩ := by
  obtain ⟨⟨h1, h2, h3⟩, hrest⟩ := List.forall_mem_cons.1 hr
  exact if_pos ⟨h1, h2, h3, hlen, (curveRises_iff p rest).2 ⟨hrest, hp⟩⟩

theorem curve?_good {ps : List (Nat × Nat)} {c : Curve} (h : curve? ps = some c) :
    1 ≤ ps.length ∧ ps.length ≤ 4 ∧ (∀ y ∈ ps, PointInRange y) ∧ ps.Pairwise fun y z => y.1 < z.1 := by
  match ps, h with
  | p :: rest, h =>
    simp only [curve?] at h
    split at h
    · rename_i hg
      obtain ⟨h1, h2, h3, hlen, hrise⟩ := hg
      obtain ⟨hrest, hpair⟩ := (curveRises_iff p rest).1 hrise
      exact ⟨by simp, Nat.succ_le_succ hlen, List.forall_mem_cons.2 ⟨⟨h1, h2, h3⟩, hrest⟩, hpair⟩
    · cases h

/-- The kind, index and value of CAL-WRITE lie in their ranges (R143). -/
def CalArgGood (index : Nat) : CalValueArg → Prop
  | .meterConstant k => index < 4 ∧ 1000 ≤ k ∧ k ≤ 2000000
  | .factorCurve count points => index < 4 ∧ count = points.length ∧ 1 ≤ count ∧ count ≤ 4
    ∧ (∀ y ∈ points, y.1 ≤ 60000 ∧ 95000 ≤ y.2 ∧ y.2 ≤ 105000) ∧ points.Pairwise fun y z => y.1 < z.1
  | .probeOffset o => index < 4 ∧ -200 ≤ o ∧ o ≤ 200
  | .strokeVolume v => index < 8 ∧ 100 ≤ v ∧ v ≤ 100000
  | .other _ => False

theorem four?_isSome {n : Nat} (h : n < 4) : ∃ a, four? n = some a := ⟨⟨n, h⟩, dif_pos h⟩
theorem eight?_isSome {n : Nat} (h : n < 8) : ∃ a, eight? n = some a := ⟨⟨n, h⟩, dif_pos h⟩

theorem calItem?_of_good {index : Nat} {x : CalValueArg} (h : CalArgGood index x) : ∃ i, calItem? index x = some i := by
  cases x with
  | meterConstant k =>
    obtain ⟨m, hm⟩ := four?_isSome h.1
    exact ⟨_, (if_pos h.2).trans (by rw [hm]; rfl)⟩
  | factorCurve count points =>
    obtain ⟨hi, hcount, h1, h4, hr, hp⟩ := h
    obtain ⟨m, hm⟩ := four?_isSome hi
    match points, hcount with
    | p :: rest, hcount =>
      have hlen : rest.length ≤ 3 := by rw [hcount, List.length_cons] at h4; omega
      refine ⟨.factorCurve m ⟨p, rest⟩, (if_neg (not_not.2 hcount)).trans ?_⟩
      rw [hm, curve?_of_good hlen hr hp]
    | [], hcount => simp [hcount] at h1
  | probeOffset o =>
    obtain ⟨m, hm⟩ := four?_isSome h.1
    exact ⟨_, (if_pos h.2).trans (by rw [hm]; rfl)⟩
  | strokeVolume v =>
    obtain ⟨j, hj⟩ := eight?_isSome h.1
    exact ⟨_, (if_pos h.2).trans (by rw [hj]; rfl)⟩
  | other kind => exact h.elim

theorem calItem?_of_bad {index : Nat} {x : CalValueArg} (h : ¬ CalArgGood index x) : calItem? index x = none := by
  cases x with
  | meterConstant k =>
    by_cases hi : index < 4
    · exact if_neg fun hk => h ⟨hi, hk⟩
    · simp [calItem?, four?_eq_none (Nat.not_lt.1 hi)]
  | factorCurve count points =>
    simp only [calItem?]
    split
    · rfl
    · rename_i hcount
      split
      · rename_i m c hm hc
        obtain ⟨h1, h4, hr, hp⟩ := curve?_good hc
        have hcount := not_not.1 hcount
        have hi : index < 4 := by
          by_contra hn
          rw [four?_eq_none (Nat.not_lt.1 hn)] at hm
          cases hm
        exact absurd ⟨hi, hcount, hcount ▸ h1, hcount ▸ h4, hr, hp⟩ h
      · rfl
  | probeOffset o =>
    by_cases hi : index < 4
    · exact if_neg fun hk => h ⟨hi, hk⟩
    · simp [calItem?, four?_eq_none (Nat.not_lt.1 hi)]
  | strokeVolume v =>
    by_cases hi : index < 8
    · exact if_neg fun hk => h ⟨hi, hk⟩
    · simp [calItem?, eight?_eq_none (Nat.not_lt.1 hi)]
  | other kind => rfl

/-! ### The owner of CAL-WRITE -/

section Unsealed

variable {index : Nat} {x : CalValueArg}

theorem ownCalWrite_isSealed (h : s.sealState = .isSealed) : ownCalWrite index x s = refuse .isSealed s :=
  if_pos (by rw [h]; nofun)

theorem ownCalWrite_loadOpen (h : s.sealState = .isOpen) (hl : s.load.isSome = true) :
    ownCalWrite index x s = refuse .loadOpen s :=
  (if_neg (not_not.2 h)).trans (if_pos hl)

theorem ownCalWrite_counterFull (h : s.sealState = .isOpen) (hl : s.load = none) (hc : s.cal.cec = 65535) :
    ownCalWrite index x s = refuse .counterFull s := by
  simp [ownCalWrite, h, hl, hc]

/-- CAL-WRITE under an open seal, with no load open and a counter that can rise (R143). -/
theorem ownCalWrite_unsealed (h : s.sealState = .isOpen) (hl : s.load = none) (hc : s.cal.cec < 65535) :
    ownCalWrite index x s
      = match calItem? index x with
        | none => refuse .badArgument s
        | some i =>
          if !s.hasPlace then refuse .busy s
          else reply .accepted (.cec (s.cal.cec + 1)) (s.calibrate i) := by
  have hc : ¬ 65535 ≤ s.cal.cec := by omega
  simp only [ownCalWrite, h, hl, ne_eq, not_true, if_false, Option.isSome_none, Bool.false_eq_true, if_neg hc] <;> rfl

/-- The row of an accepted CAL-WRITE (R144). -/
theorem exec_calWrite_accepted {w : Win} {i : CalItem} (hw : w.port = .tp) (hrun : s.phase = .running)
    (hq : s.queue.length < 8) (h : s.sealState = .isOpen) (hl : s.load = none) (hc : s.cal.cec < 65535)
    (hi : calItem? index x = some i) :
    exec (.calWrite w index x) s
      = .next (((s.seen .calWrite w).calibrate i).answered w .accepted (.cec (s.cal.cec + 1))) := by
  refine exec_answers rfl rfl hrun (by rw [hw]; rfl) ((ownCalWrite_unsealed (s := s.seen .calWrite w) h hl hc).trans ?_)
  rw [hi]
  refine if_neg ?_
  rw [State.seen_hasPlace, State.hasPlace_of_length hrun hq]; exact Bool.false_ne_true

end Unsealed

/-- Settles O22: the item that each row's operands name, and what replacing it changes. -/
theorem calWriteAccepted : Obligations.CalWriteAccepted := by
  intro g body tail s hrun hq hseal hl hc w v
  refine ⟨fun m x h1 h2 => ?_, fun m c hlen hp hr => ?_, fun p o h1 h2 => ?_, fun j x h1 h2 => ?_⟩
  · exact exec_calWrite_accepted (i := .meterConstant m x) rfl hrun hq hseal hl hc
      ((if_pos ⟨h1, h2⟩).trans (by rw [four?_val]; rfl))
  · refine exec_calWrite_accepted (i := .factorCurve m c) rfl hrun hq hseal hl hc ((if_neg (by simp)).trans ?_)
    rw [four?_val, curve?_of_good hlen hr hp]
  · exact exec_calWrite_accepted (i := .probeOffset p o) rfl hrun hq hseal hl hc
      ((if_pos ⟨h1, h2⟩).trans (by rw [four?_val]; rfl))
  · exact exec_calWrite_accepted (i := .strokeVolume j x) rfl hrun hq hseal hl hc
      ((if_pos ⟨h1, h2⟩).trans (by rw [eight?_val]; rfl))

/-! ### The seal input -/

theorem exec_sealInputChange {active : Bool} (h : s.phase ≠ .held) :
    exec (.sealInputChange active) s = .next (s.sealChange active) := by
  cases hp : s.phase <;> simp_all [exec, execSealInputChange]

theorem sealOf_number (active : Bool) : w32 (sealOf active).number = if active then 0 else 1 := by cases active <;> rfl

/-- Settles O23: the seal by its level as it stands, CAL-WRITE by the cases of its owner in their order. -/
theorem calWriteNeedsOpenSeal : Obligations.CalWriteNeedsOpenSeal := by
  intro g body tail index x active s w level inRange
  refine ⟨fun h hs => ?same, fun h hs => ?changed, fun h hs => ?powerDown, fun hrun => ⟨fun hs => ?_, fun hs hl => ?_,
    fun hs hl hc => ?_, fun hs hl hc => ⟨fun hbad => ?bad, fun hgood hq => ?busy⟩⟩⟩
  case same =>
    rw [exec_sealInputChange h]
    exact congrArg _ (if_pos hs)
  case changed =>
    have hs : ¬ s.sealState = sealOf active := hs
    rw [exec_sealInputChange (by rw [h]; nofun)]
    simp only [State.sealChange, if_neg hs, h, reduceCtorEq, if_false, sealOf_number]
    rfl
  case powerDown =>
    have hs : ¬ s.sealState = sealOf active := hs
    rw [exec_sealInputChange (by rw [h]; nofun)]
    simp only [State.sealChange, if_neg hs, h, if_true]
    rfl
  · exact exec_answers rfl rfl hrun rfl (ownCalWrite_isSealed hs)
  · exact exec_answers rfl rfl hrun rfl (ownCalWrite_loadOpen hs hl)
  · exact exec_answers rfl rfl hrun rfl (ownCalWrite_counterFull hs hl hc)
  case bad =>
    have hbad : ¬ CalArgGood index x := fun h => hbad (by cases x <;> exact h)
    refine exec_answers rfl rfl hrun rfl ((ownCalWrite_unsealed (s := s.seen .calWrite w) hs hl hc).trans ?_)
    rw [calItem?_of_bad hbad]
    rfl
  case busy =>
    have hgood : CalArgGood index x := by cases x <;> exact hgood
    obtain ⟨i, hi⟩ := calItem?_of_good hgood
    refine exec_answers rfl rfl hrun rfl ((ownCalWrite_unsealed (s := s.seen .calWrite w) hs hl hc).trans ?_)
    rw [hi]
    refine if_pos ?_
    rw [State.seen_hasPlace, State.not_hasPlace_of_length hq]; rfl

end Sys2Proof.Machine
end

section
/-! PROOFS. ORDER-LINE, ORDER-BEGIN and ORDER-CANCEL (R3 to R7): which lines ORDER-LINE admits, when it completes the staging
buffer, what each owner replies in each case, and the rows built from them. -/

namespace Sys2Proof.Machine

variable {s : State}

/-! ### The lines that ORDER-LINE admits (R4) -/

/-- The operands of ORDER-LINE that spell a line (R188). -/
def OrderLine.arg (line : OrderLine) : LineArg :=
  ⟨line.compartment, line.arm.val, line.product.val, line.preset, if line.basis = .gross then 0 else 1, line.recipe⟩

/-- The fields of a line that ORDER-LINE admits (R4). -/
structure State.LineGood (s : State) (a : LineArg) : Prop where
  compartment : 1 ≤ a.compartment ∧ a.compartment ≤ 8
  preset : 1 ≤ a.preset ∧ a.preset ≤ 50000
  arm : a.arm < 4
  basis : a.basis ≤ 1
  product : ∃ p : Fin 16, p.val = a.product ∧ s.products[p].defined = true
  recipe : s.recipeUsable a.recipe = true

/-- The window of a request moves no table that a line is judged by. -/
theorem State.LineGood.seen {a : LineArg} (h : s.LineGood a) (c : ReqCode) (w : Win) : (s.seen c w).LineGood a :=
  ⟨h.compartment, h.preset, h.arm, h.basis, h.product, h.recipe⟩

/-- A recipe that a line may name: none, or a defined entry (R4). -/
theorem State.recipeUsable_iff {n : Nat} :
    s.recipeUsable n = true ↔ n = 0 ∨ ∃ r : Fin 16, n = r.val + 1 ∧ s.recipes[r].defined = true := by
  by_cases h0 : n = 0
  · simp [State.recipeUsable, h0]
  by_cases h16 : n ≤ 16
  · obtain ⟨r, rfl⟩ : ∃ r : Fin 16, n = r.val + 1 := ⟨⟨n - 1, by omega⟩, (Nat.succ_pred h0).symm⟩
    simp only [State.recipeUsable, h0, if_false, recipeIndex?_succ, false_or, Nat.add_right_cancel_iff]
    exact ⟨fun h => ⟨r, rfl, h⟩, fun ⟨q, hq, h⟩ => by rwa [Fin.ext hq]⟩
  · simp only [State.recipeUsable, h0, if_false, recipeIndex?_eq_none (.inr (Nat.not_le.1 h16)), false_or, Bool.false_eq_true,
      false_iff, not_exists]
    rintro r ⟨hr, -⟩
    have := r.isLt
    omega

theorem basisOf?_arg (b : Basis) : basisOf? (if b = .gross then 0 else 1) = some b := by cases b <;> rfl

theorem basisOf?_le {n : Nat} {b : Basis} (h : basisOf? n = some b) : n ≤ 1 := by
  match n, h with
  | 0, _ => exact Nat.zero_le 1
  | 1, _ => exact Nat.le_refl 1

theorem State.line?_of_good {line : OrderLine} (h : s.LineGood line.arg) : s.line? line.arg = some line := by
  obtain ⟨⟨hc1, hc8⟩, ⟨hp1, hp2⟩, -, -, ⟨p, hp, hd⟩, hr⟩ := h
  obtain rfl : p = line.product := Fin.ext hp
  simp only [State.line?, OrderLine.arg, four?_val, sixteen?_val, basisOf?_arg]
  exact if_pos ⟨hc1, hc8, hp1, hp2, hd, hr⟩

theorem State.line?_good {a : LineArg} {line : OrderLine} (h : s.line? a = some line) :
    s.LineGood a ∧ line.compartment = a.compartment := by
  unfold State.line? at h
  split at h
  · rename_i arm product basis ha hp hb
    split at h
    · rename_i hg
      obtain ⟨hc1, hc8, hp1, hp2, hd, hr⟩ := hg
      cases h
      have harm : a.arm < 4 := by rw [← four?_eq_some_iff.1 ha]; exact arm.isLt
      have hprod : product.val = a.product := by
        unfold sixteen? at hp; split at hp <;> cases hp; rfl
      exact ⟨⟨⟨hc1, hc8⟩, ⟨hp1, hp2⟩, harm, basisOf?_le hb, ⟨product, hprod, hd⟩, hr⟩, rfl⟩
    · cases h
  · cases h

/-- The compartment of a line is that of a line received at another place (R4). -/
theorem compartmentTaken_iff {n i : Nat} {lines : List (Option OrderLine)} :
    compartmentTaken n i lines = true ↔ ∃ j l, lines[j]? = some (some l) ∧ j ≠ i ∧ l.compartment = n := by
  simp only [compartmentTaken, List.any_eq_true, List.mem_iff_getElem?, List.getElem?_set]
  constructor
  · rintro ⟨x, ⟨j, hj⟩, hx⟩
    match x, hx with
    | some l, hx =>
      split at hj
      · split at hj <;> simp at hj
      · exact ⟨j, l, hj, by omega, by simpa using hx⟩
  · rintro ⟨j, l, hj, hne, hc⟩
    exact ⟨some l, ⟨j, by rw [if_neg (by omega)]; exact hj⟩, by simpa using hc⟩

/-! ### ORDER-LINE -/

theorem ownOrderLine_without_staging {i : Nat} {a : LineArg} (h : s.staging = none) : ownOrderLine i a s = refuse .state s := by
  simp only [ownOrderLine, h]

/-- An index outside the order, or the compartment of a line received at another index (R4). -/
def Staging.Misplaced (g : Staging) (i compartment : Nat) : Prop :=
  i < 1 ∨ g.lines.length < i ∨ ∃ j l, g.lines[j]? = some (some l) ∧ j + 1 ≠ i ∧ l.compartment = compartment

theorem Staging.misplaced_iff {g : Staging} {i n : Nat} :
    (i < 1 ∨ g.lines.length < i ∨ compartmentTaken n (i - 1) g.lines = true) ↔ g.Misplaced i n := by
  by_cases hi : i < 1
  · exact ⟨fun _ => .inl hi, fun _ => .inl hi⟩
  · have off (j : Nat) : j ≠ i - 1 ↔ j + 1 ≠ i := by omega
    simp only [compartmentTaken_iff, off]
    rfl

theorem ownOrderLine_badArgument {i : Nat} {a : LineArg} {g : Staging} (hg : s.staging = some g)
    (h : ¬ s.LineGood a ∨ g.Misplaced i a.compartment) : ownOrderLine i a s = refuse .badArgument s := by
  simp only [ownOrderLine, hg]
  split
  · rfl
  · rename_i line hl
    obtain ⟨hgood, hc⟩ := State.line?_good hl
    refine if_pos (Staging.misplaced_iff.2 ?_)
    rw [hc]
    exact h.resolve_left (not_not.2 hgood)

/-- ORDER-LINE of an admitted line (R4). -/
theorem ownOrderLine_of_good {i : Nat} {line : OrderLine} {g : Staging} (hg : s.staging = some g) (h : s.LineGood line.arg)
    (hi : ¬ g.Misplaced i line.compartment) :
    ownOrderLine i line.arg s
      = if (g.lines.set (i - 1) (some line)).all Option.isSome then
          s.postStaged { g with lines := g.lines.set (i - 1) (some line) }
        else reply .ok .none { s with staging := some { g with lines := g.lines.set (i - 1) (some line) } } := by
  simp only [ownOrderLine, hg, State.line?_of_good h]
  exact if_neg (mt Staging.misplaced_iff.1 hi)

/-- Settles O24: the fields by `LineGood`, the index by `Misplaced`, and a line still missing by its place. -/
theorem orderLineStored : Obligations.OrderLineStored := by
  intro n body tail i a s hrun w refused
  refine ⟨fun h => exec_answers rfl rfl hrun rfl (ownOrderLine_without_staging h), ?_⟩
  intro g hg bad
  have good_of (h : ¬ bad) : s.LineGood a ∧ ¬ g.Misplaced i a.compartment := by
    simp only [bad, not_or, not_lt, not_le] at h
    obtain ⟨hi1, hi2, hc1, hc2, hp1, hp2, ha, hb, hp, hr, hprod, hrec, hpl⟩ := h
    refine ⟨⟨⟨hc1, hc2⟩, ⟨hp1, hp2⟩, ha, hb, ⟨⟨a.product, hp⟩, rfl, ?_⟩, State.recipeUsable_iff.2 ?_⟩, ?_⟩
    · exact Bool.eq_true_of_not_eq_false fun hd => hprod ⟨⟨a.product, hp⟩, rfl, hd⟩
    · by_cases h0 : a.recipe = 0
      · exact .inl h0
      · have hn : a.recipe - 1 + 1 = a.recipe := Nat.sub_add_cancel (Nat.pos_of_ne_zero h0)
        exact .inr ⟨⟨a.recipe - 1, by omega⟩, hn.symm, Bool.eq_true_of_not_eq_false fun hd => hrec ⟨_, hn, hd⟩⟩
    · rintro (h | h | h)
      · omega
      · omega
      · exact hpl h
  have bad_of (h : bad) : ¬ s.LineGood a ∨ g.Misplaced i a.compartment := by
    by_contra hn
    obtain ⟨hgood, hm⟩ := not_or.1 hn
    obtain ⟨⟨hc1, hc8⟩, ⟨hp1, hp2⟩, ha, hb, ⟨p, hp, hd⟩, hr⟩ := not_not.1 hgood
    have hm1 : ¬ i < 1 := fun h => hm (.inl h)
    have hm2 : ¬ g.lines.length < i := fun h => hm (.inr (.inl h))
    have hp16 := p.isLt
    rcases h with h | h | h | h | h | h | h | h | h | h | ⟨q, hq, h⟩ | ⟨r, hr', h⟩ | h
    · exact hm1 h
    · exact hm2 h
    · omega
    · omega
    · omega
    · omega
    · omega
    · omega
    · omega
    · rcases State.recipeUsable_iff.1 hr with h0 | ⟨r, hr', -⟩
      · omega
      · have := r.isLt; omega
    · rw [Fin.ext (hq.trans hp.symm)] at h
      exact absurd hd (by rw [h]; exact Bool.false_ne_true)
    · rcases State.recipeUsable_iff.1 hr with h0 | ⟨q, hq, hdef⟩
      · omega
      · rw [Fin.ext (Nat.add_right_cancel (hr'.trans hq))] at h
        exact absurd hdef (by rw [h]; exact Bool.false_ne_true)
    · exact hm (.inr (.inr h))
  refine ⟨fun h => exec_answers rfl rfl hrun rfl (ownOrderLine_badArgument (s := s.seen .orderLine w) hg
      ((bad_of h).imp_left fun hn hg => hn ⟨hg.compartment, hg.preset, hg.arm, hg.basis, hg.product, hg.recipe⟩)),
    fun line hline h hmissing => ?_⟩
  obtain ⟨hgood, hplace⟩ := good_of h
  have hline : a = line.arg := hline
  subst hline
  refine exec_answers rfl rfl hrun rfl ((ownOrderLine_of_good (s := s.seen .orderLine w) hg (hgood.seen _ _) hplace).trans (if_neg ?_))
  obtain ⟨j, hj, hji, hnone⟩ := hmissing
  simp only [List.all_eq_true, not_forall]
  have hoff : i - 1 ≠ j := fun hij => hplace (.inl (by omega))
  exact ⟨none, List.mem_of_getElem? (by rw [List.getElem?_set_ne hoff]; exact hnone), by simp⟩

/-! ### Posting the order (R5) -/

/-- A line names a product and a recipe that are still defined (R5). -/
def State.lineUsable (s : State) (l : OrderLine) : Bool := s.products[l.product].defined && s.recipeUsable l.recipe

theorem State.lineUsable_iff {l : OrderLine} :
    s.lineUsable l = true ↔ s.products[l.product].defined = true
      ∧ (l.recipe = 0 ∨ ∃ r : Fin 16, l.recipe = r.val + 1 ∧ s.recipes[r].defined = true) := by
  rw [State.lineUsable, Bool.and_eq_true, State.recipeUsable_iff]

theorem State.undefinedLine?_first {k i : Nat} {ls : List OrderLine} (hk : ∃ l, ls[k]? = some l ∧ s.lineUsable l = false)
    (hb : ∀ j l, j < k → ls[j]? = some l → s.lineUsable l = true) : s.undefinedLine? i ls = some (i + k) := by
  induction ls generalizing i k with
  | nil => obtain ⟨l, hl, -⟩ := hk; simp at hl
  | cons x rest ih =>
    cases k with
    | zero =>
      obtain ⟨l, hl, hu⟩ := hk
      obtain rfl : x = l := by simpa using hl
      exact if_neg (by rw [show (s.products[x.product].defined && s.recipeUsable x.recipe) = false from hu]; exact Bool.false_ne_true)
    | succ k =>
      have hx : s.lineUsable x = true := hb 0 x (Nat.succ_pos k) rfl
      have hrest := ih (i := i + 1) (k := k) (by simpa using hk) fun j l hj hl => hb (j + 1) l (Nat.succ_lt_succ hj) (by simpa using hl)
      rw [show i + (k + 1) = i + 1 + k by omega, ← hrest]
      exact if_pos hx

theorem State.undefinedLine?_none {i : Nat} {ls : List OrderLine} (h : ∀ l ∈ ls, s.lineUsable l = true) :
    s.undefinedLine? i ls = none := by
  induction ls generalizing i with
  | nil => rfl
  | cons x rest ih =>
    rw [← ih (i := i + 1) fun l hl => h l (by simp [hl])]
    exact if_pos (h x (by simp))

/-- A staging buffer that is complete holds a line at every place. -/
theorem eq_map_some_of_all_isSome {lines : List (Option OrderLine)} (h : lines.all Option.isSome = true) :
    lines = (lines.filterMap id).map some := by
  induction lines with
  | nil => rfl
  | cons x rest ih =>
    rw [List.all_cons, Bool.and_eq_true] at h
    obtain ⟨l, rfl⟩ := Option.isSome_iff_exists.1 h.1
    simpa using ih h.2

/-- What posting a complete staging buffer does where every line is usable (R5). -/
theorem State.postStaged_usable {g : Staging} (h : ∀ l ∈ g.lines.filterMap id, s.lineUsable l = true) :
    s.postStaged g
      = if 16 ≤ s.orders.length then refuse .full { s with staging := some g }
        else
          let o : Order := ⟨g.number, g.binding, g.carrier, g.lines.filterMap id⟩
          reply .ok .none
            (({ s with staging := none, orders := s.orders ++ [o], context := s.context.map (Context.joined o) } : State).post
              .orderPosted .none 0 (w32 g.number)) := by
  simp only [State.postStaged, State.undefinedLine?_none h]

/-- Settles O25: the line completes the buffer, whose places then all hold a line; the outcome is that of the first line that
names what is no longer defined, or of the order queue's length. -/
theorem orderPosted : Obligations.OrderPosted := by
  intro n body tail i g line s hrun hg hi hothers hc1 hc8 hp1 hp2 hprod hrec w lines usable answer
  have hgood : s.LineGood line.arg := by
    refine ⟨⟨hc1, hc8⟩, ⟨hp1, hp2⟩, line.arm.isLt, ?_, ⟨line.product, rfl, hprod⟩, State.recipeUsable_iff.2 hrec⟩
    simp only [OrderLine.arg]; split <;> decide
  have hplace : ¬ g.Misplaced (i + 1) line.compartment := by
    rintro (h | h | ⟨j, l, hj, hji, hl⟩)
    · omega
    · omega
    · obtain ⟨hlt, -⟩ := List.getElem?_eq_some_iff.1 hj
      obtain ⟨l', hl', hne⟩ := hothers j hlt (by omega)
      rw [hj] at hl'
      cases hl'
      exact hne hl
  have hall : lines.all Option.isSome = true := by
    rw [List.all_eq_true]
    intro x hx
    obtain ⟨j, hj⟩ := List.mem_iff_getElem?.1 hx
    obtain ⟨hlt, -⟩ := List.getElem?_eq_some_iff.1 hj
    rw [List.length_set] at hlt
    by_cases hji : i = j
    · subst hji
      rw [List.getElem?_set_self hlt] at hj
      cases hj; rfl
    · obtain ⟨l, hl, -⟩ := hothers j hlt (Ne.symm hji)
      rw [List.getElem?_set_ne hji, hl] at hj
      cases hj; rfl
  have hmap := eq_map_some_of_all_isSome hall
  have at_place (k : Nat) (l : OrderLine) : lines[k]? = some (some l) ↔ (lines.filterMap id)[k]? = some l := by
    conv_lhs => rw [hmap]
    simp
  have answered {status : Status} {payload : Payload} {t : State}
      (h : (s.seen .orderLine w).postStaged { g with lines := lines } = (t, { status, payload })) : answer status payload t :=
    exec_answers rfl rfl hrun rfl ((ownOrderLine_of_good (s := s.seen .orderLine w) hg (hgood.seen _ _) hplace).trans ((if_pos hall).trans h))
  have use (k : Nat) (l : OrderLine) (hl : lines[k]? = some (some l)) (hu : usable k) :
      (s.seen .orderLine w).lineUsable l = true := State.lineUsable_iff.2 (hu l hl)
  refine ⟨fun k hk hnot hb => ?undefined, fun husable => ?posted⟩
  case undefined =>
    obtain ⟨l, hl, hnu⟩ : ∃ l, lines[k]? = some (some l) ∧ (s.seen .orderLine w).lineUsable l = false := by
      simp only [usable, not_forall] at hnot
      obtain ⟨l, hl, hnu⟩ := hnot
      exact ⟨l, hl, Bool.eq_false_iff.2 fun h => hnu (State.lineUsable_iff.1 h)⟩
    have hfirst := State.undefinedLine?_first (s := s.seen .orderLine w) (i := 1) (k := k) (ls := lines.filterMap id)
      ⟨l, (at_place k l).1 hl, hnu⟩ fun j l hj hl => use j l ((at_place j l).2 hl) (hb j hj)
    refine answered ?_
    simp only [State.postStaged, hfirst, Nat.add_comm 1 k]
    rfl
  case posted =>
    have hu : ∀ l ∈ lines.filterMap id, (s.seen .orderLine w).lineUsable l = true := by
      intro l hl
      obtain ⟨k, hk⟩ := List.mem_iff_getElem?.1 hl
      have hk := (at_place k l).2 hk
      exact use k l hk (husable k (List.getElem?_eq_some_iff.1 hk).1)
    have hpost := State.postStaged_usable (s := s.seen .orderLine w) (g := { g with lines := lines }) hu
    exact ⟨fun h => answered (hpost.trans (if_pos h)), fun h => answered (hpost.trans (if_neg (Nat.not_le.2 h)))⟩

/-! ### ORDER-BEGIN and ORDER-CANCEL -/

theorem State.isQueued_iff {n : Nat} : s.isQueued n = true ↔ ∃ o ∈ s.orders, o.number = n := by simp [State.isQueued]

theorem State.loadNumber?_iff {n : Nat} : s.loadNumber? = some n ↔ ∃ l, s.load = some l ∧ l.number = n := by
  simp [State.loadNumber?]

/-- Settles O26: the cases of each owner in their order. -/
theorem ordersBegunAndCancelled : Obligations.OrdersBegunAndCancelled := by
  intro g body tail number s hrun w queued loaded
  refine ⟨?begin, fun hq => ?_, fun hq hs => ?_, fun hq hs => ⟨fun hl => ?_, fun hl => ?_⟩⟩
  case begin =>
    intro count binding carrier bad refused
    have outOfRange : (number < 1 ∨ 999999 < number ∨ binding = some 0 ∨ binding.any (2 ^ 32 ≤ ·) = true ∨ carrier = some 0
        ∨ carrier.any (65535 < ·) = true ∨ count < 1 ∨ 8 < count) ↔ bad := by
      simp only [bad, Option.any_eq_true, decide_eq_true_eq]
    refine ⟨fun h => exec_answers rfl rfl hrun rfl (if_pos (outOfRange.2 h)), fun h => ?_⟩
    have h := mt outOfRange.1 h
    have answer {t : State} {r : Reply} (ho : (if (s.seen .orderBegin w).isQueued number = true
          ∨ (s.seen .orderBegin w).loadNumber? = some number then refuse .duplicate (s.seen .orderBegin w)
        else if 16 ≤ s.orders.length then refuse .full (s.seen .orderBegin w)
        else reply .ok .none { s.seen .orderBegin w with
          staging := some ⟨number, binding, carrier, List.replicate count none⟩ }) = (t, r)) :
        exec (.orderBegin w number binding carrier count) s = .next (t.answered w r.status r.payload) :=
      exec_answers rfl rfl hrun rfl ((if_neg h).trans ho)
    have held : ((s.seen .orderBegin w).isQueued number = true ∨ (s.seen .orderBegin w).loadNumber? = some number)
        ↔ queued ∨ loaded := or_congr State.isQueued_iff State.loadNumber?_iff
    refine ⟨fun hh => answer (if_pos (held.2 hh)), fun hnq hnl => ?_⟩
    have hn := mt held.1 (not_or.2 ⟨hnq, hnl⟩)
    exact ⟨fun hf => answer ((if_neg hn).trans (if_pos hf)),
      fun hf => answer ((if_neg hn).trans (if_neg (Nat.not_le.2 hf)))⟩
  · exact exec_answers rfl rfl hrun rfl (if_pos (State.isQueued_iff.2 hq))
  · obtain ⟨o, ho, hn⟩ := hs
    refine exec_answers rfl rfl hrun rfl ((if_neg (mt State.isQueued_iff.1 hq)).trans (if_pos ?_))
    exact Option.map_eq_some_iff.2 ⟨o, ho, hn⟩
  all_goals
    have hs : ¬ (s.seen .orderCancel w).staging.map Staging.number = some number := fun h =>
      let ⟨o, ho, hn⟩ := Option.map_eq_some_iff.1 h
      hs o ho hn
  · exact exec_answers rfl rfl hrun rfl
      ((if_neg (mt State.isQueued_iff.1 hq)).trans ((if_neg hs).trans (if_pos (State.loadNumber?_iff.2 hl))))
  · exact exec_answers rfl rfl hrun rfl
      ((if_neg (mt State.isQueued_iff.1 hq)).trans ((if_neg hs).trans (if_neg (mt State.loadNumber?_iff.1 hl))))

end Sys2Proof.Machine
end

section
/-! PROOFS. The permit unit (R25 to R35): the permit table, the clock and the care mask, the nine checks of a card and the context,
by what each owner replies in each case. -/

namespace Sys2Proof.Machine

variable {s : State}

/-! ### The permit table -/

theorem State.permit?_eq_none {card : Nat} : s.permit? card = none ↔ ∀ e ∈ s.permits, e.content.card ≠ card := by
  simp [State.permit?]

/-- The fields of a permit that PERMIT-PUT admits (table 2.2.1). -/
theorem permitContent?_of_bad {a : PermitArg}
    (h : a.card = 0 ∨ 2 ^ 32 ≤ a.card ∨ a.carrier = some 0 ∨ (∃ k, a.carrier = some k ∧ 65535 < k) ∨ 65535 < a.expiry
      ∨ 255 < a.loads ∨ 1 < a.state) : permitContent? a = none := by
  refine if_pos ?_
  rwa [Option.any_eq_true, exists_congr fun k => and_congr_right fun _ => decide_eq_true_iff]

theorem permitContent?_of_good {a : PermitArg}
    (h : ¬ (a.card = 0 ∨ 2 ^ 32 ≤ a.card ∨ a.carrier = some 0 ∨ (∃ k, a.carrier = some k ∧ 65535 < k) ∨ 65535 < a.expiry
      ∨ 255 < a.loads ∨ 1 < a.state)) :
    permitContent? a
      = some ⟨a.card, a.carrier, a.quals, a.expiry, a.loads, if a.state = 0 then .active else .blocked⟩ := by
  refine if_neg ?_
  rwa [Option.any_eq_true, exists_congr fun k => and_congr_right fun _ => decide_eq_true_iff]

theorem State.setPermit_busy {e : PermitEntry} (h : s.hasPlace = false) : s.setPermit e = refuse .busy s :=
  if_pos (by rw [h]; rfl)

/-- An entry's content is replaced under its card, and its permit record queued (R27). -/
theorem State.setPermit_accepted {e : PermitEntry} (h : s.hasPlace = true) :
    s.setPermit e = reply .accepted .none { s with
      permits := s.permits.map fun x => if x.content.card = e.content.card then e else x
      queue := s.queue ++ [.permit e.content.card (some e) true] } :=
  if_neg (by rw [h]; exact Bool.false_ne_true)

/-! ### PERMIT-PUT -/

section Put

variable {a : PermitArg} {c : PermitContent}

theorem ownPermitPut_badArgument (h : permitContent? a = none) : ownPermitPut a s = refuse .badArgument s := by
  simp only [ownPermitPut, h]

theorem ownPermitPut_full (h : permitContent? a = some c) (hn : s.permit? c.card = none) (hf : 64 ≤ s.permits.length) :
    ownPermitPut a s = refuse .full s := by
  simp only [ownPermitPut, h, hn, if_pos hf]

theorem ownPermitPut_busy (h : permitContent? a = some c) (hf : s.permit? c.card = none → s.permits.length < 64)
    (hp : s.hasPlace = false) : ownPermitPut a s = refuse .busy s := by
  cases hc : s.permit? c.card with
  | none => simp [ownPermitPut, h, hc, Nat.not_le.2 (hf hc), hp]
  | some e => cases he : e.inUse <;> simp [ownPermitPut, h, hc, he, State.setPermit_busy hp]

theorem ownPermitPut_added (h : permitContent? a = some c) (hn : s.permit? c.card = none) (hf : s.permits.length < 64)
    (hp : s.hasPlace = true) :
    ownPermitPut a s = reply .accepted .none { s with
      permits := s.permits ++ [⟨c, false, .none⟩]
      queue := s.queue ++ [.permit c.card (some ⟨c, false, .none⟩) true] } := by
  simp only [ownPermitPut, h, hn, if_neg (Nat.not_le.2 hf), hp, Bool.not_true, Bool.false_eq_true, if_false]
  rfl

theorem ownPermitPut_replaced {e : PermitEntry} (h : permitContent? a = some c) (he : s.permit? c.card = some e)
    (hu : e.inUse = false) (hp : s.hasPlace = true) :
    ownPermitPut a s = reply .accepted .none { s with
      permits := s.permits.map fun x => if x.content.card = c.card then ⟨c, false, .none⟩ else x
      queue := s.queue ++ [.permit c.card (some ⟨c, false, .none⟩) true] } := by
  simp only [ownPermitPut, h, he, hu, Bool.false_eq_true, if_false, State.setPermit_accepted hp]

theorem ownPermitPut_pending {e : PermitEntry} (h : permitContent? a = some c) (he : s.permit? c.card = some e)
    (hu : e.inUse = true) (hp : s.hasPlace = true) :
    ownPermitPut a s = reply .accepted .none { s with
      permits := s.permits.map fun x => if x.content.card = e.content.card then { e with action := .replace c } else x
      queue := s.queue ++ [.permit e.content.card (some { e with action := .replace c }) true] } := by
  simp only [ownPermitPut, h, he, hu, if_true, State.setPermit_accepted hp]

end Put

/-- Settles O28: the arguments out of range, the table full, no place, and the three ways in which an entry is put. -/
theorem permitPutAccepted : Obligations.PermitPutAccepted := by
  intro g body tail arg s hrun w v bad refused
  refine ⟨fun h => ?_, fun h hn hf => ?_, fun h hroom hq => ?_, fun c h hq harg => ?accepted⟩
  · exact exec_answers rfl rfl hrun rfl (ownPermitPut_badArgument (permitContent?_of_bad h))
  · exact exec_answers rfl rfl hrun rfl
      (ownPermitPut_full (s := v) (permitContent?_of_good h) (State.permit?_eq_none.2 hn) hf)
  · refine exec_answers rfl rfl hrun rfl (ownPermitPut_busy (s := v) (permitContent?_of_good h) (fun hn => ?_)
      (State.not_hasPlace_of_length hq))
    exact hroom.resolve_left fun ⟨e, he, hc⟩ => State.permit?_eq_none.1 hn e he hc
  case accepted =>
    have hp : v.hasPlace = true := State.hasPlace_of_length hrun hq
    have hc : permitContent? arg = some c := by
      rw [permitContent?_of_good h, harg]
      obtain ⟨card, carrier, quals, expiry, loads, state⟩ := c
      cases state <;> rfl
    exact ⟨fun hn hf => exec_answers rfl rfl hrun rfl (ownPermitPut_added (s := v) hc (State.permit?_eq_none.2 hn) hf hp),
      fun e he hu => exec_answers rfl rfl hrun rfl (ownPermitPut_replaced (s := v) hc he hu hp),
      fun e he hu => exec_answers rfl rfl hrun rfl (ownPermitPut_pending (s := v) hc he hu hp)⟩

/-! ### PERMIT-DELETE, PERMIT-BLOCK and PERMIT-UNBLOCK -/

section Change

variable {card : Nat} {e : PermitEntry}

theorem ownPermitDelete_notFound (h : s.permit? card = none) : ownPermitDelete card s = refuse .notFound s := by
  simp only [ownPermitDelete, h]

theorem ownPermitDelete_busy (h : s.permit? card = some e) (hp : s.hasPlace = false) :
    ownPermitDelete card s = refuse .busy s := by
  cases hu : e.inUse <;> simp [ownPermitDelete, h, hu, hp, State.setPermit_busy hp]

theorem ownPermitDelete_pending (h : s.permit? card = some e) (hu : e.inUse = true) (hp : s.hasPlace = true) :
    ownPermitDelete card s = reply .accepted .none { s with
      permits := s.permits.map fun x => if x.content.card = e.content.card then { e with action := .delete } else x
      queue := s.queue ++ [.permit e.content.card (some { e with action := .delete }) true] } := by
  simp only [ownPermitDelete, h, hu, if_true, State.setPermit_accepted hp]

/-- An entry not in use is removed; the context of its card, if one stands, is dropped (R29). -/
theorem ownPermitDelete_removed (h : s.permit? card = some e) (hu : e.inUse = false) (hp : s.hasPlace = true) :
    let t : State := { s with
      permits := s.permits.filter fun x => x.content.card != card
      queue := s.queue ++ [.permit card none true] }
    ownPermitDelete card s
      = reply .accepted .none (if s.context.map Context.card = some card then t.dropContext .deleted else t) := by
  simp only [ownPermitDelete, h, hu, hp, Bool.not_true, Bool.false_eq_true, if_false]
  rfl

theorem State.setPermitState_notFound {x : PermitState} (h : s.permit? card = none) :
    s.setPermitState card x = refuse .notFound s := by
  simp only [State.setPermitState, h]

theorem State.setPermitState_busy {x : PermitState} (h : s.permit? card = some e) (hp : s.hasPlace = false) :
    s.setPermitState card x = refuse .busy s := by
  simp only [State.setPermitState, h, State.setPermit_busy hp]

theorem State.setPermitState_accepted {x : PermitState} (h : s.permit? card = some e) (hp : s.hasPlace = true) :
    s.setPermitState card x = reply .accepted .none { s with
      permits := s.permits.map fun y =>
        if y.content.card = e.content.card then { e with content := { e.content with state := x } } else y
      queue := s.queue ++ [.permit e.content.card (some { e with content := { e.content with state := x } }) true] } := by
  simp only [State.setPermitState, h, State.setPermit_accepted hp]

end Change

theorem State.dropContext_eq {r : Reason} {x : Context} (h : s.context = some x) :
    s.dropContext r = State.post .authDropped .reason r.number (w32 x.card) { s with context := none } := by
  simp only [State.dropContext, h]

/-- Settles O29: the unknown card, no place, and each change of a known entry. -/
theorem permitChangesAccepted : Obligations.PermitChangesAccepted := by
  intro g body tail card s hrun w v
  refine ⟨fun h => ?unknown, fun e he hq => ?busy, fun e he hq => ?changed⟩
  case unknown =>
    have h {c : ReqCode} : (s.seen c w).permit? card = none := State.permit?_eq_none.2 h
    refine ⟨exec_answers rfl rfl hrun rfl (ownPermitDelete_notFound h),
      exec_answers rfl rfl hrun rfl (State.setPermitState_notFound h),
      exec_answers rfl rfl hrun rfl (State.setPermitState_notFound h), exec_answers rfl rfl hrun rfl ?_⟩
    simp only [ownerOf, ownPermitRead, h]
    rfl
  case busy =>
    have he {c : ReqCode} : (s.seen c w).permit? card = some e := he
    have hp {c : ReqCode} : (s.seen c w).hasPlace = false := State.not_hasPlace_of_length hq
    exact ⟨exec_answers rfl rfl hrun rfl (ownPermitDelete_busy he hp),
      exec_answers rfl rfl hrun rfl (State.setPermitState_busy he hp),
      exec_answers rfl rfl hrun rfl (State.setPermitState_busy he hp)⟩
  case changed =>
    have he {c : ReqCode} : (s.seen c w).permit? card = some e := he
    have hp {c : ReqCode} : (s.seen c w).hasPlace = true := State.hasPlace_of_length hrun hq
    refine ⟨fun hu hother => ?_, fun x hu hx hcard => ?_, fun hu => ?_, ?_, ?_⟩
    · refine exec_answers rfl rfl hrun rfl ((ownPermitDelete_removed he hu hp).trans ?_)
      rw [if_neg]
      · rfl
      · intro h
        obtain ⟨x, hx, hc⟩ := Option.map_eq_some_iff.1 h
        exact hother x hx hc
    · refine exec_answers rfl rfl hrun rfl ((ownPermitDelete_removed he hu hp).trans ?_)
      have hctx : (s.seen .permitDelete w).context.map Context.card = some card := Option.map_eq_some_iff.2 ⟨x, hx, hcard⟩
      rw [if_pos hctx]
      refine congrArg (reply .accepted .none) ((State.dropContext_eq (x := x) (by exact hx)).trans ?_)
      rw [hcard]
      rfl
    · exact exec_answers rfl rfl hrun rfl (ownPermitDelete_pending he hu hp)
    · exact exec_answers rfl rfl hrun rfl (State.setPermitState_accepted he hp)
    · exact exec_answers rfl rfl hrun rfl (State.setPermitState_accepted he hp)

/-! ### The bay clock and the care mask -/

theorem exec_bayClockSecond (h : s.phase ≠ .held) : exec .bayClockSecond s = .next { s with clock := s.clock.advance } := by
  cases hp : s.phase <;> simp_all [exec, execBayClockSecond]

/-- Settles O30: TIME-SET and CARE-MASK-SET by their owners, the second by whether the day ends. -/
theorem clockAndCareMask : Obligations.ClockAndCareMask := by
  intro g body tail s w
  refine ⟨fun day second hrun hd hs => ?_, fun day second hrun h => ?_, fun m hrun => exec_answers rfl rfl hrun rfl rfl,
    fun h hs => ?_, fun h hs hd => ?_, fun h hs hd => ?_⟩
  · exact exec_answers rfl rfl hrun rfl (if_neg (by omega))
  · exact exec_answers rfl rfl hrun rfl (if_pos h.symm)
  · rw [exec_bayClockSecond h, Clock.advance, if_pos hs]
  · rw [exec_bayClockSecond h, Clock.advance, if_neg (by omega), if_pos hd]
  · rw [exec_bayClockSecond h, Clock.advance, if_neg (by omega), if_neg (by omega)]

/-! ### The nine checks of a card (R33) -/

section Entry

variable {e : PermitEntry} {day : Nat}

theorem PermitEntry.refusal_blocked (h : e.content.state = .blocked) : e.refusal day = some .blocked := by
  simp [PermitEntry.refusal, h]

theorem PermitEntry.refusal_expired (h : e.content.state = .active) (hd : e.content.expiry < day) :
    e.refusal day = some .expired := by
  simp [PermitEntry.refusal, h, hd]

theorem PermitEntry.refusal_noLoads (h : e.content.state = .active) (hd : day ≤ e.content.expiry) (hl : e.content.loads = 0) :
    e.refusal day = some .noLoads := by
  simp [PermitEntry.refusal, h, Nat.not_lt.2 hd, hl]

theorem PermitEntry.refusal_none (h : e.content.state = .active) (hd : day ≤ e.content.expiry) (hl : 0 < e.content.loads) :
    e.refusal day = none := by
  simp [PermitEntry.refusal, h, Nat.not_lt.2 hd, Nat.pos_iff_ne_zero.1 hl]

end Entry

theorem State.freeSlot_eq_none : s.freeSlot = none ↔ ∀ i : Fin 8, s.slots[i].state ≠ .free := by
  simp only [State.freeSlot, List.find?_eq_none, beq_iff_eq]
  exact ⟨fun h i => h i (mem_eights i), fun h i _ => h i⟩

theorem State.freeSlot_isNone : s.freeSlot.isNone = true ↔ ∀ i : Fin 8, s.slots[i].state ≠ .free := by
  rw [Option.isNone_iff_eq_none, State.freeSlot_eq_none]

theorem State.eligible_isEmpty {card : Nat} :
    (s.eligible card).isEmpty = true ↔ ∀ o ∈ s.orders, o.binding ≠ none ∧ o.binding ≠ some card := by
  simp [State.eligible]

section Denial

variable {card : Nat}

theorem State.denied_timeNotSet (h : s.clock.isSet = false) : s.denied card = some .timeNotSet := by
  simp [State.denied, h]

theorem State.denied_bayBusy (h : s.clock.isSet = true) (hb : s.load.isSome = true ∨ s.context.isSome = true) :
    s.denied card = some .bayBusy := by
  simp [State.denied, h, hb]

theorem State.denied_esd (h : s.clock.isSet = true) (hl : s.load = none) (hx : s.context = none)
    (he : s.safety.esdLatch = true) : s.denied card = some .esd := by
  simp [State.denied, h, hl, hx, he]

theorem State.denied_unknown (h : s.clock.isSet = true) (hl : s.load = none) (hx : s.context = none)
    (he : s.safety.esdLatch = false) (hp : s.permit? card = none) : s.denied card = some .unknown := by
  simp [State.denied, h, hl, hx, he, hp]

theorem State.denied_refusal {e : PermitEntry} {r : Reason} (h : s.clock.isSet = true) (hl : s.load = none)
    (hx : s.context = none) (he : s.safety.esdLatch = false) (hp : s.permit? card = some e)
    (hr : e.refusal s.clock.day = some r) : s.denied card = some r := by
  simp [State.denied, h, hl, hx, he, hp, hr]

/-- The last two checks, of a slot and of an order, for a permit that opens a load (R33). -/
theorem State.denied_last {e : PermitEntry} (h : s.clock.isSet = true) (hl : s.load = none) (hx : s.context = none)
    (he : s.safety.esdLatch = false) (hp : s.permit? card = some e) (hr : e.refusal s.clock.day = none) :
    s.denied card
      = if (s.freeSlot.isNone || s.serial == 4294967295) = true then some .notesFull
        else if (s.eligible card).isEmpty = true then some .noOrder else none := by
  simp only [State.denied, h, hl, hx, he, hp, hr, Bool.not_true, Option.isSome_none, Bool.or_self, Bool.false_eq_true, if_false]

theorem ownCardPresent_denied {r : Reason} (h : s.denied card = some r) :
    ownCardPresent card s = refuseWith r.status (.reason r) (s.post .authDenied .reason r.number (w32 card)) := by
  simp only [ownCardPresent, h]

end Denial

/-- Settles O31: the card passes the nine checks. -/
theorem cardGranted : Obligations.CardGranted := by
  intro g body tail e s hrun hset hl hx hesd he hactive hday hloads hslot hserial hord w list
  have hnone : (s.seen .cardPresent w).denied e.content.card = none := by
    refine (State.denied_last (s := s.seen .cardPresent w) hset hl hx hesd he
      (PermitEntry.refusal_none hactive hday hloads)).trans ((if_neg ?_).trans (if_neg ?_))
    · rw [Bool.or_eq_true, State.freeSlot_isNone, beq_iff_eq, not_or]
      obtain ⟨i, hi⟩ := hslot
      exact ⟨fun h => h i hi, by rw [State.seen_serial]; omega⟩
    · rw [State.eligible_isEmpty]
      obtain ⟨o, ho, hb⟩ := hord
      exact fun h => hb.elim (h o ho).1 (h o ho).2
  have he : (s.seen .cardPresent w).permit? e.content.card = some e := he
  refine exec_answers rfl rfl hrun rfl ?_
  simp only [ownerOf, ownCardPresent, hnone, he, Option.bind_some]
  rfl

/-- Settles O32: check by check, in the order of R33. -/
theorem cardDeniedInOrder : Obligations.CardDeniedInOrder := by
  intro g body tail card s hrun w denied
  have deny {status : Status} {r : Reason} (hs : r.status = status) (h : (s.seen .cardPresent w).denied card = some r) :
      denied status r := by
    subst hs
    exact exec_answers rfl rfl hrun rfl (ownCardPresent_denied h)
  refine ⟨fun h => deny rfl (State.denied_timeNotSet h), fun h hb => deny rfl (State.denied_bayBusy h hb), fun h hl hx =>
    ⟨fun he => deny rfl (State.denied_esd h hl hx he), fun he => ⟨fun hp =>
      deny rfl (State.denied_unknown (s := s.seen .cardPresent w) h hl hx he (State.permit?_eq_none.2 hp)), fun e hp => ?_⟩⟩⟩
  have refusal {status : Status} {r : Reason} (hs : r.status = status) (hr : e.refusal s.clock.day = some r) :
      denied status r := deny hs (State.denied_refusal (s := s.seen .cardPresent w) h hl hx he hp hr)
  refine ⟨fun hb => refusal rfl (PermitEntry.refusal_blocked hb), fun ha hd => refusal rfl (PermitEntry.refusal_expired ha hd),
    fun ha hd hn => refusal rfl (PermitEntry.refusal_noLoads ha hd hn), fun ha hd hn => ?_⟩
  have last := State.denied_last (s := s.seen .cardPresent w) h hl hx he hp (PermitEntry.refusal_none ha hd hn)
  refine ⟨fun hfull => deny rfl (last.trans (if_pos ?_)), fun hslot hserial hnone =>
    deny rfl (last.trans ((if_neg ?_).trans (if_pos (State.eligible_isEmpty.2 hnone))))⟩
  · rw [Bool.or_eq_true, State.freeSlot_isNone, beq_iff_eq]; exact hfull
  · rw [Bool.or_eq_true, State.freeSlot_isNone, beq_iff_eq, not_or]
    obtain ⟨i, hi⟩ := hslot
    exact ⟨fun h => h i hi, by rw [State.seen_serial]; omega⟩

/-! ### The end of a context -/

/-- Settles O33: the context ends by request and by its timer. -/
theorem contextEnds : Obligations.ContextEnds := by
  intro g body tail s hrun w
  have hruns : s.timersRun = true := by simp [State.timersRun, hrun]
  refine ⟨fun hx => ?_, fun x hx => ⟨?_, fun ht => ?_, fun ht => ?_⟩⟩
  · refine exec_answers rfl rfl hrun rfl ?_
    simp only [ownerOf, ownCardWithdraw, State.seen_context, hx]
    rfl
  · refine exec_answers rfl rfl hrun rfl ?_
    have hx' : (s.seen .cardWithdraw w).context = some x := hx
    simp only [ownerOf, ownCardWithdraw, hx', State.dropContext_eq hx']
    rfl
  · simp only [exec, execContextTimerExpiry, hx, hruns, ht, and_self, if_true, State.dropContext_eq hx]
  · simp only [exec, execContextTimerExpiry, hx, ht, and_false, if_false]

end Sys2Proof.Machine
end

section
/-! PROOFS. The resets of the equipment (R86, R93, R110, R139, R140) and the two requests that turn on one test of the load,
COMPARTMENT-STOP and LOAD-RESUME (R16, R23), by what each owner replies in each case. -/

namespace Sys2Proof.Machine

variable {s : State}

theorem maskHas_eq (m : ArmMask) (a : Fin 4) : maskHas m a = m.getLsbD a.val := rfl

/-! ### ARM-CLEAR -/

theorem State.comp?_eq_some {n : Nat} {c : CompRecord} :
    s.comp? n = some c ↔ ∃ l, s.load = some l ∧ l.comp? n = some c := by
  rw [State.comp?, Option.bind_eq_some_iff]

/-- An arm that ARM-CLEAR cannot clear (R86). -/
theorem State.notClearable_iff {a : Fin 4} :
    s.notClearable a = true ↔ s.arms[a].state ≠ .idle ∧ s.arms[a].state ≠ .fault
      ∨ s.arms[a].state = .fault ∧ ∃ n l c, s.arms[a].served = some n ∧ s.load = some l ∧ l.comp? n = some c
        ∧ c.state = .closing := by
  unfold State.notClearable
  cases hs : s.arms[a].state with
  | fault =>
    cases hn : s.arms[a].served with
    | none => simp
    | some n =>
      cases hl : s.load with
      | none => simp [State.comp?, hl]
      | some l =>
        cases hc : l.comp? n <;> simp [State.comp?, hl, hc]
  | idle | priming | low | full | slowdown | closing => simp

/-- The bits of the mask of the arms that a test picks. -/
theorem armsWhere_getLsbD (p : Fin 4 → Bool) (i : Fin 8) :
    (armsWhere p).getLsbD i.val = [p 0, p 1, p 2, p 3].getD i.val false := by
  have all : ∀ b c d e : Bool, ∀ i : Fin 8,
      (BitVec.ofNat 8 (b.toNat + 2 * c.toNat + 4 * d.toNat + 8 * e.toNat)).getLsbD i.val = [b, c, d, e].getD i.val false := by
    decide
  exact all (p 0) (p 1) (p 2) (p 3) i

/-- A mask of A0 to A3 is known by its four bits. -/
theorem eq_armsWhere {named : ArmMask} {p : Fin 4 → Bool} (hlt : named.toNat < 16)
    (h : ∀ a : Fin 4, named.getLsbD a.val = p a) : named = armsWhere p := by
  refine BitVec.eq_of_getLsbD_eq fun i hi => ?_
  refine Eq.trans ?_ (armsWhere_getLsbD p ⟨i, hi⟩).symm
  match i, hi with
  | 0, _ => exact h 0
  | 1, _ => exact h 1
  | 2, _ => exact h 2
  | 3, _ => exact h 3
  | i + 4, _ =>
    have hpow : 2 ^ 4 ≤ 2 ^ (i + 4) := Nat.pow_le_pow_right (by decide) (by omega)
    rw [BitVec.getLsbD, Nat.testBit_lt_two_pow (by omega)]
    rfl

theorem fours_any {p : Fin 4 → Bool} : fours.any p = true ↔ ∃ a, p a = true := by
  simp only [List.any_eq_true]
  exact ⟨fun ⟨a, _, h⟩ => ⟨a, h⟩, fun ⟨a, h⟩ => ⟨a, mem_fours a, h⟩⟩

theorem ownArmClear_outOfRange {m : ArmMask} (h : 16 ≤ m.toNat) : ownArmClear m s = refuse .badArgument s :=
  if_pos (by simp [maskInRange, h])

theorem maskInRange_of_lt {m : ArmMask} (h : m.toNat < 16) : ¬ (!maskInRange m) = true := by simp [maskInRange, h]

theorem ownArmClear_refused {m : ArmMask} (h : m.toNat < 16) (hn : ∃ a, (maskHas m a && s.notClearable a) = true) :
    ownArmClear m s = refuseWith .state (.arms (armsWhere fun a => maskHas m a && s.notClearable a)) s :=
  (if_neg (maskInRange_of_lt h)).trans (if_pos (fours_any.2 hn))

theorem ownArmClear_cleared {m : ArmMask} (h : m.toNat < 16) (hn : ∀ a, (maskHas m a && s.notClearable a) = false) :
    ownArmClear m s = reply .ok .none (s.modifyArms m Arm.cleared) := by
  refine (if_neg (maskInRange_of_lt h)).trans (if_neg fun hany => ?_)
  obtain ⟨a, ha⟩ := fours_any.1 hany
  rw [hn a] at ha
  exact Bool.false_ne_true ha

/-- ARM-CLEAR at an arm in IDLE or FAULT (R86). -/
theorem Arm.cleared_eq {x : Arm} (h : x.state = .idle ∨ x.state = .fault) :
    x.cleared = { x with
      state := .idle, stray := 0, faultCause := if x.state = .fault then none else x.faultCause } := by
  obtain ⟨config, state⟩ := x
  rcases h with h | h <;> cases h <;> rfl

/-! ### PUMP-RESET, INJECTOR-RESET, METER-ERRORS and METER-CLEAR-DEBT -/

theorem ownPumpReset_eq (p : Fin 4) :
    ownPumpReset p.val s
      = if s.pumps[p].state ≠ .failed ∨ 0 < s.pumps[p].demand then refuse .state s
        else reply .ok .none (s.modifyPump p fun x => { x with state := .stopped, failKind := none }) := by
  simp only [ownPumpReset, four?_val]

theorem ownInjectorReset_eq (j : Fin 8) :
    ownInjectorReset j.val s
      = if s.injectors[j].state ≠ .fault then refuse .state s
        else reply .ok .none (s.modifyInjector j fun x => { x with
          consecutive := 0, owed := 0
          state := if s.boundLive j then .armed else .idle
          binding := if s.boundLive j then x.binding else none }) := by
  simp only [ownInjectorReset, eight?_val]

/-- The compartment that an injector is bound to is open (R110). -/
theorem State.boundLive_iff {j : Fin 8} :
    s.boundLive j = true ↔ ∃ b l c, s.injectors[j].binding = some b ∧ s.load = some l ∧ l.comp? b.compartment = some c
      ∧ c.state ≠ .done := by
  unfold State.boundLive
  cases hb : s.injectors[j].binding with
  | none => simp
  | some b =>
    cases hl : s.load with
    | none => simp [State.comp?, hl]
    | some l => cases hc : l.comp? b.compartment <;> simp [State.comp?, hl, hc]

theorem ownMeterClearDebt_eq (m : Fin 4) :
    ownMeterClearDebt m.val s
      = if s.arms[m].state ≠ .idle then refuse .state s
        else reply .ok (.debt s.meters[m].debt) (s.modifyMeter m fun x => { x with debt := 0 }) := by
  simp only [ownMeterClearDebt, four?_val]

/-- Settles O42: the masks of ARM-CLEAR by the arms that it cannot clear, the four others by their owners' cases. -/
theorem equipmentReset : Obligations.EquipmentReset := by
  intro g body tail s hrun w v
  refine ⟨fun m h => exec_answers rfl rfl hrun rfl (ownArmClear_outOfRange h), fun n h => ⟨?_, ?_, ?_⟩, fun n h => ?_,
    fun m named hm hne hn hbits => ?refused, fun m hm hstate hopen => ?cleared, fun p hf hd => ?_, fun p h => ?_, fun j h => ?_,
    fun j hf hdone => ?idle, fun j b l c hf hb hl hc hopen => ?armed, fun m => ?_, fun m h => ?_, fun m h => ?_⟩
  · exact exec_answers rfl rfl hrun rfl (by simp only [ownerOf, ownPumpReset, four?_eq_none h]; rfl)
  · exact exec_answers rfl rfl hrun rfl (by simp only [ownerOf, ownMeterErrors, four?_eq_none h]; rfl)
  · exact exec_answers rfl rfl hrun rfl (by simp only [ownerOf, ownMeterClearDebt, four?_eq_none h]; rfl)
  · exact exec_answers rfl rfl hrun rfl (by simp only [ownerOf, ownInjectorReset, eight?_eq_none h]; rfl)
  case refused =>
    have hp (a : Fin 4) : named.getLsbD a.val = (maskHas m a && (v .armClear).notClearable a) := by
      rw [Bool.eq_iff_iff, hbits a, Bool.and_eq_true, State.notClearable_iff]
      rfl
    have hnamed := eq_armsWhere hn hp
    have hsome : ∃ a, (maskHas m a && (v .armClear).notClearable a) = true := by
      by_contra hnone
      refine hne (hnamed.trans ?_)
      have hall (a : Fin 4) : (maskHas m a && (v .armClear).notClearable a) = false :=
        Bool.eq_false_iff.2 fun h => hnone ⟨a, h⟩
      simp only [armsWhere, hall]
      rfl
    exact exec_answers rfl rfl hrun rfl ((ownArmClear_refused hm hsome).trans (by rw [← hnamed]; rfl))
  case cleared =>
    have hnone (a : Fin 4) : (maskHas m a && (v .armClear).notClearable a) = false := by
      rw [Bool.eq_false_iff, Ne, Bool.and_eq_true, State.notClearable_iff]
      rintro ⟨ha, ⟨h1, h2⟩ | ⟨-, n, l, c, hn, hl, hc, hcl⟩⟩
      · exact (hstate a ha).elim h1 h2
      · exact hopen a n l c ha hn hl hc hcl
    refine ⟨_, exec_answers rfl rfl hrun rfl (ownArmClear_cleared hm hnone), fun a => ?_, rfl⟩
    rw [State.modifyArms_get, maskHas_eq]
    split
    · rename_i ha; exact Arm.cleared_eq (hstate a ha)
    · rfl
  · exact exec_answers rfl rfl hrun rfl ((ownPumpReset_eq p).trans
      (if_neg (not_or.2 ⟨not_not.2 hf, Nat.not_lt.2 (Nat.le_zero.2 hd)⟩)))
  · exact exec_answers rfl rfl hrun rfl ((ownPumpReset_eq p).trans (if_pos h))
  · exact exec_answers rfl rfl hrun rfl ((ownInjectorReset_eq j).trans (if_pos h))
  case idle =>
    have hlive : (v .injectorReset).boundLive j = false := by
      rw [Bool.eq_false_iff, Ne, State.boundLive_iff]
      rintro ⟨b, l, c, hb, hl, hc, hopen⟩
      exact hopen (hdone b l c hb hl hc)
    refine exec_answers rfl rfl hrun rfl ((ownInjectorReset_eq j).trans ((if_neg (not_not.2 hf)).trans ?_))
    rw [hlive]
    rfl
  case armed =>
    have hlive : (v .injectorReset).boundLive j = true := State.boundLive_iff.2 ⟨b, l, c, hb, hl, hc, hopen⟩
    refine exec_answers rfl rfl hrun rfl ((ownInjectorReset_eq j).trans ((if_neg (not_not.2 hf)).trans ?_))
    rw [hlive]
    rfl
  · exact exec_answers rfl rfl hrun rfl (by simp only [ownerOf, ownMeterErrors, four?_val]; rfl)
  · exact exec_answers rfl rfl hrun rfl ((ownMeterClearDebt_eq m).trans (if_neg (not_not.2 h)))
  · exact exec_answers rfl rfl hrun rfl ((ownMeterClearDebt_eq m).trans (if_pos h))

/-! ### COMPARTMENT-STOP -/

theorem CompState.isDrivable_iff {x : CompState} :
    x.isDrivable = true ↔ x = .starting ∨ x = .lowStart ∨ x = .full ∨ x = .slowdown := by
  cases x <;> simp [CompState.isDrivable]

theorem CompState.not_isDrivable_iff {x : CompState} :
    x.isDrivable = false ↔ x = .pending ∨ x = .closing ∨ x = .halted ∨ x = .done := by
  cases x <;> simp [CompState.isDrivable]

theorem ownCompartmentStop_without_load {n : Nat} (h : s.load = none) : ownCompartmentStop n s = refuse .state s := by
  simp only [ownCompartmentStop, h]

theorem ownCompartmentStop_closing {n : Nat} {l : LoadRecord} (h : s.load = some l) (hc : l.state = .closing) :
    ownCompartmentStop n s = refuse .state s := by
  simp only [ownCompartmentStop, h, if_pos hc]

theorem ownCompartmentStop_notFound {n : Nat} {l : LoadRecord} (h : s.load = some l) (hl : l.state ≠ .closing)
    (hc : l.comp? n = none) : ownCompartmentStop n s = refuse .notFound s := by
  simp only [ownCompartmentStop, h, if_neg hl, hc]

theorem ownCompartmentStop_found {n : Nat} {l : LoadRecord} {c : CompRecord} (h : s.load = some l) (hl : l.state ≠ .closing)
    (hc : l.comp? n = some c) :
    ownCompartmentStop n s
      = if c.state.isDrivable then reply .ok .none (s.driveClose n (.halt .driver)) else refuse .state s := by
  simp only [ownCompartmentStop, h, if_neg hl, hc]

/-- Settles O37: the cases of the owner in their order. -/
theorem stopDrivesCompartment : Obligations.StopDrivesCompartment := by
  intro g body tail n s hrun w refused
  refine ⟨fun hl => exec_answers rfl rfl hrun rfl (ownCompartmentStop_without_load (s := s.seen .compartmentStop w) hl),
    fun l hl => ⟨fun hc => ?_, fun hc => ⟨fun hnone => ?_, fun c hfound => ⟨fun hd => ?_, fun hd => ?_⟩⟩⟩⟩
  · exact exec_answers rfl rfl hrun rfl (ownCompartmentStop_closing (s := s.seen .compartmentStop w) hl hc)
  · exact exec_answers rfl rfl hrun rfl
      (ownCompartmentStop_notFound (s := s.seen .compartmentStop w) hl hc (LoadRecord.comp?_eq_none hnone))
  · exact exec_answers rfl rfl hrun rfl ((ownCompartmentStop_found (s := s.seen .compartmentStop w) hl hc hfound).trans
      (if_pos (CompState.isDrivable_iff.2 hd)))
  · refine exec_answers rfl rfl hrun rfl ((ownCompartmentStop_found (s := s.seen .compartmentStop w) hl hc hfound).trans
      (if_neg ?_))
    rw [CompState.not_isDrivable_iff.2 hd]; exact Bool.false_ne_true

/-! ### LOAD-RESUME -/

/-- Outside start-up a cause change is posted as it is (R24). -/
theorem State.postCause_of_running {e : EventCode} {k : Cause} (h : s.phase ≠ .startUp) :
    s.postCause e k = s.post e .none 0 (w32 k.number) := if_neg h

theorem State.removeCause_of_has {k : Cause} {l : LoadRecord} (hl : s.load = some l) (hk : l.causes.has k = true) :
    s.removeCause k
      = (((s.modifyLoad fun l => { l with causes := l.causes.put false k }).postCause .causeCleared k).imagePoint).evalLoad := by
  simp only [State.removeCause, hl, hk, if_true]

/-- Settles O41: POWER by whether it stands in the causes. -/
theorem resumeRemovesPower : Obligations.ResumeRemovesPower := by
  intro g body tail s hrun w
  refine ⟨fun l hl hp => ?_, fun l hl hp => ?_, fun hl => ?_⟩
  · have hl' : (s.seen .loadResume w).load = some l := hl
    refine exec_answers rfl rfl hrun rfl ?_
    simp only [ownerOf, ownLoadResume, hl', hp, if_true]
    refine congrArg (reply .ok .none) ((State.removeCause_of_has (k := .power) hl' hp).trans ?_)
    rw [State.postCause_of_running (by rw [State.modifyLoad_phase, State.seen_phase, hrun]; nofun)]
    rfl
  · refine exec_answers rfl rfl hrun rfl ?_
    simp only [ownerOf, ownLoadResume, State.seen_load, hl, hp, Bool.false_eq_true, if_false]
    rfl
  · refine exec_answers rfl rfl hrun rfl ?_
    simp only [ownerOf, ownLoadResume, State.seen_load, hl]
    rfl

end Sys2Proof.Machine
end

section
/-! PROOFS. The delivery notes' requests (R149, R157 to R162): the slot that holds a serial, what each owner replies in each case,
and the rows built from them. -/

namespace Sys2Proof.Machine

variable {s : State}

/-! ### The lowest number that passes a test -/

theorem find?_of_least {α : Type} [LinearOrder α] {l : List α} {p : α → Bool} {i : α} (hl : l.Pairwise (· < ·)) (hi : i ∈ l)
    (hp : p i = true) (hlow : ∀ j, j < i → p j = false) : l.find? p = some i := by
  induction l with
  | nil => cases hi
  | cons x rest ih =>
    obtain ⟨hx, hrest⟩ := List.pairwise_cons.1 hl
    rcases List.mem_cons.1 hi with rfl | hmem
    · simp [hp]
    · simp [hlow x (hx i hmem), ih hrest hmem]

theorem eights_find? {p : Fin 8 → Bool} {i : Fin 8} (hp : p i = true) (hlow : ∀ j, j < i → p j = false) :
    eights.find? p = some i :=
  find?_of_least (by decide) (mem_eights i) hp hlow

theorem State.storedSlot_eq_none {n : Nat} :
    s.storedSlot n = none ↔ ∀ i : Fin 8, s.slots[i].state = .stored → s.slots[i].serial ≠ some n := by
  simp only [State.storedSlot, List.find?_eq_none, Bool.and_eq_true, beq_iff_eq, not_and]
  exact ⟨fun h i => h i (mem_eights i), fun h i _ => h i⟩

theorem State.storedSlot_of_first {n : Nat} {i : Fin 8} (hs : s.slots[i].state = .stored) (hn : s.slots[i].serial = some n)
    (hlow : ∀ j : Fin 8, j < i → s.slots[j].state = .stored → s.slots[j].serial ≠ some n) : s.storedSlot n = some i :=
  eights_find? (by simp only [hs, hn, beq_self_eq_true, Bool.and_self]) fun j hj => by
    rw [Bool.eq_false_iff, Ne, Bool.and_eq_true, beq_iff_eq, beq_iff_eq, not_and]
    exact hlow j hj

/-! ### NOTE-PRINTED, NOTE-RELEASE and the hold timer -/

theorem Slot.heldForPrint_iff {x : Slot} : x.heldForPrint = true ↔ x.printed = false ∧ x.holdExpired = false := by
  simp [Slot.heldForPrint]

theorem Slot.not_heldForPrint {x : Slot} (h : x.printed = true ∨ x.holdExpired = true) : ¬ x.heldForPrint = true := by
  rw [Slot.heldForPrint_iff]
  rcases h with h | h <;> simp [h]

section Release

variable {n : Nat} {i : Fin 8}

theorem ownNotePrinted_notFound (h : s.storedSlot n = none) : ownNotePrinted n s = refuse .notFound s := by
  simp only [ownNotePrinted, h]

theorem ownNotePrinted_found (h : s.storedSlot n = some i) :
    ownNotePrinted n s = reply .ok .none (s.modifySlot i fun x => { x with printed := true }) := by
  simp only [ownNotePrinted, h]

theorem ownNoteRelease_notFound (h : s.storedSlot n = none) : ownNoteRelease n s = refuse .notFound s := by
  simp only [ownNoteRelease, h]

theorem ownNoteRelease_found (h : s.storedSlot n = some i) :
    ownNoteRelease n s
      = if s.slots[i].heldForPrint then refuse .heldForPrint s
        else if !s.hasPlace then refuse .busy s
        else reply .ok .none (s.freeNote i n) := by
  simp only [ownNoteRelease, h]

end Release

/-- Settles O47: the slot that holds the serial, or its lack, then the cases of each owner. -/
theorem notesHeldAndReleased : Obligations.NotesHeldAndReleased := by
  intro g body tail n s hrun w p v
  refine ⟨fun h => ⟨exec_answers rfl rfl hrun rfl (ownNoteRelease_notFound (s := v .noteRelease) (State.storedSlot_eq_none.2 h)),
    exec_answers rfl rfl hrun rfl (ownNotePrinted_notFound (s := s.seen .notePrinted p) (State.storedSlot_eq_none.2 h))⟩,
    fun i hs hn hlow => ?_⟩
  have hslot {c : ReqCode} {u : Win} : (s.seen c u).storedSlot n = some i := State.storedSlot_of_first hs hn hlow
  refine ⟨exec_answers rfl rfl hrun rfl (ownNotePrinted_found hslot), fun hp he => ?_, fun hmark => ⟨fun hq => ?_, fun hq => ?_⟩,
    fun ht => ?_, fun ht => ?_⟩
  · exact exec_answers rfl rfl hrun rfl ((ownNoteRelease_found hslot).trans
      (if_pos (Slot.heldForPrint_iff.2 ⟨hp, he⟩)))
  · refine exec_answers rfl rfl hrun rfl ((ownNoteRelease_found hslot).trans
      ((if_neg (Slot.not_heldForPrint hmark)).trans (if_pos ?_)))
    rw [State.seen_hasPlace, State.not_hasPlace_of_length hq]; rfl
  · refine exec_answers rfl rfl hrun rfl ((ownNoteRelease_found hslot).trans
      ((if_neg (Slot.not_heldForPrint hmark)).trans (if_neg ?_)))
    rw [State.seen_hasPlace, State.hasPlace_of_length hrun hq]; exact Bool.false_ne_true
  · exact if_neg fun h => ht h.2.2
  · exact if_pos ⟨hrun, hs, ht⟩

/-! ### The lines of a note -/

/-- Every number below the line count names a line of the part of the note that it falls in (R149). -/
theorem Note.line?_of_lt {m : Note} {n k : Nat} (hk : k < m.lineCount) :
    ∃ line, m.line? n k = some line
      ∧ (k = 0 → line = .header n m.header)
      ∧ (∀ h : k - 1 < m.comps.length, 1 ≤ k → line = .comp m.comps[k - 1])
      ∧ (∀ h : k - 1 - m.comps.length < m.additives.length, m.comps.length < k →
        line = .additive m.additives[k - 1 - m.comps.length])
      ∧ (k + 1 = m.lineCount → line = .trailer m.trailer) := by
  unfold Note.lineCount at hk ⊢
  unfold Note.line?
  by_cases h0 : k = 0
  · exact ⟨_, if_pos h0, fun _ => rfl, fun _ _ => by omega, fun _ _ => by omega, fun _ => by omega⟩
  rw [if_neg h0]
  by_cases hc : k ≤ m.comps.length
  · have hi : k - 1 < m.comps.length := by omega
    refine ⟨.comp m.comps[k - 1], (if_pos hc).trans (by rw [List.getElem?_eq_getElem hi]; rfl), fun h => absurd h h0,
      fun _ _ => rfl, fun _ h => absurd h (Nat.not_lt.2 hc), fun _ => by omega⟩
  rw [if_neg hc]
  by_cases ha : k ≤ m.comps.length + m.additives.length
  · have hi : k - 1 - m.comps.length < m.additives.length := by omega
    exact ⟨.additive m.additives[k - 1 - m.comps.length], (if_pos ha).trans (by rw [List.getElem?_eq_getElem hi]; rfl),
      fun h => absurd h h0, fun h _ => by omega, fun _ _ => rfl, fun _ => by omega⟩
  rw [if_neg ha]
  exact ⟨.trailer m.trailer, if_pos (by omega), fun h => absurd h h0, fun _ _ => by omega, fun _ _ => by omega, fun _ => rfl⟩

/-! ### NOTE-OPEN and NOTE-READ -/

section Reading

variable {p : Port} {n first last direction : Nat} {m : Note} {d : Direction} {r : Reader} {i : Fin 8}

theorem ownNoteOpen_notFound (h : s.storedSlot n = none) : ownNoteOpen p n first last direction s = refuse .notFound s := by
  simp only [ownNoteOpen, h, Option.bind_none]

theorem ownNoteOpen_direction (h : s.storedSlot n = some i) (hm : s.slots[i].note = some m) (hd : directionOf? direction = none) :
    ownNoteOpen p n first last direction s = refuse .badArgument s := by
  simp only [ownNoteOpen, h, Option.bind_some, hm, hd]

theorem ownNoteOpen_found (h : s.storedSlot n = some i) (hm : s.slots[i].note = some m) (hd : directionOf? direction = some d) :
    ownNoteOpen p n first last direction s
      = if last < first ∨ m.lineCount ≤ last then refuse .badArgument s
        else reply .ok (.noteOpened m.lineCount m.header.status) (s.setReader p (Reader.opened n first last d)) := by
  simp only [ownNoteOpen, h, Option.bind_some, hm, hd]

theorem ownNoteRead_without_reader (h : s.reader p = none) : ownNoteRead p s = refuse .state s := by
  simp only [ownNoteRead, h]

theorem ownNoteRead_lost (h : s.reader p = some r) (hl : r.lost = true) : ownNoteRead p s = refuse .notFound s := by
  simp only [ownNoteRead, h, hl, if_true]

theorem ownNoteRead_header (h : s.reader p = some r) (hl : r.lost = false) (hs : s.storedSlot r.serial = some i)
    (hm : s.slots[i].note = some m) (ho : r.headerOwed = true) :
    ownNoteRead p s
      = reply .ok (.noteLine 0 false (.header r.serial m.header)) (s.setReader p { r with headerOwed := false }) := by
  simp only [ownNoteRead, h, hl, hs, Option.bind_some, hm, ho, Bool.false_eq_true, if_false, if_true]

theorem ownNoteRead_line {line : NoteLine} (h : s.reader p = some r) (hl : r.lost = false)
    (hs : s.storedSlot r.serial = some i) (hm : s.slots[i].note = some m) (ho : r.headerOwed = false)
    (hline : m.line? r.serial r.cursor = some line) :
    ownNoteRead p s = reply .ok (.noteLine r.cursor r.wraps line) (s.setReader p r.moved) := by
  simp only [ownNoteRead, h, hl, hs, Option.bind_some, hm, ho, Bool.false_eq_true, if_false, hline]

end Reading

/-- The reader of TP or PP (R160). -/
theorem State.reader_eq {p : Port} (hp : p ≠ .sp) : s.reader p = if p = .tp then s.tpReader else s.ppReader := by
  cases p with
  | tp => rfl
  | pp => rfl
  | sp => exact absurd rfl hp

theorem State.setReader_eq {p : Port} (hp : p ≠ .sp) (r : Reader) :
    s.setReader p r = if p = .tp then { s with tpReader := some r } else { s with ppReader := some r } := by
  cases p with
  | tp => rfl
  | pp => rfl
  | sp => exact absurd rfl hp

theorem permitted_reading {p : Port} (hp : p ≠ .sp) : permitted .noteOpen p = true ∧ permitted .noteRead p = true := by
  cases p with
  | tp => exact ⟨rfl, rfl⟩
  | pp => exact ⟨rfl, rfl⟩
  | sp => exact absurd rfl hp

theorem directionOf?_up (d : Direction) : directionOf? (if d = .up then 0 else 1) = some d := by cases d <;> rfl

theorem directionOf?_eq_none {n : Nat} (h : 2 ≤ n) : directionOf? n = none := by
  match n, h with
  | n + 2, _ => rfl

theorem Reader.opened_eq (n first last : Nat) (d : Direction) :
    Reader.opened n first last d = ⟨n, first, last, d, if d = .up then first else last, true, false⟩ := by cases d <;> rfl

/-- The mark of the read that wraps, and the cursor after it (R161). -/
theorem Reader.walks (n first last cursor : Nat) (d : Direction) (owed : Bool) :
    let r : Reader := ⟨n, first, last, d, cursor, owed, false⟩
    r.wraps = (if d = .up then decide (last ≤ cursor) else decide (cursor ≤ first))
      ∧ r.moved = { r with
          cursor := if d = .up then if last ≤ cursor then first else cursor + 1
            else if cursor ≤ first then last else cursor - 1 } := by
  cases d <;> simp [Reader.wraps, Reader.moved]

/-- Settles O48: a note's lines by their number; the requests by the note that the serial names and the port's reader. -/
theorem noteReaderWalks : Obligations.NoteReaderWalks := by
  refine ⟨fun n k m hk => Note.line?_of_lt hk, ?_⟩
  intro p g body tail n first last s hrun hp w v reader reading
  obtain ⟨hopen, hread⟩ := permitted_reading hp
  have hreader {c : ReqCode} : (v c).reader p = reader := State.reader_eq hp
  have hset (c : ReqCode) (r : Reader) : (v c).setReader p r = reading c (some r) := State.setReader_eq hp r
  refine ⟨fun h direction => ?_, fun h => ?_, fun r h hl => ?_, fun i m d hs hn hm hlow => ?_⟩
  · exact exec_answers rfl rfl hrun hopen (ownNoteOpen_notFound (s := v .noteOpen) (State.storedSlot_eq_none.2 h))
  · exact exec_answers rfl rfl hrun hread (ownNoteRead_without_reader (hreader.trans h))
  · exact exec_answers rfl rfl hrun hread (ownNoteRead_lost (hreader.trans h) hl)
  intro up at?
  have hslot {c : ReqCode} : (v c).storedSlot n = some i := State.storedSlot_of_first hs hn hlow
  have opened := ownNoteOpen_found (s := v .noteOpen) (p := p) (first := first) (last := last) hslot hm (directionOf?_up d)
  refine ⟨fun direction hd => ?_, fun hw => ?_, fun h1 h2 => ?_, fun cursor h => ?_, fun cursor line h hline => ?_⟩
  · exact exec_answers rfl rfl hrun hopen (ownNoteOpen_direction (s := v .noteOpen) hslot hm (directionOf?_eq_none hd))
  · exact exec_answers rfl rfl hrun hopen (opened.trans (if_pos hw))
  · refine exec_answers rfl rfl hrun hopen (opened.trans ((if_neg (by omega)).trans ?_))
    rw [hset, Reader.opened_eq]
    rfl
  · refine exec_answers rfl rfl hrun hread
      ((ownNoteRead_header (s := v .noteRead) (hreader.trans h) rfl hslot hm rfl).trans ?_)
    rw [hset]
    rfl
  · refine exec_answers rfl rfl hrun hread
      ((ownNoteRead_line (s := v .noteRead) (hreader.trans h) rfl hslot hm rfl hline).trans ?_)
    obtain ⟨hwraps, hmoved⟩ := Reader.walks n first last cursor d false
    rw [hset, hwraps, hmoved]
    rfl

end Sys2Proof.Machine
end

section
/-! PROOFS. The quadrature decoder, the temperature scanner and the arithmetic of a gate (R42, R43, R46 to R54, R62 to R64, R83,
R187): each by cases on its inputs, and the arithmetic from its divisions. -/

namespace Sys2Proof.Machine

variable {s : State}

/-! ### The quadrature decoder -/

/-- The decoder of a held part, and one that is stopped, counts nothing (R44, R189). -/
theorem State.decode_still {m : Fin 4} {f : Meter → Meter} (h : s.phase = .held ∨ s.meters[m].decoding = false) :
    s.decode m f = s := by
  rcases h with h | h
  · exact if_pos h
  · unfold State.decode
    split
    · rfl
    · exact if_neg (by rw [h]; exact Bool.false_ne_true)

theorem State.decode_acts {m : Fin 4} {f : Meter → Meter} (h : s.phase ≠ .held) (hd : s.meters[m].decoding = true) :
    s.decode m f = s.modifyMeter m f :=
  (if_neg h).trans (if_pos hd)

/-- The position after one input of the pair has changed, as a number (R42). -/
theorem stepped_val (input : PulseInput) (position : Fin 4) :
    (stepped input position).val = if input = .chA then position.val ^^^ 1 else 3 - position.val := by
  have all : ∀ position : Fin 4, (stepped .chA position).val = position.val ^^^ 1
      ∧ (stepped .chB position).val = 3 - position.val := by decide
  cases input
  · exact (all position).1
  · exact (all position).2

/-- Only input B leads from position 3 to 0 and from 0 to 3 (R42). -/
theorem stepped_crosses (input : PulseInput) (position : Fin 4) :
    (position = 3 ∧ stepped input position = 0 ↔ input = .chB ∧ position = 3)
      ∧ (position = 0 ∧ stepped input position = 3 ↔ input = .chB ∧ position = 0) := by
  have all : ∀ position : Fin 4, (position = 3 ∧ stepped .chA position = 0 → False)
      ∧ (position = 0 ∧ stepped .chA position = 3 → False)
      ∧ (position = 3 → stepped .chB position = 0) ∧ (position = 0 → stepped .chB position = 3) := by decide
  obtain ⟨h1, h2, h3, h4⟩ := all position
  cases input
  · exact ⟨⟨fun h => (h1 h).elim, nofun⟩, ⟨fun h => (h2 h).elim, nofun⟩⟩
  · exact ⟨⟨fun h => ⟨rfl, h.1⟩, fun h => ⟨h.2, h3 h.2⟩⟩, ⟨fun h => ⟨rfl, h.1⟩, fun h => ⟨h.2, h4 h.2⟩⟩⟩

/-- Settles O49: the positions by their numbers, the counts by the two crossings. -/
theorem decoderCountsPulses : Obligations.DecoderCountsPulses := by
  intro m input s
  refine ⟨fun h => ⟨congrArg _ (State.decode_still h), congrArg _ (State.decode_still h)⟩, fun h hd => ?_⟩
  intro x
  refine ⟨⟨stepped input x.position, stepped_val input x.position, ?_⟩, ⟨x.position + 2, rfl, ?_⟩⟩
  · obtain ⟨hf, hb⟩ := stepped_crosses input x.position
    refine congrArg _ ((State.decode_acts h hd).trans ?_)
    simp only [State.modifyMeter, Meter.quadrature, countUp, satAdd, ← hf, ← hb]
    rfl
  · exact congrArg _ (State.decode_acts h hd)

/-! ### The temperature scanner -/

/-- The check byte is the complement of the sum of the three before it exactly when all four add up to 255 modulo 256 (R187). -/
theorem expectedCheck_iff (r : ConverterAnswer) :
    r.check = expectedCheck r
      ↔ (r.status.toNat + r.tempHigh.toNat + r.tempLow.toNat + r.check.toNat) % 256 = 255 := by
  obtain ⟨a, b, c, d⟩ := r
  unfold expectedCheck
  have ha := a.isLt
  have hb := b.isLt
  have hc := c.isLt
  have hd := d.isLt
  rw [← BitVec.toNat_inj]
  simp only [BitVec.toNat_not, BitVec.toNat_add]
  omega

theorem answerChannel_eq (b : Byte) : (b &&& 3#8).toNat = b.toNat % 4 := by
  rw [BitVec.toNat_and]
  exact Nat.and_two_pow_sub_one_eq_mod b.toNat 2

/-- The reading of an answer is the signed number of its two middle bytes (R187). -/
theorem answerReading_eq (r : ConverterAnswer) :
    answerReading r = if r.tempHigh.toNat < 128 then (r.tempHigh.toNat * 256 + r.tempLow.toNat : Int)
      else (r.tempHigh.toNat * 256 + r.tempLow.toNat : Int) - 65536 := by
  have ha := r.tempHigh.isLt
  have hb := r.tempLow.isLt
  have happend : (r.tempHigh ++ r.tempLow : BitVec 16).toNat = r.tempHigh.toNat * 256 + r.tempLow.toNat := by
    rw [BitVec.toNat_append, ← Nat.shiftLeft_add_eq_or_of_lt hb, Nat.shiftLeft_eq]
  unfold answerReading
  rw [BitVec.toInt_eq_toNat_cond, happend]
  split <;> split <;> omega

/-- A sample is valid exactly where the answer is present, checks, names the channel and is marked valid (R62, R187). -/
theorem answerSample?_eq (n : Fin 4) (r : ConverterAnswer)
    [Decidable (r.status.getLsbD 7 = true ∧ r.status.getLsbD 6 = true ∧ r.status.toNat % 4 = n.val
      ∧ (r.status.toNat + r.tempHigh.toNat + r.tempLow.toNat + r.check.toNat) % 256 = 255)] :
    answerSample? n r
      = if r.status.getLsbD 7 = true ∧ r.status.getLsbD 6 = true ∧ r.status.toNat % 4 = n.val
          ∧ (r.status.toNat + r.tempHigh.toNat + r.tempLow.toNat + r.check.toNat) % 256 = 255 then some (answerReading r)
        else none := by
  unfold answerSample?
  refine if_congr ?_ rfl rfl
  rw [answerChannel_eq, expectedCheck_iff]
  tauto

/-- Settles O50: the slot's end by the sample that its answer gives. -/
theorem pollSlotSamplesProbe : Obligations.PollSlotSamplesProbe := by
  refine ⟨fun r s h => if_neg fun hc => h hc.2, fun r s hrun ht => ?_⟩
  intro n good next run missed
  have hexec : exec (.pollSlot r) s = .next (s.poll r) := if_pos ⟨by simp [State.timersRun, hrun], ht⟩
  have hsample := answerSample?_eq n r
  refine ⟨fun hg => ?_, fun hg hi => ?_, fun hg hi => ?_⟩
  · rw [if_pos hg] at hsample
    rw [hexec, ← answerReading_eq]
    have hno : ¬ ((answerSample? n r).isNone = true ∧ s.probes[n].invalidRun = 9) := by simp [hsample]
    simp only [State.poll]
    rw [if_neg hno, hsample]
    rfl
  · rw [if_neg hg] at hsample
    have hno : ¬ ((answerSample? n r).isNone = true ∧ s.probes[n].invalidRun = 9) := fun h => hi h.2
    rw [hexec]
    simp only [State.poll]
    rw [if_neg hno, hsample]
    rfl
  · rw [if_neg hg] at hsample
    have hyes : (answerSample? n r).isNone = true ∧ s.probes[n].invalidRun = 9 := ⟨by simp [hsample], hi⟩
    rw [hexec]
    simp only [State.poll]
    rw [if_pos hyes, hsample]
    rfl

/-! ### The arithmetic of a gate -/

/-- A truncated part of a difference lies between 0 and the difference. -/
theorem interpolation_bounds {y z t d lo hi : Int} (ht : 0 ≤ t) (htd : t < d) (hy : lo ≤ y ∧ y ≤ hi) (hz : lo ≤ z ∧ z ≤ hi) :
    lo ≤ y + ((z - y) * t).tdiv d ∧ y + ((z - y) * t).tdiv d ≤ hi := by
  have hd : 0 < d := lt_of_le_of_lt ht htd
  rcases le_total y z with h | h
  · have hnum : 0 ≤ (z - y) * t := mul_nonneg (sub_nonneg.2 h) ht
    rw [Int.tdiv_eq_ediv_of_nonneg hnum]
    have h0 : 0 ≤ (z - y) * t / d := Int.ediv_nonneg hnum hd.le
    have h1 : (z - y) * t / d ≤ z - y :=
      Int.ediv_le_of_le_mul hd (mul_le_mul_of_nonneg_left htd.le (sub_nonneg.2 h))
    omega
  · have hnum : 0 ≤ (y - z) * t := mul_nonneg (sub_nonneg.2 h) ht
    have hneg : (z - y) * t = -((y - z) * t) := by ring
    rw [hneg, Int.neg_tdiv, Int.tdiv_eq_ediv_of_nonneg hnum]
    have h0 : 0 ≤ (y - z) * t / d := Int.ediv_nonneg hnum hd.le
    have h1 : (y - z) * t / d ≤ y - z :=
      Int.ediv_le_of_le_mul hd (mul_le_mul_of_nonneg_left htd.le (sub_nonneg.2 h))
    omega

/-- The interpolation of R50 between two points of a curve, as a number. -/
theorem interpolation_toNat {p r : Nat × Nat} {q : Nat} (hp : p.1 ≤ q) (hq : q < r.1) (hp2 : 95000 ≤ p.2 ∧ p.2 ≤ 105000)
    (hr2 : 95000 ≤ r.2 ∧ r.2 ≤ 105000) :
    let f : Int := (p.2 : Int) + (((r.2 : Int) - p.2) * ((q : Int) - p.1)).tdiv ((r.1 : Int) - p.1)
    (f.toNat : Int) = f ∧ 95000 ≤ f.toNat ∧ f.toNat ≤ 105000 := by
  intro f
  obtain ⟨hlo, hhi⟩ := interpolation_bounds (y := p.2) (z := r.2) (t := (q : Int) - p.1) (d := (r.1 : Int) - p.1)
    (lo := 95000) (hi := 105000) (by omega) (by omega) (by omega) (by omega)
  have hlo : 95000 ≤ f := hlo
  have hhi : f ≤ 105000 := hhi
  omega

/-- The factor at a flow rate past the first of a run of rising points (R50). -/
theorem factorFrom_spec {q : Nat} {p : Nat × Nat} {ps : List (Nat × Nat)} (hq : p.1 ≤ q)
    (hp : (p :: ps).Pairwise fun y z => y.1 < z.1) (hr : ∀ y ∈ p :: ps, 95000 ≤ y.2 ∧ y.2 ≤ 105000) :
    (95000 ≤ factorFrom q p ps ∧ factorFrom q p ps ≤ 105000)
      ∧ (∀ before y, p :: ps = before ++ [y] → y.1 ≤ q → factorFrom q p ps = y.2)
      ∧ ∀ before y z after, p :: ps = before ++ y :: z :: after → y.1 ≤ q → q < z.1 →
        (factorFrom q p ps : Int) = y.2 + ((z.2 - y.2 : Int) * (q - y.1 : Int)).tdiv (z.1 - y.1 : Int) := by
  induction ps generalizing p with
  | nil =>
    refine ⟨hr p (by simp), fun before y h _ => ?_, fun before y z after h => ?_⟩
    · obtain ⟨-, h⟩ := List.append_inj' (s₁ := []) (t₁ := [p]) h rfl
      cases h; rfl
    · have := congrArg List.length h
      simp only [List.length_append, List.length_cons, List.length_nil] at this
      omega
  | cons r rest ih =>
    obtain ⟨hpr, hrest⟩ := List.pairwise_cons.1 hp
    have hpr1 : p.1 < r.1 := hpr r (by simp)
    by_cases hqr : q < r.1
    · have heq : factorFrom q p (r :: rest)
          = ((p.2 : Int) + (((r.2 : Int) - p.2) * ((q : Int) - p.1)).tdiv ((r.1 : Int) - p.1)).toNat := if_pos hqr
      obtain ⟨hcast, hbounds⟩ := interpolation_toNat hq hqr (hr p (by simp)) (hr r (by simp))
      have below {y : Nat × Nat} (hy : y ∈ r :: rest) : r.1 ≤ y.1 := by
        rcases List.mem_cons.1 hy with rfl | hy
        · exact Nat.le_refl _
        · exact ((List.pairwise_cons.1 hrest).1 y hy).le
      rw [heq]
      refine ⟨hbounds, fun before y h hy => ?_, fun before y z after h hy hz => ?_⟩
      · cases before with
        | nil => simp at h
        | cons b before =>
          obtain ⟨-, h⟩ := List.cons.inj h
          have hmem : y ∈ r :: rest := by rw [h]; simp
          exact absurd (below hmem) (by omega)
      · cases before with
        | nil =>
          obtain ⟨hy, h⟩ := List.cons.inj h
          obtain ⟨hz, -⟩ := List.cons.inj h
          rw [← hy, ← hz]
          exact hcast
        | cons b before =>
          obtain ⟨-, h⟩ := List.cons.inj h
          have hmem : y ∈ r :: rest := by rw [h]; simp
          exact absurd (below hmem) (by omega)
    · have heq : factorFrom q p (r :: rest) = factorFrom q r rest := if_neg hqr
      obtain ⟨h1, h2, h3⟩ := ih (Nat.not_lt.1 hqr) hrest fun y hy => hr y (by simp [hy])
      rw [heq]
      refine ⟨h1, fun before y h hy => ?_, fun before y z after h hy hz => ?_⟩
      · cases before with
        | nil => simp at h
        | cons b before => exact h2 before y (List.cons.inj h).2 hy
      · cases before with
        | nil =>
          obtain ⟨-, h⟩ := List.cons.inj h
          obtain ⟨rfl, -⟩ := List.cons.inj h
          exact absurd hz hqr
        | cons b before => exact h3 before y z after (List.cons.inj h).2 hy hz

/-- The factor of a curve at a flow rate (R50). -/
theorem Curve.factor_spec {q : Nat} {c : Curve} (hp : (c.first :: c.rest).Pairwise fun y z => y.1 < z.1)
    (hr : ∀ y ∈ c.first :: c.rest, 95000 ≤ y.2 ∧ y.2 ≤ 105000) :
    95000 ≤ c.factor q ∧ c.factor q ≤ 105000
      ∧ (q < c.first.1 → c.factor q = c.first.2)
      ∧ (∀ before y, c.first :: c.rest = before ++ [y] → y.1 ≤ q → c.factor q = y.2)
      ∧ ∀ before y z after, c.first :: c.rest = before ++ y :: z :: after → y.1 ≤ q → q < z.1 →
        (c.factor q : Int) = y.2 + ((z.2 - y.2 : Int) * (q - y.1 : Int)).tdiv (z.1 - y.1 : Int) := by
  by_cases hq : q < c.first.1
  · have heq : c.factor q = c.first.2 := if_pos hq
    have first_le {y : Nat × Nat} (hy : y ∈ c.first :: c.rest) : c.first.1 ≤ y.1 := by
      rcases List.mem_cons.1 hy with rfl | hy
      · exact Nat.le_refl _
      · exact ((List.pairwise_cons.1 hp).1 y hy).le
    rw [heq]
    obtain ⟨hlo, hhi⟩ := hr c.first (by simp)
    refine ⟨hlo, hhi, fun _ => rfl, fun before y h hy => ?_, fun before y z after h hy _ => ?_⟩
    · exact absurd (first_le (y := y) (by rw [h]; simp)) (by omega)
    · exact absurd (first_le (y := y) (by rw [h]; simp)) (by omega)
  · have heq : c.factor q = factorFrom q c.first c.rest := if_neg hq
    rw [heq]
    obtain ⟨⟨hlo, hhi⟩, hlast, hbetween⟩ := factorFrom_spec (Nat.not_lt.1 hq) hp hr
    exact ⟨hlo, hhi, fun h => absurd h hq, hlast, hbetween⟩

/-- The correction of R53, before it is rounded to parts per million, lies in its range; its second-order term is truncated. -/
theorem correction_bounds {x : Int} (hlo : -110000000 ≤ x) (hhi : x ≤ 130000000) :
    0 ≤ (4 * x * x) / 5000000000 ∧ 856480000 ≤ 1000000000 - x - (4 * x * x) / 5000000000
      ∧ 1000000000 - x - (4 * x * x) / 5000000000 ≤ 1100320000 := by
  have hsq : 0 ≤ x * x := mul_self_nonneg x
  have h0 : 0 ≤ (4 * x * x) / 5000000000 := Int.ediv_nonneg (by nlinarith only [hsq]) (by decide)
  have htop : (4 * x * x) / 5000000000 ≤ 13520000 :=
    Int.ediv_le_of_le_mul (by decide) (by nlinarith only [mul_nonneg (sub_nonneg.2 hhi) (sub_nonneg.2 hlo), hlo, hhi])
  have hlow : 9680000 - (x + 110000000) ≤ (4 * x * x) / 5000000000 :=
    Int.le_ediv_of_mul_le (by decide) (by nlinarith only [mul_self_nonneg (x + 110000000), hlo])
  omega

/-- The correction is the sum of its terms rounded to the nearest part per million, a half up (R53). -/
theorem correction_spec {alpha : Nat} {temp : Int} (ha : alpha ≤ 20000) (hlo : -4000 ≤ temp) (hhi : temp ≤ 8000) :
    let x : Int := alpha * (temp - 1500)
    (∃ second : Nat, (second : Int) * 5000000000 ≤ 4 * x ^ 2 ∧ 4 * x ^ 2 < (second + 1 : Int) * 5000000000
        ∧ (correction alpha temp : Int) * 1000 ≤ 1000000000 - x - second + 500
        ∧ (1000000000 - x - second + 500 : Int) < (correction alpha temp + 1 : Int) * 1000)
      ∧ 856480 ≤ correction alpha temp ∧ correction alpha temp ≤ 1100320 := by
  intro x
  have ha : (alpha : Int) ≤ 20000 := by exact_mod_cast ha
  have ha0 : (0 : Int) ≤ alpha := Int.natCast_nonneg alpha
  have hx1 : -110000000 ≤ x := by
    have := mul_le_mul_of_nonneg_left (show -5500 ≤ temp - 1500 by omega) ha0
    have : (alpha : Int) * -5500 ≤ x := this
    omega
  have hx2 : x ≤ 130000000 := by
    have := mul_le_mul_of_nonneg_left (show temp - 1500 ≤ 6500 by omega) ha0
    have : x ≤ (alpha : Int) * 6500 := this
    omega
  obtain ⟨h0, hmin, hmax⟩ := correction_bounds hx1 hx2
  have hsq : 4 * x ^ 2 = 4 * x * x := by ring
  obtain ⟨second, hsecond⟩ := Int.eq_ofNat_of_zero_le h0
  have hc : (correction alpha temp : Int) = (1000000000 - x - (4 * x * x) / 5000000000 + 500) / 1000 :=
    Int.toNat_of_nonneg (by show (0 : Int) ≤ (1000000000 - x - (4 * x * x) / 5000000000 + 500) / 1000; omega)
  refine ⟨⟨second, ?_⟩, ?_⟩
  · rw [hsq]
    omega
  · omega

/-- Settles O51: the divisions, the curve, the correction, the debt and the learned anticipation. -/
theorem gateArithmeticExact : Obligations.GateArithmeticExact := by
  refine ⟨fun x n k alpha c temp hk hI hG hN hp hr ha hlo hhi => ?gate, fun d b f => ⟨Nat.min_le_left _ _, fun h => ?_⟩,
    fun ant maxAnt overrun => ?_⟩
  case gate =>
    intro r
    have divide (a b : Nat) (hb : 0 < b) : a / b * b + (a - a / b * b) = a ∧ a - a / b * b < b := by
      have h1 := Nat.div_add_mod' a b
      have h2 := Nat.mod_lt a hb
      omega
    obtain ⟨hi1, hi2⟩ := divide (n * 1000000 + x.remI) k hk
    obtain ⟨hg1, hg2⟩ := divide (r.1.indicated * r.1.factor + x.remG) 100000 (by decide)
    obtain ⟨hn1, hn2⟩ := divide (r.1.gross * r.1.vcf + x.remN) 1000000 (by decide)
    obtain ⟨hf1, hf2, hfirst, hlast, hbetween⟩ := Curve.factor_spec (q := r.1.flow) hp hr
    obtain ⟨hsecond, hv1, hv2⟩ := correction_spec ha hlo hhi
    exact ⟨hi1, hi2, rfl, hf1, hf2, hfirst, hlast, hbetween, hsecond, hg1, hg2, hv1, hv2, hn1, hn2⟩
  · have hd : debtAfterB d b = d + b := Nat.min_eq_right h
    rw [hd]
    omega
  · unfold learnedAnt clampInt
    split
    · simp
    · split <;> omega

end Sys2Proof.Machine
end

section
/-! PROOFS. The invariants hold of the machine at reset (O4): no product flows, nothing waits, and every totalizer is at 0. -/

namespace Sys2Proof.Machine

theorem State.reset_queuesBounded : State.reset.QueuesBounded :=
  ⟨Nat.zero_le _, Nat.zero_le _, Nat.zero_le _, Nat.zero_le _, Nat.zero_le _⟩

theorem State.reset_totalsInRange : State.reset.TotalsInRange := by
  unfold State.TotalsInRange; decide

/-- No arm of a part as delivered serves a compartment. -/
theorem State.reset_idle (a : Fin 4) : State.reset.arms[a].state = .idle ∧ State.reset.arms[a].served = none := by
  revert a; decide

theorem State.reset_flowLawful : State.reset.FlowLawful where
  fits := State.fresh_valvesFit _ _ _ _
  tabled := fun _ h => nomatch h
  served := fun a n h => by rw [(State.reset_idle a).2] at h; exact nomatch h
  staging := fun a h => by rw [(State.reset_idle a).1] at h; exact nomatch h
  latched := fun _ _ h => nomatch h
  context := fun _ => rfl
  committing := fun ⟨_, h, _⟩ => nomatch h
  composing := fun _ h => nomatch h
  oneCommit := Nat.zero_le _
  noneOwed := ⟨(fun _ h => nomatch h), (fun _ h => nomatch h)⟩
  starting := fun h => nomatch h

/-- Settles O4. -/
theorem invariantsHoldAtReset : Obligations.InvariantsHoldAtReset :=
  ⟨State.fresh_valvesFit _ _ _ _, State.reset_queuesBounded, State.reset_totalsInRange, State.reset_flowLawful⟩

end Sys2Proof.Machine
end

section
/-! PROOFS. What refuses COMPARTMENT-START, and in which order (O36). -/

namespace Sys2Proof.Machine

variable {s : State} {n : Nat} {l : LoadRecord} {c : CompRecord}

/-- An earlier line of the arm is open exactly where a compartment before the first of number `n` is not DONE (R15). -/
theorem earlierOpen_append {a : Fin 4} {before after : List CompRecord} (hc : c.line.compartment = n)
    (hb : ∀ x ∈ before, x.line.compartment ≠ n) :
    earlierOpen n a (before ++ c :: after) = true ↔ ∃ x ∈ before, x.line.arm = a ∧ x.state ≠ .done := by
  induction before with
  | nil => simp [earlierOpen, hc]
  | cons x before ih =>
    have hx : x.line.compartment ≠ n := hb x (by simp)
    simp [earlierOpen, hx, ih fun y hy => hb y (by simp [hy])]

/-- No injector is found where every injector of the arm with the additive is taken (R100). -/
theorem State.findInjector_eq_none {a : Fin 4} {additive : Nat} (h : ∀ j : Fin 8, s.injectors[j].assign.arm = some a →
    s.injectors[j].assign.additive = additive → s.injectors[j].state ≠ .idle) : s.findInjector a additive = none := by
  refine List.find?_eq_none.2 fun j _ hj => ?_
  simp only [Bool.and_eq_true, beq_iff_eq] at hj
  exact h j hj.1.1 hj.1.2 hj.2

theorem State.recipeComponents_succ (i : Fin 16) : s.recipeComponents (i.val + 1) = s.recipes[i].components := by
  simp only [State.recipeComponents, recipeIndex?_succ]

/-- A first start lacks an injector where a mandatory component finds none (R100). -/
theorem State.lacksInjector_of_pending {x : Component} (hp : c.state = .pending)
    (hx : x ∈ s.recipeComponents c.line.recipe) (hm : x.mandatory = true)
    (hf : s.findInjector c.line.arm x.additive = none) : s.lacksInjector c = true := by
  rw [State.lacksInjector, if_pos hp]
  exact List.any_eq_true.2 ⟨x, hx, by simp [hm, hf]⟩

/-- A later start lacks an injector where one of a mandatory component is in FAULT (R101). -/
theorem State.lacksInjector_of_fault {r : ComponentResult} {j : Fin 8} (hp : c.state ≠ .pending) (hr : r ∈ c.additives)
    (hm : r.component.mandatory = true) (hj : r.injector = some j) (hf : s.injectors[j].state = .fault) :
    s.lacksInjector c = true := by
  rw [State.lacksInjector, if_neg hp]
  refine List.any_eq_true.2 ⟨r, hr, ?_⟩
  rw [hm, hj, Bool.true_and, Option.any_some, hf]; rfl

/-! ### The owner, where the load and the line are known -/

theorem ownCompartmentStart_without_load (h : s.load = none) : ownCompartmentStart n s = refuse .state s := by
  simp only [ownCompartmentStart, h]

theorem ownCompartmentStart_closing (h : s.load = some l) (hl : l.state = .closing) :
    ownCompartmentStart n s = refuse .state s := by
  simp only [ownCompartmentStart, h, if_pos hl]

theorem ownCompartmentStart_notFound (h : s.load = some l) (hl : l.state ≠ .closing) (hc : l.comp? n = none) :
    ownCompartmentStart n s = refuse .notFound s := by
  simp only [ownCompartmentStart, h, if_neg hl, hc]

theorem ownCompartmentStart_found (h : s.load = some l) (hl : l.state ≠ .closing) (hc : l.comp? n = some c) :
    ownCompartmentStart n s
      = if !l.causes.isEmpty then refuse .suspended s
        else if c.state ≠ .pending ∧ c.state ≠ .halted then refuse .state s
        else if s.arms[c.line.arm].blocked then refuse .blocked s
        else if s.arms[c.line.arm].state ≠ .idle then refuse .state s
        else if earlierOpen n c.line.arm l.comps then refuse .state s
        else if s.lacksInjector c then refuse .noInjector s
        else reply .ok .none (s.startComp c) := by
  simp only [ownCompartmentStart, h, if_neg hl, hc]

/-- A compartment that may start, on an arm that may take it, with no earlier line of the arm open (R15). -/
theorem ownCompartmentStart_ready (h : s.load = some l) (hl : l.state ≠ .closing) (hc : l.comp? n = some c)
    (he : l.causes.isEmpty = true) (hs : c.state = .pending ∨ c.state = .halted)
    (hb : s.arms[c.line.arm].blocked = false) (hi : s.arms[c.line.arm].state = .idle) :
    ownCompartmentStart n s
      = if earlierOpen n c.line.arm l.comps then refuse .state s
        else if s.lacksInjector c then refuse .noInjector s
        else reply .ok .none (s.startComp c) := by
  have hs : ¬ (c.state ≠ .pending ∧ c.state ≠ .halted) := fun ⟨hp, hh⟩ => hs.elim hp hh
  rw [ownCompartmentStart_found h hl hc, he, Bool.not_true, if_neg Bool.false_ne_true, if_neg hs, hb,
    if_neg Bool.false_ne_true, if_neg (not_not_intro hi)]

/-- Settles O36: the checks of the owner in their order. -/
theorem startRefusedInOrder : Obligations.StartRefusedInOrder := by
  intro g body tail n s hrun w refused
  have answer {status : Status} (ho : ownCompartmentStart n (s.seen .compartmentStart w)
      = refuse status (s.seen .compartmentStart w)) : refused status := exec_answers rfl rfl hrun rfl ho
  refine ⟨fun hl => answer (ownCompartmentStart_without_load hl),
    fun l hl => ⟨fun hc => answer (ownCompartmentStart_closing hl hc), fun hc => ⟨fun hnone =>
      answer (ownCompartmentStart_notFound hl hc (LoadRecord.comp?_eq_none hnone)),
      fun before c after hcs hn hb => ?_⟩⟩⟩
  have hfound : l.comp? n = some c := LoadRecord.comp?_append hcs hn hb
  have found := ownCompartmentStart_found (s := s.seen .compartmentStart w) hl hc hfound
  refine ⟨fun he => answer (found.trans (by rw [he]; rfl)), fun he => ?_⟩
  rw [he, Bool.not_true, if_neg Bool.false_ne_true] at found
  refine ⟨fun hp hh => answer (found.trans (if_pos ⟨hp, hh⟩)), fun hs => ?_⟩
  rw [if_neg fun ⟨hp, hh⟩ => hs.elim hp hh] at found
  refine ⟨fun hbl => answer (found.trans (if_pos hbl)), fun hbl hi => ?_, fun hbl hi => ?_⟩
  · exact answer (found.trans ((if_neg (ne_true_of_eq_false hbl)).trans (if_pos hi)))
  · have ready := ownCompartmentStart_ready (s := s.seen .compartmentStart w) hl hc hfound he hs hbl hi
    have earlier := earlierOpen_append (a := c.line.arm) (after := after) hn hb
    rw [← hcs] at earlier
    refine ⟨fun hx => answer (ready.trans (if_pos (earlier.2 hx))), fun hx => ?_⟩
    have hopen : ¬ earlierOpen n c.line.arm l.comps = true := fun ho =>
      let ⟨x, hm, ha, hd⟩ := earlier.1 ho; hd (hx x hm ha)
    have lacking (hlack : (s.seen .compartmentStart w).lacksInjector c = true) : refused .noInjector :=
      answer (ready.trans ((if_neg hopen).trans (if_pos hlack)))
    refine ⟨fun i x hp hr hxm hm hf => lacking (State.lacksInjector_of_pending hp ?_ hm (State.findInjector_eq_none hf)),
      fun r j hh hr hm hj hf => lacking (State.lacksInjector_of_fault (by rw [hh]; decide) hr hm hj hf)⟩
    rw [hr, State.recipeComponents_succ]; exact hxm

end Sys2Proof.Machine
end

section
/-! PROOFS. What the injector operations of a whole load do: strokes cut off, strokes owed that are skipped, injectors released.
Each is a run over the injectors that counts missed and skipped strokes at the component results they are bound to and changes
each injector alone, so one rule gives the state that each leaves. -/

namespace Sys2Proof.Machine

/-! ### One injector -/

/-- Missed and skipped strokes counted at a component result. -/
def ComponentResult.count (missed skipped : Nat) (r : ComponentResult) : ComponentResult :=
  { r with missed := r.missed + missed, skipped := r.skipped + skipped }

/-- The result that injector `j` is bound to counts what `m` and `k` say of the injector, which `g` then changes. -/
def State.countAt (m k : Injector → Nat) (g : Injector → Injector) (s : State) (j : Fin 8) : State :=
  (s.modifyBound j (ComponentResult.count (m s.injectors[j]) (k s.injectors[j]))).modifyInjector j g

/-- A figure of the injectors `js` bound to one component result, summed. -/
def boundSum (js : List (Fin 8)) (f : Injector → Nat) (v : Vector Injector 8) (b : Binding) : Nat :=
  ((js.filter fun j => v[j].binding == some b).map fun j => f v[j]).sum

/-- What the results of a compartment count from the injectors `js`. -/
def CompRecord.counted (js : List (Fin 8)) (m k : Injector → Nat) (v : Vector Injector 8) (c : CompRecord) : CompRecord :=
  { c with
    additives := c.additives.map fun r =>
      r.count (boundSum js m v ⟨c.line.compartment, r.position⟩) (boundSum js k v ⟨c.line.compartment, r.position⟩) }

def LoadRecord.counted (js : List (Fin 8)) (m k : Injector → Nat) (v : Vector Injector 8) (l : LoadRecord) : LoadRecord :=
  { l with comps := l.comps.map (CompRecord.counted js m k v) }

theorem ComponentResult.count_zero (r : ComponentResult) : r.count 0 0 = r := rfl

theorem ComponentResult.count_position (a b : Nat) (r : ComponentResult) : (r.count a b).position = r.position := rfl

theorem ComponentResult.count_count (a b c d : Nat) (r : ComponentResult) :
    (r.count a b).count c d = r.count (a + c) (b + d) := by
  simp [ComponentResult.count, Nat.add_assoc]

theorem CompRecord.modifyResult_id (p : Nat) (c : CompRecord) : c.modifyResult p id = c := by
  simp [CompRecord.modifyResult]

theorem CompRecord.modifyResult_modifyResult (p : Nat) (f g : ComponentResult → ComponentResult)
    (hf : ∀ r, (f r).position = r.position) (c : CompRecord) :
    (c.modifyResult p f).modifyResult p g = c.modifyResult p (g ∘ f) := by
  simp only [CompRecord.modifyResult, List.map_map, CompRecord.mk.injEq, true_and, and_true]
  refine List.map_congr_left fun r _ => ?_
  by_cases h : r.position = p <;> simp [h, hf]

theorem LoadRecord.modifyComp_id (n : Nat) (l : LoadRecord) : l.modifyComp n id = l := by
  simp [LoadRecord.modifyComp]

theorem LoadRecord.modifyComp_modifyComp (n : Nat) (f g : CompRecord → CompRecord)
    (hf : ∀ c, (f c).line.compartment = c.line.compartment) (l : LoadRecord) :
    (l.modifyComp n f).modifyComp n g = l.modifyComp n (g ∘ f) := by
  simp only [LoadRecord.modifyComp, List.map_map, LoadRecord.mk.injEq, true_and, and_true]
  refine List.map_congr_left fun c _ => ?_
  by_cases h : c.line.compartment = n <;> simp [h, hf]

variable (s : State)

theorem State.modifyComp_id (n : Nat) : s.modifyComp n id = s := by
  simp only [State.modifyComp, State.modifyLoad]
  have : LoadRecord.modifyComp n id = id := funext (LoadRecord.modifyComp_id n)
  rw [this, Option.map_id_fun, id]

theorem State.modifyComp_modifyComp (n : Nat) (f g : CompRecord → CompRecord)
    (hf : ∀ c, (f c).line.compartment = c.line.compartment) :
    (s.modifyComp n f).modifyComp n g = s.modifyComp n (g ∘ f) := by
  simp only [State.modifyComp, State.modifyLoad, Option.map_map]
  congr 2
  exact funext (LoadRecord.modifyComp_modifyComp n f g hf)

theorem State.modifyResult_id (b : Binding) : s.modifyResult b id = s := by
  have : CompRecord.modifyResult b.position id = id := funext (CompRecord.modifyResult_id b.position)
  rw [State.modifyResult, this, State.modifyComp_id]

theorem State.modifyBound_id (j : Fin 8) : s.modifyBound j id = s := by
  unfold State.modifyBound; split
  · rfl
  · exact s.modifyResult_id _

theorem State.modifyResult_modifyResult (b : Binding) (f g : ComponentResult → ComponentResult)
    (hf : ∀ r, (f r).position = r.position) : (s.modifyResult b f).modifyResult b g = s.modifyResult b (g ∘ f) := by
  have : CompRecord.modifyResult b.position g ∘ CompRecord.modifyResult b.position f
      = CompRecord.modifyResult b.position (g ∘ f) := funext (CompRecord.modifyResult_modifyResult _ f g hf)
  simp only [State.modifyResult]
  rw [State.modifyComp_modifyComp s b.compartment (CompRecord.modifyResult b.position f) _ (fun _ => rfl), this]

/-! ### A run over injectors -/

theorem boundSum_nil (f : Injector → Nat) (v : Vector Injector 8) (b : Binding) : boundSum [] f v b = 0 := rfl

theorem boundSum_cons (j : Fin 8) (js : List (Fin 8)) (f : Injector → Nat) (v : Vector Injector 8) (b : Binding) :
    boundSum (j :: js) f v b = (if v[j].binding = some b then f v[j] else 0) + boundSum js f v b := by
  unfold boundSum
  by_cases h : v[j].binding = some b
  · rw [List.filter_cons_of_pos (by rw [h]; exact beq_self_eq_true _), if_pos h]; rfl
  · rw [List.filter_cons_of_neg (p := fun i : Fin 8 => v[i].binding == some b) (fun hb => h (eq_of_beq hb)), if_neg h,
      Nat.zero_add]

theorem boundSum_congr {js : List (Fin 8)} {v w : Vector Injector 8} (h : ∀ j ∈ js, w[j] = v[j]) (f : Injector → Nat)
    (b : Binding) : boundSum js f w b = boundSum js f v b := by
  have hp : (js.filter fun j => w[j].binding == some b) = js.filter fun j => v[j].binding == some b :=
    List.filter_congr fun j hj => by rw [h j hj]
  unfold boundSum
  rw [hp]
  congr 1
  exact List.map_congr_left fun j hj => by rw [h j (List.mem_of_mem_filter hj)]

/-- Counting at one injector and then at others is counting at them all. -/
theorem CompRecord.counted_cons (j : Fin 8) (js : List (Fin 8)) (m k : Injector → Nat) (v : Vector Injector 8)
    (c : CompRecord) : (c.counted [j] m k v).counted js m k v = c.counted (j :: js) m k v := by
  simp only [CompRecord.counted, List.map_map, CompRecord.mk.injEq, true_and, and_true]
  refine List.map_congr_left fun r _ => ?_
  simp only [Function.comp, ComponentResult.count_position, ComponentResult.count_count, boundSum_cons j js,
    boundSum_cons j [], boundSum_nil, Nat.add_zero]

theorem CompRecord.counted_congr {js : List (Fin 8)} {m k : Injector → Nat} {v w : Vector Injector 8}
    (h : ∀ j ∈ js, w[j] = v[j]) (c : CompRecord) : c.counted js m k w = c.counted js m k v := by
  simp only [CompRecord.counted, boundSum_congr h]

theorem CompRecord.counted_nil (m k : Injector → Nat) (v : Vector Injector 8) (c : CompRecord) :
    c.counted [] m k v = c := by
  simp [CompRecord.counted, boundSum, ComponentResult.count_zero]

theorem LoadRecord.counted_nil (m k : Injector → Nat) (v : Vector Injector 8) (l : LoadRecord) :
    l.counted [] m k v = l := by
  have : CompRecord.counted [] m k v = id := funext (CompRecord.counted_nil m k v)
  rw [LoadRecord.counted, this, List.map_id]

/-- An injector with no binding counts nowhere. -/
theorem LoadRecord.counted_unbound {j : Fin 8} {m k : Injector → Nat} {v : Vector Injector 8} (h : v[j].binding = none)
    (l : LoadRecord) : l.counted [j] m k v = l := by
  have sum (f : Injector → Nat) (b : Binding) : boundSum [j] f v b = 0 := by
    rw [boundSum_cons, if_neg (by rw [h]; nofun)]; rfl
  have : CompRecord.counted [j] m k v = id := by
    funext c; simp [CompRecord.counted, sum, ComponentResult.count_zero]
  rw [LoadRecord.counted, this, List.map_id]

/-- An injector counts at the result that it is bound to, and at no other. -/
theorem LoadRecord.counted_bound {j : Fin 8} {m k : Injector → Nat} {v : Vector Injector 8} {b : Binding}
    (h : v[j].binding = some b) (l : LoadRecord) :
    l.counted [j] m k v
      = l.modifyComp b.compartment (CompRecord.modifyResult b.position (ComponentResult.count (m v[j]) (k v[j]))) := by
  have sum (f : Injector → Nat) (b' : Binding) : boundSum [j] f v b' = if b = b' then f v[j] else 0 := by
    simp only [boundSum_cons, h, Option.some_inj, boundSum_nil, Nat.add_zero]
  obtain ⟨n, p⟩ := b
  simp only [LoadRecord.counted, LoadRecord.modifyComp, LoadRecord.mk.injEq, true_and, and_true]
  refine List.map_congr_left fun c _ => ?_
  simp only [CompRecord.counted, sum, Binding.mk.injEq]
  by_cases hn : n = c.line.compartment
  · subst hn
    simp only [true_and, if_true, CompRecord.modifyResult, CompRecord.mk.injEq, and_true]
    refine List.map_congr_left fun r _ => ?_
    by_cases hp : p = r.position
    · simp [hp]
    · simp [hp, Ne.symm hp, ComponentResult.count_zero]
  · simp [hn, Ne.symm hn, ComponentResult.count_zero]

theorem State.countAt_load (m k : Injector → Nat) (g : Injector → Injector) (j : Fin 8) :
    (s.countAt m k g j).load = s.load.map (LoadRecord.counted [j] m k s.injectors) := by
  cases hb : s.injectors[j].binding with
  | none =>
    rw [show LoadRecord.counted [j] m k s.injectors = id from funext (LoadRecord.counted_unbound hb), Option.map_id_fun, id]
    simp only [State.countAt, State.modifyBound, hb]; rfl
  | some b =>
    rw [show LoadRecord.counted [j] m k s.injectors = _ from funext (LoadRecord.counted_bound hb)]
    simp only [State.countAt, State.modifyBound, hb]; rfl

theorem State.countAt_injectors (m k : Injector → Nat) (g : Injector → Injector) (j i : Fin 8) :
    (s.countAt m k g j).injectors[i] = if i = j then g s.injectors[j] else s.injectors[i] := by
  have h (f : ComponentResult → ComponentResult) : (s.modifyBound j f).injectors = s.injectors := by
    unfold State.modifyBound; split <;> rfl
  rw [State.countAt, State.modifyInjector_get, h]

/-- Counting at an injector touches the load record and the injectors alone. -/
theorem State.countAt_frame (m k : Injector → Nat) (g : Injector → Injector) (j : Fin 8) :
    { s.countAt m k g j with load := s.load, injectors := s.injectors } = s := by
  unfold State.countAt State.modifyBound; split <;> rfl

/-- A run over different injectors counts them all, each as the run found it. -/
theorem State.countAll_load (m k : Injector → Nat) (g : Injector → Injector) (js : List (Fin 8)) (hn : js.Nodup)
    (s : State) : (js.foldl (State.countAt m k g) s).load = s.load.map (LoadRecord.counted js m k s.injectors) := by
  induction js generalizing s with
  | nil =>
    rw [show LoadRecord.counted [] m k s.injectors = id from funext (LoadRecord.counted_nil m k _), Option.map_id_fun, id]; rfl
  | cons j js ih =>
    obtain ⟨hj, hn⟩ := List.nodup_cons.1 hn
    have same : ∀ i ∈ js, (s.countAt m k g j).injectors[i] = s.injectors[i] := fun i hi => by
      rw [State.countAt_injectors, if_neg (ne_of_mem_of_not_mem hi hj)]
    rw [List.foldl_cons, ih hn, State.countAt_load, Option.map_map]
    congr 1
    funext l
    simp only [Function.comp, LoadRecord.counted, List.map_map, LoadRecord.mk.injEq, true_and, and_true]
    refine List.map_congr_left fun c _ => ?_
    exact (CompRecord.counted_congr same _).trans (CompRecord.counted_cons ..)

theorem State.countAll_injectors (m k : Injector → Nat) (g : Injector → Injector) (js : List (Fin 8)) (hn : js.Nodup)
    (i : Fin 8) (s : State) :
    (js.foldl (State.countAt m k g) s).injectors[i] = if i ∈ js then g s.injectors[i] else s.injectors[i] := by
  induction js generalizing s with
  | nil => simp
  | cons j js ih =>
    obtain ⟨hj, hn⟩ := List.nodup_cons.1 hn
    rw [List.foldl_cons, ih hn, State.countAt_injectors]
    by_cases hi : i = j
    · subst hi; simp [hj]
    · simp [hi]

theorem State.countAll_frame (m k : Injector → Nat) (g : Injector → Injector) (js : List (Fin 8)) (s : State) :
    { js.foldl (State.countAt m k g) s with load := s.load, injectors := s.injectors } = s := by
  induction js generalizing s with
  | nil => rfl
  | cons j js ih =>
    have h := congrArg (fun t : State => { t with load := s.load, injectors := s.injectors }) (ih (s.countAt m k g j))
    exact h.trans (s.countAt_frame m k g j)

/-- A state that agrees with another but for load and injectors is the other with these two. -/
theorem State.eq_with_load_injectors {s t : State} (h : { t with load := s.load, injectors := s.injectors } = s) :
    t = { s with load := t.load, injectors := t.injectors } :=
  calc t = { ({ t with load := s.load, injectors := s.injectors } : State) with
        load := t.load, injectors := t.injectors } := rfl
    _ = { s with load := t.load, injectors := t.injectors } := by rw [h]

/-- A run over all injectors, as one update. -/
theorem State.countAll (m k : Injector → Nat) (g : Injector → Injector) (s : State) :
    eights.foldl (State.countAt m k g) s
      = { s.mapInjectors g with load := s.load.map (LoadRecord.counted eights m k s.injectors) } := by
  have hn : eights.Nodup := by decide
  have hi : (eights.foldl (State.countAt m k g) s).injectors = (s.mapInjectors g).injectors := by
    refine Vector.ext fun i hi => ?_
    have h := State.countAll_injectors m k g eights hn ⟨i, hi⟩ s
    exact (h.trans (if_pos (mem_eights _))).trans (State.mapInjectors_get s g ⟨i, hi⟩).symm
  rw [State.eq_with_load_injectors (State.countAll_frame m k g eights s), State.countAll_load m k g eights hn s, hi]
  rfl

end Sys2Proof.Machine
end

section
/-! PROOFS. Strokes cut off, strokes owed that are skipped, and injectors released, each as one update of the state. -/

namespace Sys2Proof.Machine

variable (s : State)

/-! ### Updates of one injector and of its component result -/

theorem State.modifyBound_injectors (j : Fin 8) (f : ComponentResult → ComponentResult) :
    (s.modifyBound j f).injectors = s.injectors := by
  unfold State.modifyBound; split <;> rfl

theorem State.modifyInjector_modifyInjector (j : Fin 8) (f g : Injector → Injector) :
    (s.modifyInjector j f).modifyInjector j g = s.modifyInjector j (g ∘ f) := by
  simp [State.modifyInjector]

theorem State.modifyInjector_congr {j : Fin 8} {f g : Injector → Injector} (h : f s.injectors[j] = g s.injectors[j]) :
    s.modifyInjector j f = s.modifyInjector j g := by
  unfold State.modifyInjector; rw [h]

theorem State.modifyInjector_id {j : Fin 8} {f : Injector → Injector} (h : f s.injectors[j] = s.injectors[j]) :
    s.modifyInjector j f = s := by
  have hv : s.injectors.set j s.injectors[j] = s.injectors := Vector.ext fun i hi => by
    by_cases hij : (j : Nat) = i <;> simp [hij]
  unfold State.modifyInjector; rw [h, hv]

theorem State.modifyBound_modifyBound (j : Fin 8) (f g : ComponentResult → ComponentResult)
    (hf : ∀ r, (f r).position = r.position) : (s.modifyBound j f).modifyBound j g = s.modifyBound j (g ∘ f) := by
  cases hb : s.injectors[j].binding with
  | none => simp only [State.modifyBound, hb]
  | some b =>
    have h : (s.modifyResult b f).injectors[j].binding = some b := hb
    simp only [State.modifyBound, hb, h, State.modifyResult_modifyResult s b f g hf]

/-- A change of an injector that keeps its binding commutes with one of its component result. -/
theorem State.modifyInjector_modifyBound (j : Fin 8) (g : Injector → Injector) (f : ComponentResult → ComponentResult)
    (hg : (g s.injectors[j]).binding = s.injectors[j].binding) :
    (s.modifyInjector j g).modifyBound j f = (s.modifyBound j f).modifyInjector j g := by
  cases hb : s.injectors[j].binding with
  | none => simp only [State.modifyBound, State.modifyInjector_get_self, hg, hb]
  | some b => simp only [State.modifyBound, State.modifyInjector_get_self, hg, hb]; rfl

theorem State.countAt_zero {m k : Injector → Nat} {g : Injector → Injector} {j : Fin 8} (hm : m s.injectors[j] = 0)
    (hk : k s.injectors[j] = 0) (hg : g s.injectors[j] = s.injectors[j]) : s.countAt m k g j = s := by
  have hid : ComponentResult.count 0 0 = id := rfl
  rw [State.countAt, hm, hk, hid, State.modifyBound_id, State.modifyInjector_id s hg]

theorem State.discardOwed_eq (j : Fin 8) :
    s.discardOwed j = s.countAt (fun _ => 0) Injector.owed (fun x => { x with owed := 0 }) j := rfl

/-- Counting at an injector twice, where the first change keeps its binding. -/
theorem State.countAt_countAt (j : Fin 8) (m k m' k' : Injector → Nat) (g g' : Injector → Injector)
    (hg : (g s.injectors[j]).binding = s.injectors[j].binding) :
    (s.countAt m k g j).countAt m' k' g' j
      = s.countAt (fun x => m x + m' (g x)) (fun x => k x + k' (g x)) (g' ∘ g) j := by
  have hi := State.modifyBound_injectors s j (ComponentResult.count (m s.injectors[j]) (k s.injectors[j]))
  have hx : (s.countAt m k g j).injectors[j] = g s.injectors[j] := by rw [State.countAt_injectors, if_pos rfl]
  have hg' : (g (s.modifyBound j (ComponentResult.count (m s.injectors[j]) (k s.injectors[j]))).injectors[j]).binding
      = (s.modifyBound j (ComponentResult.count (m s.injectors[j]) (k s.injectors[j]))).injectors[j].binding := by
    rw [hi]; exact hg
  have hc (a b c d : Nat) : ComponentResult.count c d ∘ ComponentResult.count a b = ComponentResult.count (a + c) (b + d) :=
    funext (ComponentResult.count_count a b c d)
  rw [State.countAt, hx, State.countAt, State.modifyInjector_modifyBound _ _ _ _ hg',
    State.modifyBound_modifyBound _ _ _ _ (ComponentResult.count_position _ _), State.modifyInjector_modifyInjector, hc,
    State.countAt]

/-! ### A stroke cut off (R112, R114) -/

def Injector.cut (x : Injector) : Injector :=
  if x.state = .stroking then { x with state := .armed, output := false, timer := none, owed := 0 } else x

/-- A stroke in flight, as one missed stroke. -/
def Injector.cutMissed (x : Injector) : Nat := if x.state = .stroking then 1 else 0

/-- The strokes owed behind a stroke in flight. -/
def Injector.cutSkipped (x : Injector) : Nat := if x.state = .stroking then x.owed else 0

theorem State.cutStroke_eq (j : Fin 8) :
    s.cutStroke j = s.countAt Injector.cutMissed Injector.cutSkipped Injector.cut j := by
  by_cases h : s.injectors[j].state = .stroking
  · rw [State.cutStroke, if_pos h, State.discardOwed_eq]
    have hb : ComponentResult.count 1 0 = fun r : ComponentResult => { r with missed := r.missed + 1 } := rfl
    have : (((s.countAt (fun _ => 0) Injector.owed (fun x => { x with owed := 0 }) j).modifyBound j fun r =>
        { r with missed := r.missed + 1 }).modifyInjector j fun x => { x with output := false, timer := none, state := .armed })
        = (s.countAt (fun _ => 0) Injector.owed (fun x => { x with owed := 0 }) j).countAt (fun _ => 1) (fun _ => 0)
          (fun x => { x with output := false, timer := none, state := .armed }) j := by rw [← hb]; rfl
    rw [this, State.countAt_countAt s j _ _ _ _ _ _ rfl, State.countAt, State.countAt]
    simp only [Injector.cutMissed, Injector.cutSkipped, if_pos h, Nat.zero_add, Nat.add_zero]
    refine State.modifyInjector_congr _ ?_
    rw [State.modifyBound_injectors, Injector.cut, if_pos h]; rfl
  · rw [State.cutStroke, if_neg h, State.countAt_zero]
    · exact if_neg h
    · exact if_neg h
    · exact if_neg h

/-- Every stroke in flight cut off, as one update. -/
theorem State.cutStrokes_eq :
    s.cutStrokes = { s.mapInjectors Injector.cut with
      load := s.load.map (LoadRecord.counted eights Injector.cutMissed Injector.cutSkipped s.injectors) } := by
  rw [← State.countAll, State.cutStrokes]
  congr 1
  exact funext fun t => funext (State.cutStroke_eq t)

/-! ### A flow that stops (R111) -/

/-- What an injector of compartment `n` owes behind a stroke in flight. -/
def Injector.stoppedSkipped (n : Nat) (x : Injector) : Nat := if x.boundTo n then x.cutSkipped else 0

theorem State.flowStops_step (n : Nat) (j : Fin 8) :
    (if s.injectors[j].boundTo n && s.injectors[j].state == .stroking then s.discardOwed j else s)
      = s.countAt (fun _ => 0) (Injector.stoppedSkipped n) (fun x => if x.boundTo n then x.flowStopped else x) j := by
  by_cases hn : s.injectors[j].boundTo n = true <;> by_cases hs : s.injectors[j].state = .stroking
  · rw [if_pos (by rw [hn, hs]; rfl), State.discardOwed_eq, State.countAt, State.countAt, Injector.stoppedSkipped, if_pos hn,
      Injector.cutSkipped, if_pos hs]
    refine State.modifyInjector_congr _ ?_
    rw [State.modifyBound_injectors, if_pos hn, Injector.flowStopped, if_pos hs]
  · rw [if_neg fun h => hs (eq_of_beq (Bool.and_eq_true_iff.1 h).2), State.countAt_zero]
    · rfl
    · rw [Injector.stoppedSkipped, if_pos hn, Injector.cutSkipped, if_neg hs]
    · rw [if_pos hn, Injector.flowStopped, if_neg hs]
  all_goals
    rw [if_neg fun h => hn (Bool.and_eq_true_iff.1 h).1, State.countAt_zero]
    · rfl
    · rw [Injector.stoppedSkipped, if_neg hn]
    · rw [if_neg hn]

theorem State.flowStops_countAll (n : Nat) :
    s.flowStops n = { s.mapInjectors (fun x => if x.boundTo n then x.flowStopped else x) with
      load := s.load.map (LoadRecord.counted eights (fun _ => 0) (Injector.stoppedSkipped n) s.injectors) } := by
  rw [← State.countAll, State.flowStops]
  congr 1
  exact funext fun t => funext (State.flowStops_step t n)

/-! ### A compartment that is DONE (R112) -/

def Injector.released (x : Injector) : Injector :=
  { x with
    state := .idle, binding := none, owed := 0
    output := if x.state = .stroking then false else x.output
    timer := if x.state = .stroking then none else x.timer
    consecutive := if x.state = .fault then 0 else x.consecutive }

theorem Injector.releasedTo_released (x : Injector) : x.ReleasedTo x.released := rfl

/-- A stroke of an injector of compartment `n` in flight, as one missed stroke. -/
def Injector.doneMissed (n : Nat) (x : Injector) : Nat := if x.boundTo n then x.cutMissed else 0

/-- What an injector of compartment `n` owes. -/
def Injector.doneSkipped (n : Nat) (x : Injector) : Nat := if x.boundTo n then x.owed else 0

theorem Injector.cut_binding (x : Injector) : x.cut.binding = x.binding := by unfold Injector.cut; split <;> rfl

theorem Injector.cut_owed (x : Injector) : x.cutSkipped + x.cut.owed = x.owed := by
  unfold Injector.cut Injector.cutSkipped; split <;> simp

/-- What R112 does with a stroke cut off and with the rest, in one. -/
theorem Injector.released_cut (x : Injector) :
    ({ x.cut with
      owed := 0, consecutive := if x.cut.state = .fault then 0 else x.cut.consecutive
      state := .idle, binding := none } : Injector) = x.released := by
  by_cases h : x.state = .stroking <;> simp [Injector.cut, Injector.released, h]

theorem State.releaseInjector_eq (j : Fin 8) :
    s.releaseInjector j = s.countAt Injector.cutMissed Injector.owed Injector.released j := by
  rw [State.releaseInjector, State.cutStroke_eq, State.discardOwed_eq,
    State.countAt_countAt s j _ _ _ _ _ _ (Injector.cut_binding _), State.countAt, State.modifyInjector_modifyInjector,
    State.countAt]
  simp only [Injector.cut_owed, Nat.add_zero]
  refine State.modifyInjector_congr _ ?_
  rw [State.modifyBound_injectors, ← Injector.released_cut]; rfl

theorem State.releaseInjectors_countAll (n : Nat) :
    s.releaseInjectors n = { s.mapInjectors (fun x => if x.boundTo n then x.released else x) with
      load := s.load.map (LoadRecord.counted eights (Injector.doneMissed n) (Injector.doneSkipped n) s.injectors) } := by
  rw [← State.countAll, State.releaseInjectors]
  congr 1
  refine funext fun t => funext fun j => ?_
  by_cases hn : t.injectors[j].boundTo n = true
  · rw [if_pos hn, State.releaseInjector_eq, State.countAt, State.countAt, Injector.doneMissed, Injector.doneSkipped,
      if_pos hn, if_pos hn]
    refine State.modifyInjector_congr _ ?_
    rw [State.modifyBound_injectors, if_pos hn]
  · rw [if_neg hn, State.countAt_zero]
    · rw [Injector.doneMissed, if_neg hn]
    · rw [Injector.doneSkipped, if_neg hn]
    · rw [if_neg hn]

/-! ### The counts in the terms of the rules -/

theorem Injector.boundTo_of_binding {x : Injector} {b : Binding} {n : Nat} (h : x.binding = some b) :
    x.boundTo n = (b.compartment == n) := by
  simp only [Injector.boundTo, h]

theorem Injector.boundTo_iff {x : Injector} {n : Nat} : x.boundTo n = true ↔ ∃ p, x.binding = some ⟨n, p⟩ := by
  unfold Injector.boundTo
  split
  · rename_i h; simp [h]
  · rename_i b h
    obtain ⟨m, p⟩ := b
    simp only [h, beq_iff_eq, Option.some_inj, Binding.mk.injEq]
    exact ⟨fun h => ⟨p, h, rfl⟩, fun ⟨_, h, _⟩ => h⟩

theorem boundSum_congr_fun {js : List (Fin 8)} {f g : Injector → Nat} {v : Vector Injector 8} {b : Binding}
    (h : ∀ x : Injector, x.binding = some b → f x = g x) : boundSum js f v b = boundSum js g v b := by
  unfold boundSum
  congr 1
  refine List.map_congr_left fun j hj => h _ ?_
  simpa using (List.mem_filter.1 hj).2

/-- A figure that only some of the bound injectors have. -/
theorem boundSum_ite (js : List (Fin 8)) (q : Injector → Bool) (f : Injector → Nat) (v : Vector Injector 8) (b : Binding) :
    boundSum js (fun x => if q x then f x else 0) v b
      = ((js.filter fun j => v[j].binding == some b && q v[j]).map fun j => f v[j]).sum := by
  unfold boundSum
  induction js with
  | nil => rfl
  | cons j js ih =>
    cases hb : v[j].binding == some b <;> cases hq : q v[j]
    all_goals
      simp only [Fin.getElem_fin] at hb hq ih ⊢
      simp [hb, hq, ih]

theorem sum_map_one (js : List (Fin 8)) : (js.map fun _ => 1).sum = js.length := by
  simp

/-- Strokes in flight at a component result. -/
theorem boundSum_cutMissed (v : Vector Injector 8) (b : Binding) :
    boundSum eights Injector.cutMissed v b
      = (eights.filter fun j => v[j].binding == some b && v[j].state == .stroking).length := by
  rw [← sum_map_one, ← boundSum_ite eights (fun x => x.state == .stroking) (fun _ => 1) v b]
  exact boundSum_congr_fun fun x _ => by simp only [Injector.cutMissed, beq_iff_eq]

/-- Strokes owed behind those in flight at a component result. -/
theorem boundSum_cutSkipped (v : Vector Injector 8) (b : Binding) :
    boundSum eights Injector.cutSkipped v b
      = ((eights.filter fun j => v[j].binding == some b && v[j].state == .stroking).map fun j => v[j].owed).sum := by
  rw [← boundSum_ite eights (fun x => x.state == .stroking) Injector.owed v b]
  exact boundSum_congr_fun fun x _ => by simp only [Injector.cutSkipped, beq_iff_eq]

/-- A figure of the injectors of compartment `n` counts at the results of that compartment. -/
theorem boundSum_boundTo (n p : Nat) (f : Injector → Nat) (v : Vector Injector 8) :
    boundSum eights (fun x => if x.boundTo n then f x else 0) v ⟨n, p⟩ = boundSum eights f v ⟨n, p⟩ :=
  boundSum_congr_fun fun _ h => if_pos (Injector.boundTo_iff.2 ⟨p, h⟩)

/-- A figure of the injectors of compartment `n` counts at no other compartment. -/
theorem boundSum_not_boundTo {n m : Nat} (hm : m ≠ n) (p : Nat) (f : Injector → Nat) (v : Vector Injector 8) :
    boundSum eights (fun x => if x.boundTo n then f x else 0) v ⟨m, p⟩ = 0 := by
  have h : ∀ x : Injector, x.binding = some ⟨m, p⟩ → (if x.boundTo n then f x else 0) = 0 := fun x hx => by
    rw [Injector.boundTo_of_binding hx, if_neg (by simpa using hm)]
  rw [boundSum_congr_fun h]
  simp [boundSum]

/-- What the component results of compartment `n` count of the injectors bound to it. -/
def countedAt (n : Nat) (m k : Injector → Nat) (v : Vector Injector 8) (rs : List ComponentResult) : List ComponentResult :=
  rs.map fun r => r.count (boundSum eights m v ⟨n, r.position⟩) (boundSum eights k v ⟨n, r.position⟩)

/-- Counting the injectors of compartment `n` changes the results of that compartment alone. -/
theorem LoadRecord.counted_boundTo (n : Nat) (m k : Injector → Nat) (v : Vector Injector 8) (l : LoadRecord) :
    l.counted eights (fun x => if x.boundTo n then m x else 0) (fun x => if x.boundTo n then k x else 0) v
      = l.modifyComp n fun c => { c with additives := countedAt n m k v c.additives } := by
  simp only [LoadRecord.counted, LoadRecord.modifyComp, LoadRecord.mk.injEq, true_and, and_true]
  refine List.map_congr_left fun c _ => ?_
  by_cases h : c.line.compartment = n
  · rw [if_pos h]
    simp only [CompRecord.counted, h, boundSum_boundTo, countedAt]
  · rw [if_neg h]
    simp only [CompRecord.counted, boundSum_not_boundTo h, ComponentResult.count_zero, List.map_id']

theorem countedAt_skipOwed (n : Nat) (rs : List ComponentResult) :
    countedAt n (fun _ => 0) Injector.cutSkipped s.injectors rs = s.skipOwed n rs := by
  refine List.map_congr_left fun r _ => ?_
  rw [boundSum_cutSkipped]
  simp [boundSum, ComponentResult.count]

/-- A flow that stops, as one update (R111). -/
theorem State.flowStops_eq (n : Nat) :
    s.flowStops n
      = { (s.modifyComp n fun c => { c with additives := s.skipOwed n c.additives }) with
          injectors := (s.mapInjectors fun x => if x.boundTo n then x.flowStopped else x).injectors } := by
  have h : LoadRecord.counted eights (fun _ => 0) (Injector.stoppedSkipped n) s.injectors
      = LoadRecord.modifyComp n fun c => { c with additives := s.skipOwed n c.additives } := by
    funext l
    simp only [← countedAt_skipOwed]
    rw [← LoadRecord.counted_boundTo]
    congr 1
    exact funext fun x => (ite_self 0).symm
  rw [State.flowStops_countAll, h]; rfl

/-- What the component results of compartment `n` count as its injectors are released (R112). -/
def State.countReleased (n : Nat) (s : State) (rs : List ComponentResult) : List ComponentResult :=
  countedAt n Injector.cutMissed Injector.owed s.injectors rs

/-- The release of a compartment's injectors, as one update (R112). -/
theorem State.releaseInjectors_eq (n : Nat) :
    s.releaseInjectors n
      = { (s.modifyComp n fun c => { c with additives := s.countReleased n c.additives }) with
          injectors := (s.mapInjectors fun x => if x.boundTo n then x.released else x).injectors } := by
  have h : LoadRecord.counted eights (Injector.doneMissed n) (Injector.doneSkipped n) s.injectors
      = LoadRecord.modifyComp n fun c => { c with additives := s.countReleased n c.additives } := by
    funext l
    exact LoadRecord.counted_boundTo n Injector.cutMissed Injector.owed s.injectors l
  rw [State.releaseInjectors_countAll, h]; rfl

/-- The injectors of compartment `n` are released and no other is touched (R112). -/
theorem State.injectorsAtDone_of {n : Nat} {s t : State}
    (h : t.injectors = (s.mapInjectors fun x => if x.boundTo n then x.released else x).injectors) :
    s.InjectorsAtDone n t := by
  intro j
  have hj : t.injectors[j] = if s.injectors[j].boundTo n then s.injectors[j].released else s.injectors[j] := by
    rw [h, State.mapInjectors_get]
  refine ⟨fun hb => ?_, fun hb => ?_⟩
  · rw [hj, if_pos (Injector.boundTo_iff.2 hb)]; exact Injector.releasedTo_released _
  · rw [hj, if_neg fun hx => ?_]
    obtain ⟨p, hp⟩ := Injector.boundTo_iff.1 hx
    exact hb p hp

/-! ### The judgement (R113) -/

theorem strokePoint_zero (v r : Nat) : strokePoint v r 0 = v * 1000 / (2 * r) := by
  simp [strokePoint]

/-- The judgement of a counted result, in the terms of R113. -/
theorem ComponentResult.judgedTo_count (gross cut owed : Nat) (r : ComponentResult) :
    r.JudgedTo gross cut owed ((r.count cut owed).judged gross) := by
  unfold ComponentResult.JudgedTo
  intro expected apart counted
  constructor
  · intro j v hj hv hp
    have hp : 2 * strokePoint v r.component.ratio 0 ≤ gross := by rwa [strokePoint_zero]
    constructor
    · intro hw
      have hw : ¬ r.component.tolerance * expected < apart.natAbs * 100 := by omega
      simp only [ComponentResult.judged, ComponentResult.count, hj, hv, if_pos hp, counted]
      simp [expected, apart] at hw ⊢
      omega
    · intro hw
      simp only [ComponentResult.judged, ComponentResult.count, hj, hv, if_pos hp, counted]
      simp [expected, apart] at hw ⊢
      omega
  · intro h
    obtain h | h | ⟨v, hv, hg⟩ := h
    · simp only [ComponentResult.judged, ComponentResult.count, h, counted]; rfl
    · simp only [ComponentResult.judged, ComponentResult.count, h, counted]
      split <;> first | contradiction | rfl
    · have hg : ¬ 2 * strokePoint v r.component.ratio 0 ≤ gross := by rw [strokePoint_zero]; omega
      simp only [ComponentResult.judged, ComponentResult.count, hv, counted]
      split
      · rename_i h; cases h; rw [if_neg hg]
      · rfl

end Sys2Proof.Machine
end

section
/-! PROOFS. A change of a compartment and a drive to close, as updates of load record, arms, injectors and ports. -/

namespace Sys2Proof.Machine

/-! ### Event queues only grow -/

/-- Every event that stood in a queue of `q` stands in that of `r`, in its place. -/
def Ports.Grows (q r : Ports) : Prop := ∀ p : Port, (q.get p).events <+: (r.get p).events

theorem Ports.Grows.refl (q : Ports) : q.Grows q := fun _ => List.prefix_rfl

theorem Ports.Grows.trans {p q r : Ports} (h : p.Grows q) (h' : q.Grows r) : p.Grows r := fun x => (h x).trans (h' x)

theorem PortState.offer_grows (e : Event) (x : PortState) : x.events <+: (x.offer e).events := by
  unfold PortState.offer; split
  · exact List.prefix_append ..
  · exact List.prefix_rfl

theorem Ports.offer_grows (e : Event) (q : Ports) : q.Grows (q.offer e) := by
  intro p
  cases p <;> (simp only [Ports.offer, Ports.get]; split)
  all_goals first | exact PortState.offer_grows .. | exact List.prefix_rfl

/-- An event offered to a queue with a place joins it. -/
theorem PortState.mem_offer {e : Event} {x : PortState} (h : x.events.length < 16) : e ∈ (x.offer e).events := by
  unfold PortState.offer; rw [if_pos h]; exact List.mem_append_right _ (List.mem_singleton_self e)

/-- What an operation does leaves every event that was told before. -/
def State.Tells (s t : State) : Prop := s.ports.Grows t.ports

variable {o s t : State}

theorem State.Tells.refl (s : State) : s.Tells s := Ports.Grows.refl _

theorem State.Tells.trans (h : o.Tells s) (h' : s.Tells t) : o.Tells t := Ports.Grows.trans h h'

theorem State.Tells.of_ports (h : t.ports = s.ports) : s.Tells t := by rw [State.Tells, h]; exact Ports.Grows.refl _

theorem State.tells_post (c : EventCode) (k : ObjectKind) (n : Nat) (v : BitVec 32) (s : State) :
    s.Tells (s.post c k n v) := Ports.offer_grows _ _

theorem State.Tells.foldl {α : Type} {f : State → α → State} (hf : ∀ (s : State) (x : α), s.Tells (f s x)) (l : List α) (s : State) :
    s.Tells (l.foldl f s) := by
  induction l generalizing s with
  | nil => exact .refl s
  | cons x l ih => exact (hf s x).trans (ih _)

/-! ### Image points and checkpoints -/

variable (s)

@[simp] theorem State.mapWaiting_ports (f : List Record → List Record) : (s.mapWaiting f).ports = s.ports := by
  unfold State.mapWaiting; split <;> rfl
@[simp] theorem State.imagePoint_ports : s.imagePoint.ports = s.ports := by
  unfold State.imagePoint State.refreshImages State.queueImage; (repeat' split) <;> simp
@[simp] theorem State.imagePoint_load : s.imagePoint.load = s.load := s.imagePoint_keeps.1
@[simp] theorem State.imagePoint_injectors : s.imagePoint.injectors = s.injectors := s.imagePoint_keeps.2.2
@[simp] theorem State.mapWaiting_load (f : List Record → List Record) : (s.mapWaiting f).load = s.load := by
  unfold State.mapWaiting; split <;> rfl
@[simp] theorem State.mapWaiting_injectors (f : List Record → List Record) : (s.mapWaiting f).injectors = s.injectors := by
  unfold State.mapWaiting; split <;> rfl
@[simp] theorem State.callCheckpoint_load : s.callCheckpoint.load = s.load := by
  unfold State.callCheckpoint; (repeat' split) <;> simp
@[simp] theorem State.callCheckpoint_injectors : s.callCheckpoint.injectors = s.injectors := by
  unfold State.callCheckpoint; (repeat' split) <;> simp
@[simp] theorem State.callCheckpoint_ports : s.callCheckpoint.ports = s.ports := by
  unfold State.callCheckpoint; (repeat' split) <;> simp
@[simp] theorem State.evalLoad_injectors : s.evalLoad.injectors = s.injectors := s.evalLoad_keeps.2
@[simp] theorem State.evalComps_injectors : s.evalComps.injectors = s.injectors := by
  unfold State.evalComps; split <;> simp
@[simp] theorem State.compChanged_injectors (n : Nat) : (s.compChanged n).injectors = s.injectors := by
  unfold State.compChanged; split <;> simp

theorem State.tells_evalLoad : s.Tells s.evalLoad := by
  unfold State.evalLoad; split
  · exact .refl s
  · split
    · exact .refl s
    · exact Ports.offer_grows _ _

theorem State.tells_evalComps : s.Tells s.evalComps := by
  unfold State.evalComps; split
  · exact .refl s
  · exact s.tells_evalLoad

theorem State.tells_compChanged (n : Nat) : s.Tells (s.compChanged n) := by
  unfold State.compChanged; split
  · exact .refl s
  · exact ((State.tells_post _ _ _ _ s).trans (State.tells_evalComps _)).trans (.of_ports (State.imagePoint_ports _))

/-! ### The load state after a change -/

/-- The load record with its state evaluated, unless it is about to enter CLOSING (R12, R17). -/
def LoadRecord.reevaluated (l : LoadRecord) : LoadRecord := if l.finishing then l else { l with state := l.evaluated }

theorem LoadRecord.reevaluated_comps (l : LoadRecord) : l.reevaluated.comps = l.comps := by
  unfold LoadRecord.reevaluated; split <;> rfl

theorem LoadRecord.reevaluated_causes (l : LoadRecord) : l.reevaluated.causes = l.causes := by
  unfold LoadRecord.reevaluated; split <;> rfl

theorem LoadRecord.reevaluated_with_state (l : LoadRecord) : ∃ st, l.reevaluated = { l with state := st } := by
  unfold LoadRecord.reevaluated; split
  · exact ⟨l.state, rfl⟩
  · exact ⟨_, rfl⟩

theorem LoadRecord.evaluated_of_closing {l : LoadRecord} (h : l.state = .closing) : l.evaluated = .closing := if_pos h

theorem LoadRecord.reevaluated_of_closing {l : LoadRecord} (h : l.state = .closing) : l.reevaluated = l := by
  unfold LoadRecord.reevaluated; rw [LoadRecord.evaluated_of_closing h, ← h, ite_self]

/-- The load record evaluated, whatever was posted (R12). -/
theorem State.evalLoad_load_eq {l : LoadRecord} (h : s.load = some l) :
    s.evalLoad.load = some { l with state := l.evaluated } := by
  unfold State.evalLoad
  simp only [h]
  split
  · rename_i he; rw [he]; exact h
  · rfl

theorem State.evalLoad_without_load (h : s.load = none) : s.evalLoad = s := by
  simp only [State.evalLoad, h]

theorem State.evalComps_load_map : s.evalComps.load = s.load.map LoadRecord.reevaluated := by
  cases h : s.load with
  | none => simp [State.evalComps, State.evalLoad, h]
  | some l => exact s.evalComps_load l h

theorem State.comp?_of_load {l : LoadRecord} {n : Nat} (h : s.load = some l) : s.comp? n = l.comp? n := by
  simp only [State.comp?, h, Option.bind_some]

/-- A change of a compartment of the load (R12, R13). -/
theorem State.compChanged_load {n : Nat} {c : CompRecord} (h : s.comp? n = some c) :
    (s.compChanged n).load = s.load.map LoadRecord.reevaluated := by
  simp only [State.compChanged, h, State.imagePoint_load, State.evalComps_load_map, State.post_load]

theorem State.compChanged_of_none {n : Nat} (h : s.comp? n = none) : s.compChanged n = s := by
  simp only [State.compChanged, h]

/-! ### Changes of a compartment that keep its number -/

theorem LoadRecord.modifyComp_comp? {n : Nat} {f : CompRecord → CompRecord}
    (hf : ∀ c, (f c).line.compartment = c.line.compartment) (l : LoadRecord) (m : Nat) :
    (l.modifyComp n f).comp? m = (l.comp? m).map fun c => if c.line.compartment = n then f c else c := by
  simp only [LoadRecord.comp?, LoadRecord.modifyComp, List.find?_map]
  congr 2
  funext c
  simp only [Function.comp]
  split <;> simp [hf]

theorem LoadRecord.comp?_compartment {n : Nat} {l : LoadRecord} {c : CompRecord} (h : l.comp? n = some c) :
    c.line.compartment = n := by
  simpa using List.find?_some h

theorem State.comp?_compartment {n : Nat} {c : CompRecord} (h : s.comp? n = some c) : c.line.compartment = n := by
  obtain ⟨l, _, hc⟩ := State.comp?_eq_some.1 h
  exact LoadRecord.comp?_compartment hc

theorem State.modifyComp_comp? {n : Nat} {f : CompRecord → CompRecord}
    (hf : ∀ c, (f c).line.compartment = c.line.compartment) (m : Nat) :
    (s.modifyComp n f).comp? m = (s.comp? m).map fun c => if c.line.compartment = n then f c else c := by
  cases h : s.load with
  | none => simp [State.comp?, State.modifyComp, State.modifyLoad, h]
  | some l =>
    simp only [State.comp?, State.modifyComp, State.modifyLoad, h, Option.map_some, Option.bind_some]
    exact LoadRecord.modifyComp_comp? hf l m

/-! ### A drive to close -/

theorem State.skipOwed_congr {t : State} (h : t.injectors = s.injectors) (n : Nat) (rs : List ComponentResult) :
    State.skipOwed n rs t = State.skipOwed n rs s := by
  unfold State.skipOwed; rw [h]

/-- What a drive to close makes of the compartments of number `n` (R14, R111). -/
def State.drivenAt (n : Nat) (r : CloseReason) (s : State) (c : CompRecord) : CompRecord :=
  { c with state := .closing, closeReason := some r, additives := s.skipOwed n c.additives }

/-- The state in which a drive that reaches its compartment posts the change (R14, R80, R111). -/
def State.atDrive (n : Nat) (a : Fin 4) (r : CloseReason) (s : State) : State :=
  { (s.modifyComp n (s.drivenAt n r)).modifyArm a Arm.driven with
    injectors := (s.mapInjectors fun x => if x.boundTo n then x.flowStopped else x).injectors }

theorem State.modifyArm_modifyComp (n : Nat) (a : Fin 4) (f : CompRecord → CompRecord) (g : Arm → Arm) :
    (s.modifyArm a g).modifyComp n f = (s.modifyComp n f).modifyArm a g := rfl

theorem State.mapInjectors_congr {t : State} (h : t.injectors = s.injectors) (f : Injector → Injector) :
    (t.mapInjectors f).injectors = (s.mapInjectors f).injectors := by
  simp only [State.mapInjectors, h]

/-- A drive that reaches its compartment, as one update before the change is posted. -/
theorem State.driveClose_eq {n : Nat} {r : CloseReason} {c : CompRecord} (h : s.comp? n = some c)
    (hd : c.state.isDrivable = true) : s.driveClose n r = (s.atDrive n c.line.arm r).compChanged n := by
  have hm := State.modifyComp_modifyComp s n (fun c => { c with state := .closing, closeReason := some r })
    (fun c => { c with additives := s.skipOwed n c.additives }) fun _ => rfl
  have hi : ((s.modifyComp n fun c => { c with state := .closing, closeReason := some r }).modifyArm c.line.arm
      Arm.driven).injectors = s.injectors := rfl
  simp only [State.driveClose, h, hd, if_true]
  rw [State.flowStops_eq, State.mapInjectors_congr s hi]
  simp only [State.skipOwed_congr s hi, State.modifyArm_modifyComp, hm]
  rfl

theorem State.driveClose_of_not_drivable {n : Nat} {r : CloseReason} (h : ∀ c, s.comp? n = some c → c.state.isDrivable = false) :
    s.driveClose n r = s := by
  unfold State.driveClose
  split
  · rfl
  · rename_i c hc; rw [if_neg (by rw [h c hc]; exact Bool.false_ne_true)]

section Drive

variable {n : Nat} {r : CloseReason} {c : CompRecord}

theorem State.atDrive_comp? (h : s.comp? n = some c) (a : Fin 4) :
    (s.atDrive n a r).comp? n = some (s.drivenAt n r c) := by
  have hm := State.modifyComp_comp? s (n := n) (f := s.drivenAt n r) (fun _ => rfl) n
  rw [h, Option.map_some, if_pos (s.comp?_compartment h)] at hm
  exact hm

theorem State.driveClose_load (h : s.comp? n = some c) (hd : c.state.isDrivable = true) :
    (s.driveClose n r).load = s.load.map fun l => (l.modifyComp n (s.drivenAt n r)).reevaluated := by
  rw [State.driveClose_eq s h hd, State.compChanged_load _ (State.atDrive_comp? s h _)]
  exact Option.map_map ..

theorem State.driveClose_arms (h : s.comp? n = some c) (hd : c.state.isDrivable = true) :
    (s.driveClose n r).arms = s.arms.set c.line.arm s.arms[c.line.arm].driven := by
  rw [State.driveClose_eq s h hd, State.compChanged_arms]; rfl

theorem State.driveClose_injectors (h : s.comp? n = some c) (hd : c.state.isDrivable = true) (j : Fin 8) :
    (s.driveClose n r).injectors[j]
      = if s.injectors[j].boundTo n then s.injectors[j].flowStopped else s.injectors[j] := by
  rw [State.driveClose_eq s h hd, State.compChanged_injectors]
  exact State.mapInjectors_get s (fun x => if x.boundTo n then x.flowStopped else x) j

end Drive

theorem State.tells_driveClose (n : Nat) (r : CloseReason) : s.Tells (s.driveClose n r) := by
  cases h : s.comp? n with
  | none =>
    rw [State.driveClose_of_not_drivable s fun _ hc => nomatch h.symm.trans hc]
    exact .refl s
  | some c =>
    cases hd : c.state.isDrivable with
    | false =>
      rw [State.driveClose_of_not_drivable s fun _ hc => Option.some.inj (h.symm.trans hc) ▸ hd]
      exact .refl s
    | true =>
      rw [State.driveClose_eq s h hd]
      exact State.tells_compChanged (s.atDrive n c.line.arm r) n

/-- An event of a compartment's change reaches TP and PP where their queues have a place (R13, R173). -/
theorem State.compChanged_tells {n : Nat} {c : CompRecord} (h : s.comp? n = some c) {p : Port} (hp : p ≠ .sp)
    (hq : (s.ports.get p).events.length < 16) :
    ⟨.compartmentState, .compartment, n, w32 c.state.number, s.clock.second⟩ ∈ ((s.compChanged n).ports.get p).events := by
  have hm : ⟨.compartmentState, .compartment, n, w32 c.state.number, s.clock.second⟩
      ∈ ((s.post .compartmentState .compartment n (w32 c.state.number)).ports.get p).events := by
    cases p
    · exact PortState.mem_offer hq
    · exact PortState.mem_offer hq
    · exact absurd rfl hp
  simp only [State.compChanged, h, State.imagePoint_ports]
  exact (State.tells_evalComps _ p).subset hm

/-! ### O38 -/

theorem Injector.flowStopped_of_not_stroking {x : Injector} (h : x.state ≠ .stroking) : x.flowStopped = x := if_neg h

theorem Injector.flowStopped_of_stroking {x : Injector} (h : x.state = .stroking) : x.flowStopped = { x with owed := 0 } :=
  if_pos h

theorem Arm.driven_of_staging {x : Arm} (h : x.state.isStaging = true) : x.driven
    = { x with
        state := .closing, valve := .closed, settleTimer := none, hold := false
        closeTimer := some (x.config.closeTimeout * 1000), zeroRun := 0, learnable := false } := if_pos h

/-- Settles O38: a drive that reaches its compartment is one update and the change it posts. -/
theorem closeDriveClosesValve : Obligations.CloseDriveClosesValve := by
  intro r c l s hl hfound
  have hc : s.comp? c.line.compartment = some c := (State.comp?_of_load s hl).trans hfound
  refine ⟨fun hs => State.driveClose_of_not_drivable s fun d hd => ?_, fun hs hstaging => ?_⟩
  · rw [← Option.some.inj (hc.symm.trans hd)]; exact CompState.not_isDrivable_iff.2 hs
  · have hd := CompState.isDrivable_iff.2 hs
    obtain ⟨hpumps, -, -, -, -, hapart⟩ := State.of_still (State.driveClose_still s c.line.compartment r)
    have hload := State.driveClose_load s (r := r) hc hd
    rw [hl, Option.map_some] at hload
    refine ⟨_, hload, LoadRecord.reevaluated_comps _,
      LoadRecord.reevaluated_causes _, ?_, hpumps, (State.of_apart hapart).1, fun j => ⟨?_, ?_⟩, fun p hp hq => ?_⟩
    · rw [State.driveClose_arms s hc hd, Arm.driven_of_staging hstaging]
    · intro hb hst
      rw [State.driveClose_injectors s hc hd, if_pos (Injector.boundTo_iff.2 hb), Injector.flowStopped_of_stroking hst]
    · intro h
      rw [State.driveClose_injectors s hc hd]
      obtain hb | hst := h
      · rw [if_neg fun hx => let ⟨p, hp⟩ := Injector.boundTo_iff.1 hx; hb p hp]
      · rw [Injector.flowStopped_of_not_stroking hst, ite_self]
    · rw [State.driveClose_eq s hc hd]
      exact State.compChanged_tells (s.atDrive c.line.compartment c.line.arm r) (State.atDrive_comp? s hc _) hp hq

end Sys2Proof.Machine
end

section
/-! PROOFS. Drives of several compartments, whose numbers differ: what they have made of load record, arms and injectors. -/

namespace Sys2Proof.Machine

variable {s t : State} {q : CompRecord → Bool} {r : CloseReason} {l u : LoadRecord}

/-- On the way from `s`, whose load is `l`, to `t`, whose load is `u`, the compartments that `q` picks have been driven to close
for the reason `r`, each from a state that a drive reaches, and no other compartment, arm or injector has been touched. -/
structure State.DrivenOver (s : State) (q : CompRecord → Bool) (r : CloseReason) (l u : LoadRecord) (t : State) : Prop where
  drivable : ∀ c, q c = true → c.state.isDrivable = true
  load : t.load = some u
  record : ∃ st, u = { l with state := st, comps := l.comps.map fun c => if q c then s.drivenComp r c else c }
  closing : l.state = .closing → u.state = .closing
  arms : ∀ a : Fin 4, ((∃ c ∈ l.comps, q c = true ∧ c.line.arm = a) → t.arms[a] = s.arms[a].driven)
    ∧ ((∀ c ∈ l.comps, q c = true → c.line.arm ≠ a) → t.arms[a] = s.arms[a])
  injectors : ∀ j : Fin 8,
    ((∃ c ∈ l.comps, q c = true ∧ s.injectors[j].boundTo c.line.compartment = true) →
      t.injectors[j] = s.injectors[j].flowStopped)
    ∧ ((∀ c ∈ l.comps, q c = true → s.injectors[j].boundTo c.line.compartment = false) → t.injectors[j] = s.injectors[j])
  tells : s.Tells t
  still : t.still = s.still

theorem State.DrivenOver.none (hl : s.load = some l) : s.DrivenOver (fun _ => false) r l l s where
  drivable _ h := nomatch h
  load := hl
  record := ⟨l.state, by simp⟩
  closing := id
  arms _ := ⟨fun ⟨_, _, h, _⟩ => (nomatch h), fun _ => rfl⟩
  injectors _ := ⟨fun ⟨_, _, h, _⟩ => (nomatch h), fun _ => rfl⟩
  tells := .refl s
  still := rfl

theorem Arm.driven_driven (x : Arm) : x.driven.driven = x.driven := by
  by_cases h : x.state.isStaging = true
  · rw [Arm.driven_of_staging h]; rfl
  · have hx : x.driven = x := if_neg h
    rw [hx, hx]

theorem Injector.flowStopped_flowStopped (x : Injector) : x.flowStopped.flowStopped = x.flowStopped := by
  by_cases h : x.state = .stroking
  · rw [Injector.flowStopped_of_stroking h, Injector.flowStopped, if_pos h]
  · rw [Injector.flowStopped_of_not_stroking h, Injector.flowStopped_of_not_stroking h]

theorem Injector.flowStopped_binding (x : Injector) : x.flowStopped.binding = x.binding := by
  unfold Injector.flowStopped; split <;> rfl

theorem Injector.flowStopped_boundTo (x : Injector) (n : Nat) : x.flowStopped.boundTo n = x.boundTo n := by
  simp only [Injector.boundTo, Injector.flowStopped_binding]

/-- A drive at another compartment changes nothing that a drive at compartment `n` counts (R111). -/
theorem State.skipOwed_of_bound {n : Nat} (h : ∀ j : Fin 8, s.injectors[j].boundTo n = true → t.injectors[j] = s.injectors[j])
    (hb : ∀ j : Fin 8, t.injectors[j].boundTo n = s.injectors[j].boundTo n) (rs : List ComponentResult) :
    State.skipOwed n rs t = State.skipOwed n rs s := by
  rw [← countedAt_skipOwed, ← countedAt_skipOwed]
  refine List.map_congr_left fun x _ => ?_
  have same (j : Fin 8) (hj : (t.injectors[j].binding == some ⟨n, x.position⟩) = true) : t.injectors[j] = s.injectors[j] :=
    h j ((hb j).symm.trans (Injector.boundTo_iff.2 ⟨_, eq_of_beq hj⟩))
  have same' (j : Fin 8) (hj : (s.injectors[j].binding == some ⟨n, x.position⟩) = true) : t.injectors[j] = s.injectors[j] :=
    h j (Injector.boundTo_iff.2 ⟨_, eq_of_beq hj⟩)
  have hf : (eights.filter fun j => t.injectors[j].binding == some ⟨n, x.position⟩)
      = eights.filter fun j => s.injectors[j].binding == some ⟨n, x.position⟩ := by
    refine List.filter_congr fun j _ => ?_
    cases ht : t.injectors[j].binding == some ⟨n, x.position⟩ with
    | true => rw [← same j ht, ht]
    | false =>
      cases hs : s.injectors[j].binding == some ⟨n, x.position⟩ with
      | true => rw [same' j hs, hs] at ht; exact nomatch ht
      | false => rfl
  have hsum (f : Injector → Nat) : boundSum eights f t.injectors ⟨n, x.position⟩
      = boundSum eights f s.injectors ⟨n, x.position⟩ := by
    unfold boundSum
    rw [hf]
    congr 1
    exact List.map_congr_left fun j hj => by rw [same' j (List.mem_filter.1 hj).2]
  rw [hsum, hsum]

namespace State.DrivenOver

variable (h : s.DrivenOver q r l u t)
include h

theorem comps : u.comps = l.comps.map fun c => if q c then s.drivenComp r c else c := by
  obtain ⟨st, hu⟩ := h.record; rw [hu]

theorem causes : u.causes = l.causes := by
  obtain ⟨st, hu⟩ := h.record; rw [hu]

theorem injector_cases (j : Fin 8) : t.injectors[j] = s.injectors[j].flowStopped ∨ t.injectors[j] = s.injectors[j] := by
  by_cases hj : ∃ c ∈ l.comps, q c = true ∧ s.injectors[j].boundTo c.line.compartment = true
  · exact .inl ((h.injectors j).1 hj)
  · refine .inr ((h.injectors j).2 fun c hc hq => ?_)
    by_contra hb
    exact hj ⟨c, hc, hq, by simpa using hb⟩

theorem boundTo (j : Fin 8) (n : Nat) : t.injectors[j].boundTo n = s.injectors[j].boundTo n := by
  obtain hj | hj := h.injector_cases j
  · rw [hj, Injector.flowStopped_boundTo]
  · rw [hj]

/-- The compartment of a number as the drives have left it. -/
theorem comp? (n : Nat) : t.comp? n = (l.comp? n).map fun c => if q c then s.drivenComp r c else c := by
  rw [State.comp?_of_load t h.load]
  simp only [LoadRecord.comp?, h.comps, List.find?_map]
  congr 2
  funext c
  simp only [Function.comp]
  split <;> rfl

/-- A compartment that a drive still reaches is as it was. -/
theorem comp?_drivable {n : Nat} {c : CompRecord} (hc : t.comp? n = some c) (hd : c.state.isDrivable = true) :
    l.comp? n = some c ∧ q c = false := by
  rw [h.comp?, Option.map_eq_some_iff] at hc
  obtain ⟨d, hd', rfl⟩ := hc
  cases hq : q d with
  | true => rw [hq, if_pos rfl] at hd; exact nomatch hd
  | false => rw [if_neg Bool.false_ne_true]; exact ⟨hd', hq⟩

end State.DrivenOver

theorem LoadRecord.comp?_of_mem {n : Nat} {c : CompRecord} (hn : (l.comps.map fun c => c.line.compartment).Nodup)
    (hc : c ∈ l.comps) (hcn : c.line.compartment = n) : l.comp? n = some c := by
  cases h : l.comp? n with
  | none => exact absurd hcn (by simpa [LoadRecord.comp?] using List.find?_eq_none.1 h c hc)
  | some d =>
    have hd : d ∈ l.comps := List.mem_of_find?_eq_some h
    rw [List.inj_on_of_nodup_map hn hd hc ((LoadRecord.comp?_compartment h).trans hcn.symm)]

namespace State.DrivenOver

/-- Which compartments are driven is read at those of the load. -/
theorem congr {q' : CompRecord → Bool} (h : s.DrivenOver q r l u t) (hd : ∀ c, q' c = true → c.state.isDrivable = true)
    (hq : ∀ c ∈ l.comps, q' c = q c) : s.DrivenOver q' r l u t where
  drivable := hd
  load := h.load
  record := by
    obtain ⟨st, hu⟩ := h.record
    refine ⟨st, hu.trans ?_⟩
    congr 1
    exact List.map_congr_left fun c hc => by rw [hq c hc]
  closing := h.closing
  arms a := ⟨fun ⟨c, hc, hqc, ha⟩ => (h.arms a).1 ⟨c, hc, hq c hc ▸ hqc, ha⟩,
    fun ha => (h.arms a).2 fun c hc hqc => ha c hc ((hq c hc).symm ▸ hqc)⟩
  injectors j := ⟨fun ⟨c, hc, hqc, hb⟩ => (h.injectors j).1 ⟨c, hc, hq c hc ▸ hqc, hb⟩,
    fun hb => (h.injectors j).2 fun c hc hqc => hb c hc ((hq c hc).symm ▸ hqc)⟩
  tells := h.tells
  still := h.still

variable {c : CompRecord} {n : Nat}

/-- What a drive makes of its compartment does not depend on the drives before it. -/
theorem drivenAt_eq (h : s.DrivenOver q r l u t) (hn : (l.comps.map fun c => c.line.compartment).Nodup)
    (hc : l.comp? n = some c) (hqc : q c = false) : t.drivenAt n r c = s.drivenComp r c := by
  have hcn := LoadRecord.comp?_compartment hc
  have hinj : ∀ j : Fin 8, s.injectors[j].boundTo n = true → t.injectors[j] = s.injectors[j] := by
    intro j hj
    refine (h.injectors j).2 fun d hdm hqd => ?_
    obtain ⟨p, hp⟩ := Injector.boundTo_iff.1 hj
    rw [Injector.boundTo_of_binding hp, beq_eq_false_iff_ne]
    intro hnd
    rw [List.inj_on_of_nodup_map hn hdm (List.mem_of_find?_eq_some hc) (hnd.symm.trans hcn.symm), hqc] at hqd
    exact nomatch hqd
  simp only [State.drivenAt, State.drivenComp, hcn, State.skipOwed_of_bound hinj fun j => h.boundTo j n]

/-- The load record once a further compartment is driven. -/
theorem modifyComp_record (h : s.DrivenOver q r l u t) (hn : (l.comps.map fun c => c.line.compartment).Nodup)
    (hc : l.comp? n = some c) (hqc : q c = false) :
    ∃ st, u.modifyComp n (t.drivenAt n r)
      = { l with state := st, comps := l.comps.map fun d => if q d || decide (d = c) then s.drivenComp r d else d } := by
  have hcn := LoadRecord.comp?_compartment hc
  obtain ⟨su, hu⟩ := h.record
  refine ⟨su, ?_⟩
  rw [hu]
  simp only [LoadRecord.modifyComp, List.map_map, LoadRecord.mk.injEq, true_and, and_true]
  refine List.map_congr_left fun d hdm => ?_
  simp only [Function.comp]
  by_cases hdc : d = c
  · rw [hdc, hqc, if_neg Bool.false_ne_true, if_pos hcn, if_pos (by simp)]
    exact h.drivenAt_eq hn hc hqc
  · have hdn : d.line.compartment ≠ n := fun he =>
      hdc (List.inj_on_of_nodup_map hn hdm (List.mem_of_find?_eq_some hc) (he.trans hcn.symm))
    rw [show decide (d = c) = false from decide_eq_false hdc, Bool.or_false]
    have hdn' : (if q d then s.drivenComp r d else d).line.compartment ≠ n := by split <;> exact hdn
    exact if_neg hdn'

/-- One drive more, at a compartment that it reaches. -/
theorem drive (h : s.DrivenOver q r l u t) (hn : (l.comps.map fun c => c.line.compartment).Nodup)
    (hc : l.comp? n = some c) (hqc : q c = false) (hd : c.state.isDrivable = true) :
    ∃ u', s.DrivenOver (fun d => q d || decide (d = c)) r l u' (t.driveClose n r) := by
  have htc : t.comp? n = some c := by rw [h.comp?, hc, Option.map_some, hqc]; rfl
  have hmem : c ∈ l.comps := List.mem_of_find?_eq_some hc
  have hcn := LoadRecord.comp?_compartment hc
  have hload := State.driveClose_load t (r := r) htc hd
  rw [h.load, Option.map_some] at hload
  obtain ⟨st, hst⟩ := LoadRecord.reevaluated_with_state (u.modifyComp n (t.drivenAt n r))
  obtain ⟨su, hu⟩ := h.modifyComp_record hn hc hqc
  refine ⟨_, fun d hd' => ?_, hload, ⟨st, by rw [hst, hu]⟩, fun hcl => ?_, fun a => ?_, fun j => ?_,
    h.tells.trans (State.tells_driveClose t n r), (State.driveClose_still t n r).trans h.still⟩
  case refine_1 =>
    rw [Bool.or_eq_true, decide_eq_true_eq] at hd'
    exact hd'.elim (h.drivable d) fun he => he ▸ hd
  case refine_2 =>
    have hcl' : (u.modifyComp n (t.drivenAt n r)).state = .closing := h.closing hcl
    rw [LoadRecord.reevaluated_of_closing hcl']; exact hcl'
  case refine_3 =>
    have ha : (t.driveClose n r).arms[a] = if a = c.line.arm then t.arms[c.line.arm].driven else t.arms[a] := by
      rw [State.driveClose_arms t htc hd]; exact vector_get_set ..
    rw [ha]
    refine ⟨fun ⟨d, hdm, hqd, hda⟩ => ?_, fun hno => ?_⟩
    · rw [Bool.or_eq_true, decide_eq_true_eq] at hqd
      by_cases hac : a = c.line.arm
      · subst hac
        rw [if_pos rfl]
        by_cases hany : ∃ d ∈ l.comps, q d = true ∧ d.line.arm = c.line.arm
        · rw [(h.arms _).1 hany, Arm.driven_driven]
        · rw [(h.arms _).2 fun d hdm hqd hda => hany ⟨d, hdm, hqd, hda⟩]
      · rw [if_neg hac]
        obtain hqd | rfl := hqd
        · exact (h.arms a).1 ⟨d, hdm, hqd, hda⟩
        · exact absurd hda.symm hac
    · rw [if_neg fun hac => hno c hmem (by simp) hac.symm]
      exact (h.arms a).2 fun d hdm hqd => hno d hdm (by rw [hqd]; rfl)
  case refine_4 =>
    have hj := State.driveClose_injectors t (r := r) htc hd j
    rw [h.boundTo] at hj
    rw [hj]
    refine ⟨fun ⟨d, hdm, hqd, hdb⟩ => ?_, fun hno => ?_⟩
    · rw [Bool.or_eq_true, decide_eq_true_eq] at hqd
      obtain hqd | rfl := hqd
      · rw [(h.injectors j).1 ⟨d, hdm, hqd, hdb⟩, Injector.flowStopped_flowStopped, ite_self]
      · rw [hcn] at hdb
        rw [if_pos hdb]
        obtain hj | hj := h.injector_cases j
        · rw [hj, Injector.flowStopped_flowStopped]
        · rw [hj]
    · have hb := hno c hmem (by simp)
      rw [hcn] at hb
      rw [hb, if_neg Bool.false_ne_true]
      exact (h.injectors j).2 fun d hdm hqd => hno d hdm (by rw [hqd]; rfl)

/-- One drive more, whatever it finds at the compartments of its number. -/
theorem step (h : s.DrivenOver q r l u t) (hn : (l.comps.map fun c => c.line.compartment).Nodup) (n : Nat) :
    ∃ u', s.DrivenOver (fun c => q c || (c.state.isDrivable && c.line.compartment == n)) r l u' (t.driveClose n r) := by
  have reached (c : CompRecord) (hc : (q c || (c.state.isDrivable && c.line.compartment == n)) = true) :
      c.state.isDrivable = true := by
    rw [Bool.or_eq_true, Bool.and_eq_true] at hc
    exact hc.elim (h.drivable c) And.left
  by_cases hex : ∃ c, l.comp? n = some c ∧ q c = false ∧ c.state.isDrivable = true
  · obtain ⟨c, hc, hqc, hd⟩ := hex
    obtain ⟨u', h'⟩ := h.drive hn hc hqc hd
    refine ⟨u', h'.congr reached fun d hdm => ?_⟩
    congr 1
    rw [Bool.eq_iff_iff, Bool.and_eq_true, beq_iff_eq, decide_eq_true_eq]
    exact ⟨fun ⟨_, hdn⟩ => List.inj_on_of_nodup_map hn hdm (List.mem_of_find?_eq_some hc)
      (hdn.trans (LoadRecord.comp?_compartment hc).symm), fun he => he ▸ ⟨hd, LoadRecord.comp?_compartment hc⟩⟩
  · have hkeep : t.driveClose n r = t := State.driveClose_of_not_drivable t fun c hc => by
      by_contra hd
      have hd : c.state.isDrivable = true := by simpa using hd
      obtain ⟨hlc, hqc⟩ := h.comp?_drivable hc hd
      exact hex ⟨c, hlc, hqc, hd⟩
    rw [hkeep]
    refine ⟨u, h.congr reached fun c hc => ?_⟩
    cases hqc : q c with
    | true => rfl
    | false =>
      rw [Bool.false_or, Bool.and_eq_false_imp]
      intro hd
      rw [beq_eq_false_iff_ne]
      exact fun hcn => hex ⟨c, LoadRecord.comp?_of_mem hn hc hcn, hqc, hd⟩

end State.DrivenOver

/-- A run of drives at the compartments of `ns`. -/
theorem State.drivenOver_foldl (hn : (l.comps.map fun c => c.line.compartment).Nodup) (ns : List Nat)
    (h : s.DrivenOver q r l u t) :
    ∃ u', s.DrivenOver (fun c => q c || (c.state.isDrivable && decide (c.line.compartment ∈ ns))) r l u'
      (ns.foldl (fun s n => s.driveClose n r) t) := by
  induction ns generalizing q u t with
  | nil =>
    refine ⟨u, h.congr (fun c hc => ?_) fun c _ => ?_⟩
    · simp only [List.not_mem_nil, decide_false, Bool.and_false, Bool.or_false] at hc; exact h.drivable c hc
    · simp
  | cons n ns ih =>
    obtain ⟨u', h'⟩ := h.step hn n
    obtain ⟨v, h''⟩ := ih h'
    have same (c : CompRecord) : (q c || (c.state.isDrivable && decide (c.line.compartment ∈ n :: ns)))
        = ((q c || (c.state.isDrivable && c.line.compartment == n))
          || (c.state.isDrivable && decide (c.line.compartment ∈ ns))) := by
      simp only [Bool.or_assoc, ← Bool.and_or_distrib_left, List.mem_cons, Bool.decide_or]; rfl
    exact ⟨v, h''.congr (fun c hc => h''.drivable c (same c ▸ hc)) fun c _ => same c⟩

/-- A drive of every compartment (R18, R21). -/
theorem State.driveAll_over (hl : s.load = some l) (hn : (l.comps.map fun c => c.line.compartment).Nodup)
    (r : CloseReason) : ∃ u, s.DrivenOver (fun c => c.state.isDrivable) r l u (s.driveAll r) := by
  obtain ⟨u, h⟩ := State.drivenOver_foldl (r := r) hn s.compNumbers (State.DrivenOver.none hl)
  refine ⟨u, h.congr (fun _ => id) fun c hc => ?_⟩
  have hmem : c.line.compartment ∈ s.compNumbers := by
    simp only [State.compNumbers, hl]; exact List.mem_map_of_mem hc
  simp [hmem]

/-- What the drive of every compartment has left, in the terms of the causes (R21). -/
theorem State.DrivenOver.all (h : s.DrivenOver (fun c => c.state.isDrivable) r l u t) : s.DrivenAll r l u t := by
  refine ⟨h.comps, h.arms, fun j => ⟨fun ⟨c, hc, hd, hb⟩ => (h.injectors j).1 ⟨c, hc, hd, Injector.boundTo_iff.2 hb⟩,
    fun hno => (h.injectors j).2 fun c hc hd => ?_⟩⟩
  by_contra hb
  obtain ⟨p, hp⟩ := Injector.boundTo_iff.1 (by simpa using hb)
  exact hno c hc hd p hp

end Sys2Proof.Machine
end

section
/-! PROOFS. A suspension cause put into the set of the load, and one taken out of it (R21, R22), in the terms of Safety.lean. -/

namespace Sys2Proof.Machine

variable {s : State} {k : Cause} {l : LoadRecord}

theorem State.addCause_without_load (h : s.load = none) : s.addCause k = s := by
  simp only [State.addCause, h]

theorem State.addCause_of_has (h : s.load = some l) (hk : l.causes.has k = true) : s.addCause k = s := by
  simp only [State.addCause, h, hk, if_true]

theorem State.addCause_of_not_has (h : s.load = some l) (hk : l.causes.has k = false) :
    s.addCause k
      = ((((s.driveAll (.halt k.haltCause)).modifyLoad fun l => { l with causes := l.causes.put true k }).evalLoad).imagePoint).postCause
        .causeRaised k := by
  simp only [State.addCause, h, hk, Bool.false_eq_true, if_false]

theorem State.removeCause_without_load (h : s.load = none) : s.removeCause k = s := by
  simp only [State.removeCause, h]

theorem State.removeCause_of_not_has (h : s.load = some l) (hk : l.causes.has k = false) : s.removeCause k = s := by
  simp only [State.removeCause, h, hk, Bool.false_eq_true, if_false]

@[simp] theorem State.postCause_load (e : EventCode) : (s.postCause e k).load = s.load := (s.postCause_keeps e k).1

@[simp] theorem State.postCause_injectors (e : EventCode) : (s.postCause e k).injectors = s.injectors :=
  (s.postCause_keeps e k).2.2

theorem State.tells_driveAll (r : CloseReason) (s : State) : s.Tells (s.driveAll r) :=
  State.Tells.foldl (fun s n => State.tells_driveClose s n r) _ _

theorem State.driveAll_phase (r : CloseReason) : (s.driveAll r).phase = s.phase :=
  (State.of_apart (State.of_still (State.driveAll_still s r)).2.2.2.2.2).2.2.2.2.2.2.1

theorem State.driveAll_clock (r : CloseReason) : (s.driveAll r).clock = s.clock :=
  (State.of_apart (State.of_still (State.driveAll_still s r)).2.2.2.2.2).2.2.2.2.1

/-- The state in which a cause that is raised posts its event. -/
def State.beforeRaise (k : Cause) (s : State) : State :=
  (((s.driveAll (.halt k.haltCause)).modifyLoad fun l => { l with causes := l.causes.put true k }).evalLoad).imagePoint

/-- The parts that neither an image point nor an evaluation of the load touches. -/
theorem State.beforeRaise_still (k : Cause) (s : State) : (s.beforeRaise k).still = s.still := by
  simp [State.beforeRaise]

theorem State.tells_beforeRaise (k : Cause) (s : State) : s.Tells (s.beforeRaise k) :=
  ((State.tells_driveAll (.halt k.haltCause) s).trans (State.tells_evalLoad
    ((s.driveAll (.halt k.haltCause)).modifyLoad fun l => { l with causes := l.causes.put true k }))).trans
    (.of_ports (State.imagePoint_ports _))

/-- What the load record, arms and injectors are once a cause has been put into the set (R21). -/
theorem State.beforeRaise_drives (hl : s.load = some l) (hn : (l.comps.map fun c => c.line.compartment).Nodup) :
    ∃ u st, (s.beforeRaise k).load = some u ∧ u.Tabled
      ∧ u = { l with
          state := st, causes := l.causes.put true k
          comps := l.comps.map fun c => if c.state.isDrivable then s.drivenComp (.halt k.haltCause) c else c }
      ∧ s.DrivenAll (.halt k.haltCause) l u (s.beforeRaise k) := by
  obtain ⟨v, h⟩ := State.driveAll_over hl hn (.halt k.haltCause)
  obtain ⟨st, rfl⟩ := h.record
  have hload : ((s.driveAll (.halt k.haltCause)).modifyLoad fun l => { l with causes := l.causes.put true k }).load
      = some { l with
          state := st, causes := l.causes.put true k
          comps := l.comps.map fun c => if c.state.isDrivable then s.drivenComp (.halt k.haltCause) c else c } := by
    rw [State.modifyLoad, h.load]; rfl
  have hload' := (State.imagePoint_load _).trans (State.evalLoad_load_eq _ hload)
  have hinj : (s.beforeRaise k).injectors = (s.driveAll (.halt k.haltCause)).injectors := by
    simp [State.beforeRaise, State.modifyLoad]
  have harms : (s.beforeRaise k).arms = (s.driveAll (.halt k.haltCause)).arms := by
    simp [State.beforeRaise, State.modifyLoad]
  refine ⟨_, _, hload', LoadRecord.evaluated_tabled _, rfl, ?_⟩
  obtain ⟨hcomps, ha, hj⟩ := h.all
  exact ⟨hcomps, fun a => by rw [harms]; exact ha a, fun j => by rw [hinj]; exact hj j⟩

/-- A cause that did not stand is raised, and CAUSE_RAISED is the last event told (R21, R12). -/
theorem State.addCause_raises (hl : s.load = some l) (hk : l.causes.has k = false)
    (hn : (l.comps.map fun c => c.line.compartment).Nodup) (hp : s.phase ≠ .startUp) :
    s.CauseRaised k l s.ports (s.addCause k) := by
  obtain ⟨u, st, hload, htabled, hu, hdriven⟩ := State.beforeRaise_drives (k := k) hl hn
  have hapart := State.of_apart (State.of_still (State.beforeRaise_still k s)).2.2.2.2.2
  obtain ⟨-, -, -, -, hclock, -, hphase, -⟩ := hapart
  have he : s.addCause k = (s.beforeRaise k).post .causeRaised .none 0 (w32 k.number) :=
    (State.addCause_of_not_has hl hk).trans (State.postCause_of_running (by rw [State.beforeRaise] at hphase; rw [hphase]; exact hp))
  rw [he]
  refine ⟨u, hload, by rw [hu], htabled, hdriven, (s.beforeRaise k).ports, State.tells_beforeRaise k s, ?_⟩
  rw [State.post_ports, hclock]

theorem LoadRecord.evaluated_eq_self_iff {l : LoadRecord} : ({ l with state := l.evaluated } : LoadRecord) = l ↔ l.evaluated = l.state :=
  ⟨fun h => congrArg LoadRecord.state h, fun h => by rw [h]⟩

/-- The events that an evaluation of the load tells (R12). -/
theorem State.evalLoad_ports (hl : s.load = some l) :
    s.evalLoad.ports = if l.evaluated = l.state then s.ports
      else s.ports.offer ⟨.loadState, .none, 0, w32 l.evaluated.number, s.clock.second⟩ := by
  simp only [State.evalLoad, hl]
  split <;> rfl

theorem State.imagePoint_clock : s.imagePoint.clock = s.clock :=
  (State.of_apart (State.of_still (State.imagePoint_still s)).2.2.2.2.2).2.2.2.2.1

/-- A cause that stood is cleared, and CAUSE_CLEARED told with LOAD_STATE behind it where the load state changed (R22, R12). -/
theorem State.removeCause_clears (hl : s.load = some l) (hk : l.causes.has k = true) (hp : s.phase ≠ .startUp) :
    s.CauseCleared k l s.ports (s.removeCause k) := by
  have he := State.removeCause_of_has hl hk
  rw [State.postCause_of_running (s := s.modifyLoad _) hp] at he
  have hload : (((s.modifyLoad fun l => { l with causes := l.causes.put false k }).post .causeCleared .none 0
      (w32 k.number)).imagePoint).load = some { l with causes := l.causes.put false k } := by
    rw [State.imagePoint_load, State.post_load, State.modifyLoad, hl]; rfl
  rw [he]
  refine ⟨_, State.evalLoad_load_eq _ hload, rfl, LoadRecord.evaluated_tabled _, rfl, ?_⟩
  rw [State.evalLoad_ports hload, State.imagePoint_ports, State.imagePoint_clock]
  rfl

/-- A cause that is to stand no more is judged (R22). -/
theorem State.removeCause_judged (hl : s.load = some l) (hp : s.phase ≠ .startUp) :
    s.CauseJudged k false l s.ports (s.removeCause k) := by
  refine ⟨fun hk => ?_, nofun, fun _ hk => State.removeCause_clears hl hk hp⟩
  rw [State.removeCause_of_not_has hl hk]
  exact ⟨hl, rfl⟩

/-- A cause that is to stand is judged (R21). -/
theorem State.addCause_judged (hl : s.load = some l) (hp : s.phase ≠ .startUp) :
    s.CauseJudged k true l s.ports (s.addCause k) := by
  refine ⟨fun hk => ?_, fun _ hk hn => State.addCause_raises hl hk hn hp, nofun⟩
  rw [State.addCause_of_has hl hk]
  exact ⟨hl, rfl⟩

/-- Once every compartment has been driven, none is drivable, and each that was is in CLOSING for the reason. -/
theorem State.DrivenAll.comps_driven {r : CloseReason} {u : LoadRecord} {t : State} (h : s.DrivenAll r l u t) :
    (∀ c ∈ u.comps, c.state.isDrivable = false)
      ∧ ∀ c ∈ l.comps, c.state.isDrivable = true →
        ∃ c' ∈ u.comps, c'.line = c.line ∧ c'.state = .closing ∧ c'.closeReason = some r := by
  obtain ⟨hcomps, -, -⟩ := h
  rw [hcomps]
  refine ⟨fun c hc => ?_, fun c hc hd => ⟨s.drivenComp r c, List.mem_map.2 ⟨c, hc, if_pos hd⟩, rfl, rfl, rfl⟩⟩
  obtain ⟨d, _, rfl⟩ := List.mem_map.1 hc
  cases hd : d.state.isDrivable with
  | true => rfl
  | false => exact hd

end Sys2Proof.Machine
end

section
/-! PROOFS. The deadman (O43). -/

namespace Sys2Proof.Machine

variable {s : State} {k : Cause}

/-- What a cause put in or taken out leaves alone. -/
theorem State.addCause_leaves (k : Cause) (s : State) : (s.addCause k).safety = s.safety ∧ (s.addCause k).pumps = s.pumps
    ∧ (s.addCause k).slots = s.slots ∧ (s.addCause k).apart = s.apart := by
  obtain ⟨hp, hsl, hsa, -, -, ha⟩ := State.of_still (State.addCause_still s k)
  exact ⟨hsa, hp, hsl, ha⟩

theorem State.removeCause_leaves (k : Cause) (s : State) : (s.removeCause k).safety = s.safety
    ∧ (s.removeCause k).pumps = s.pumps ∧ (s.removeCause k).slots = s.slots ∧ (s.removeCause k).apart = s.apart := by
  obtain ⟨hp, hsl, hsa, -, -, ha⟩ := State.of_still (State.removeCause_still s k)
  exact ⟨hsa, hp, hsl, ha⟩

theorem State.addCause_safety : (s.addCause k).safety = s.safety := (s.addCause_leaves k).1
theorem State.removeCause_safety : (s.removeCause k).safety = s.safety := (s.removeCause_leaves k).1

/-! ### The owner -/

theorem ownDeadman_other {kind : Nat} (h : 2 ≤ kind) : ownDeadman kind s = refuse .badArgument s := by
  obtain ⟨k, rfl⟩ := Nat.exists_eq_add_of_le' h
  rfl

theorem ownDeadman_press_unarmed (h : s.safety.armed = false) : ownDeadman 1 s = s.deadmanReply := by
  simp only [ownDeadman, h, Bool.false_eq_true, if_false]

/-- A press with the pointer set renews, and is answered with the record renewed (R128). -/
theorem ownDeadman_press_armed (h : s.safety.armed = true) :
    ownDeadman 1 s = reply .ok (.deadman false .normal (s.safety.period * 1000)) s.renew := by
  have hs : s.renew.safety = s.safety.renewed := State.removeCause_safety
  simp only [ownDeadman, h, if_true, State.deadmanReply, hs]
  rfl

/-- The deadman timer counts in a running part with a compartment flowing (R127). -/
theorem State.deadmanCounts_of {l : LoadRecord} (hrun : s.phase = .running) (hl : s.load = some l)
    (hf : ∃ c ∈ l.comps, c.state.isFlowing = true) : s.deadmanCounts = true := by
  have hany : l.comps.any (fun c => c.state.isFlowing) = true := List.any_eq_true.2 hf
  simp only [State.deadmanCounts, State.flowing, hrun, hl, hany]; rfl

/-! ### O43, row by row -/

/-- A press after the pointer (R128). -/
theorem exec_press {g : Byte} {body tail : List Byte} (hrun : s.phase = .running) (ha : s.safety.armed = true) :
    let w : Win := ⟨.pp, g, body, tail⟩
    ∃ t : State, exec (.deadman w 1) s
        = .next (State.answered w .ok (.deadman false .normal (s.safety.period * 1000)) t)
      ∧ t.safety = { s.safety with armed := false, stage := .normal, horn := false, timer := s.safety.period * 1000 }
      ∧ (∀ a : Fin 4, t.arms[a] = { s.arms[a] with hold := false })
      ∧ (∀ l, s.load = some l → (∃ u, t.load = some u ∧ u.causes = { l.causes with deadman := false } ∧ u.comps = l.comps)
        ∧ s.CauseJudged .deadman false l (s.seen .deadman w).ports t)
      ∧ (s.load = none → t.ports = (s.seen .deadman w).ports)
      ∧ t.pumps = s.pumps ∧ t.meters = s.meters ∧ t.injectors = s.injectors ∧ t.slots = s.slots ∧ t.audit = s.audit := by
  intro w
  let v : State := (({ s.seen .deadman w with safety := s.safety.renewed } : State).mapArms fun x => { x with hold := false })
  obtain ⟨hsafety, hpumps, hslots, hapart⟩ := State.removeCause_leaves .deadman v
  obtain ⟨hmeters, -, -, -, -, haudit, -, -⟩ := State.of_apart hapart
  refine ⟨v.removeCause .deadman, exec_answers rfl rfl hrun rfl (ownDeadman_press_armed (s := s.seen .deadman w) ha), hsafety,
    fun a => ?_, fun l hl => ?_, fun hl => ?_, hpumps, hmeters, (State.removeCause_keeps v .deadman).2, hslots, haudit⟩
  · rw [State.removeCause_arms]; exact State.mapArms_get ..
  · have hv : v.load = some l := hl
    obtain ⟨u, hu, hcomps, hcauses⟩ := State.removeCause_load v .deadman l hv
    obtain ⟨hstood, -, hclear⟩ := State.removeCause_judged (s := v) (k := .deadman) hv
      (by show s.phase ≠ .startUp; rw [hrun]; decide)
    exact ⟨⟨u, hu, hcauses, hcomps⟩, hstood, nofun, hclear⟩
  · have hv : v.load = none := hl
    rw [State.removeCause_without_load hv]; rfl

/-- The first expiry (R129). -/
theorem exec_firstExpiry_due {l : LoadRecord} (hrun : s.phase = .running) (hl : s.load = some l)
    (hf : ∃ c ∈ l.comps, c.state.isFlowing = true) (ht : s.safety.timer = 0) (hs : s.safety.stage = .normal) :
    ∃ t, exec .firstExpiry s = .next t
      ∧ t.safety = { s.safety with
          stage := .warning, horn := true, armed := false, timer := s.safety.warning * 1000 }
      ∧ (∀ a : Fin 4, t.arms[a] =
        if s.arms[a].state = .full then { s.arms[a] with hold := true, valve := .low } else s.arms[a])
      ∧ t.ports = s.ports.offer ⟨.deadmanWarning, .none, 0, w32 s.safety.warning, s.clock.second⟩
      ∧ { t with safety := s.safety, arms := s.arms, ports := s.ports } = s :=
  ⟨s.firstExpiry, if_pos ⟨State.deadmanCounts_of hrun hl hf, hs, ht⟩, rfl, fun a => State.mapArms_get _ Arm.held a, rfl, rfl⟩

/-- The second expiry (R130). -/
theorem exec_secondExpiry_due {l : LoadRecord} (hrun : s.phase = .running) (hl : s.load = some l)
    (hf : ∃ c ∈ l.comps, c.state.isFlowing = true) (ht : s.safety.timer = 0) (hs : s.safety.stage = .warning)
    (hd : l.causes.deadman = false) (hn : (l.comps.map fun c => c.line.compartment).Nodup) :
    ∃ t u, exec .secondExpiry s = .next t ∧ t.load = some u ∧ u.causes = { l.causes with deadman := true }
      ∧ t.safety = { s.safety with stage := .expired, timer := 0 }
      ∧ s.CauseRaised .deadman l s.ports t
      ∧ (∀ c ∈ u.comps, c.state.isDrivable = false)
      ∧ (∀ c ∈ l.comps, c.state.isDrivable = true →
        ∃ c' ∈ u.comps, c'.line = c.line ∧ c'.state = .closing ∧ c'.closeReason = some (.halt .deadman))
      ∧ t.pumps = s.pumps ∧ t.meters = s.meters := by
  let v : State := { s with safety := { s.safety with stage := .expired, timer := 0 } }
  have hraised := State.addCause_raises (s := v) (k := .deadman) hl hd hn
    (by show s.phase ≠ .startUp; rw [hrun]; decide)
  obtain ⟨u, hu, hcauses, -, hdriven, -⟩ := id hraised
  obtain ⟨hsafety, hpumps, -, hapart⟩ := State.addCause_leaves .deadman v
  exact ⟨(v.addCause .deadman).startWrite, u, if_pos ⟨State.deadmanCounts_of hrun hl hf, hs, ht⟩, hu, hcauses, hsafety,
    hraised, hdriven.comps_driven.1, hdriven.comps_driven.2, hpumps, (State.of_apart hapart).1⟩

/-- Settles O43. -/
theorem deadmanRenewsAndExpires : Obligations.DeadmanRenewsAndExpires := by
  intro g body tail s hrun w v
  refine ⟨fun kind h => exec_answers rfl rfl hrun rfl (ownDeadman_other h), exec_answers rfl rfl hrun rfl rfl, fun ha => ?_,
    exec_press hrun, fun ht => ⟨?_, ?_⟩, fun l hl hf ht => ⟨exec_firstExpiry_due hrun hl hf ht,
      exec_secondExpiry_due hrun hl hf ht⟩⟩
  · refine exec_answers rfl rfl hrun rfl ((ownDeadman_press_unarmed (s := s.seen .deadman w) ha).trans ?_)
    simp only [State.deadmanReply, State.seen_safety, ha]; rfl
  · exact if_neg fun h => by omega
  · exact if_neg fun h => by omega

end Sys2Proof.Machine
end

section
/-! PROOFS. Permissive reports, their staleness, and the PERMISSIVE cause (O44). -/

namespace Sys2Proof.Machine

variable {s : State} {k : Cause} {l : LoadRecord}

/-! ### The cause set, whatever the compartments -/

/-- A drive changes no cause. -/
theorem State.driveClose_causes (n : Nat) (r : CloseReason) (s : State) :
    (s.driveClose n r).load.map LoadRecord.causes = s.load.map LoadRecord.causes := by
  by_cases h : ∃ c, s.comp? n = some c ∧ c.state.isDrivable = true
  · obtain ⟨c, hc, hd⟩ := h
    rw [State.driveClose_load s hc hd, Option.map_map]
    exact congrArg (fun f => s.load.map f) (funext fun l => LoadRecord.reevaluated_causes _)
  · rw [State.driveClose_of_not_drivable s fun c hc => by
      by_contra hd; exact h ⟨c, hc, by simpa using hd⟩]

theorem State.driveAll_causes (r : CloseReason) (s : State) :
    (s.driveAll r).load.map LoadRecord.causes = s.load.map LoadRecord.causes :=
  foldl_keeps (fun s => s.load.map LoadRecord.causes) _ (fun s n => State.driveClose_causes n r s) _ _

theorem CauseSet.put_true_of_has (y : CauseSet) (h : y.has k = true) : y.put true k = y := by
  obtain ⟨esd, permissive, deadman, stopAll, power⟩ := y
  cases k <;> simp_all [CauseSet.has, CauseSet.put]

/-- A cause put into the set stands in it, and no other is touched (R21). -/
theorem State.addCause_causes (hl : s.load = some l) :
    ∃ u, (s.addCause k).load = some u ∧ u.causes = l.causes.put true k := by
  cases hk : l.causes.has k with
  | true => rw [State.addCause_of_has hl hk]; exact ⟨l, hl, (CauseSet.put_true_of_has _ hk).symm⟩
  | false =>
    have hd := State.driveAll_causes (.halt k.haltCause) s
    rw [hl, Option.map_some, Option.map_eq_some_iff] at hd
    obtain ⟨v, hv, hvc⟩ := hd
    have hload : ((s.driveAll (.halt k.haltCause)).modifyLoad fun l => { l with causes := l.causes.put true k }).load
        = some { v with causes := l.causes.put true k } := by
      rw [State.modifyLoad, hv, ← hvc]; rfl
    rw [State.addCause_of_not_has hl hk, State.postCause_load, State.imagePoint_load, State.evalLoad_load_eq _ hload]
    exact ⟨_, rfl, rfl⟩

/-! ### The judgement (R119) -/

theorem State.permissiveStands_eq (hl : s.load = some l) :
    s.permissiveStands = (l.state != .closing && !s.safety.effective.isFull) := by
  simp only [State.permissiveStands, hl]

theorem State.judgePermissive_judged (hl : s.load = some l) (hp : s.phase ≠ .startUp) :
    s.CauseJudged .permissive (l.state != .closing && !s.safety.effective.isFull) l s.ports s.judgePermissive := by
  rw [← State.permissiveStands_eq hl, State.judgePermissive]
  cases s.permissiveStands with
  | true => exact State.addCause_judged hl hp
  | false => exact State.removeCause_judged hl hp

theorem State.judgePermissive_without_load (hl : s.load = none) : s.judgePermissive = s := by
  have hs : s.permissiveStands = false := by simp only [State.permissiveStands, hl]
  rw [State.judgePermissive, hs, if_neg Bool.false_ne_true, State.removeCause_without_load hl]

/-- PERMISSIVE stands in the set exactly where it is judged to, and taking it out moves no compartment. -/
theorem State.judgePermissive_causes (hl : s.load = some l) :
    ∃ u, s.judgePermissive.load = some u ∧ u.causes = { l.causes with permissive := s.permissiveStands }
      ∧ (s.permissiveStands = false → u.comps = l.comps) := by
  rw [State.judgePermissive]
  cases hs : s.permissiveStands with
  | true =>
    obtain ⟨u, hu, hc⟩ := State.addCause_causes (k := .permissive) hl
    exact ⟨u, hu, hc, nofun⟩
  | false =>
    obtain ⟨u, hu, hcomps, hc⟩ := State.removeCause_load s .permissive l hl
    exact ⟨u, hu, hc, fun _ => hcomps⟩

theorem State.judgePermissive_leaves (s : State) : s.judgePermissive.safety = s.safety ∧ s.judgePermissive.pumps = s.pumps
    ∧ s.judgePermissive.apart = s.apart := by
  unfold State.judgePermissive
  split
  · obtain ⟨h1, h2, -, h3⟩ := State.addCause_leaves .permissive s; exact ⟨h1, h2, h3⟩
  · obtain ⟨h1, h2, -, h3⟩ := State.removeCause_leaves .permissive s; exact ⟨h1, h2, h3⟩

/-- A judgement at the end of an event that has changed no more than safety record and ports. -/
theorem State.judged_outcome (hp : s.phase = .running) (y : Safety) (told : Ports) :
    let t := ({ s with safety := y, ports := told } : State).judgePermissive
    t.safety = y
      ∧ (∀ l, s.load = some l → l.state ≠ .closing → ∃ u, t.load = some u
        ∧ u.causes = { l.causes with permissive := !y.effective.isFull } ∧ (y.effective.isFull = true → u.comps = l.comps))
      ∧ (s.load = none → t.ports = told)
      ∧ (∀ l, s.load = some l → s.CauseJudged .permissive (l.state != .closing && !y.effective.isFull) l told t)
      ∧ t.pumps = s.pumps ∧ t.meters = s.meters ∧ t.cal = s.cal ∧ t.orders = s.orders := by
  let v : State := { s with safety := y, ports := told }
  obtain ⟨hsafety, hpumps, hapart⟩ := State.judgePermissive_leaves v
  obtain ⟨hmeters, -, horders, hcal, -, -, -, -⟩ := State.of_apart hapart
  refine ⟨hsafety, fun l hl hc => ?_, fun hl => ?_, fun l hl => ?_, hpumps, hmeters, hcal, horders⟩
  · have hl' : v.load = some l := hl
    obtain ⟨u, hu, hcauses, hcomps⟩ := State.judgePermissive_causes hl'
    have hc' : (l.state != .closing) = true := by simpa using hc
    have hs : v.permissiveStands = !y.effective.isFull := by
      rw [State.permissiveStands_eq hl', hc', Bool.true_and]
    rw [hs] at hcauses hcomps
    exact ⟨u, hu, hcauses, fun h => hcomps (by rw [h]; rfl)⟩
  · have hl' : v.load = none := hl
    exact congrArg State.ports (State.judgePermissive_without_load hl')
  · have hl' : v.load = some l := hl
    exact State.judgePermissive_judged hl' (by show s.phase ≠ .startUp; rw [hp]; decide)

/-! ### Reports -/

theorem ownPermissiveReport_given (x y z : Bool) :
    ownPermissiveReport (if x then .present else .absent) (if y then .present else .absent) (if z then .present else .absent) s
      = reply .ok (.permissives (s.reportPermissives ⟨x, y, z⟩).safety.effective) (s.reportPermissives ⟨x, y, z⟩) := by
  cases x <;> cases y <;> cases z <;> rfl

theorem ownPermissiveReport_other {x y z : FlagValue} (h : x = .other ∨ y = .other ∨ z = .other) :
    ownPermissiveReport x y z s = refuse .badArgument s := by
  simp only [ownPermissiveReport, reportedFlags?, if_pos h]

theorem Permissives.isFull_eq (x y z : Bool) : (⟨x, y, z⟩ : Permissives).isFull = (x && y && z) := rfl

/-- The flags of a report are effective at once. -/
theorem Safety.report_effective (p : Permissives) (y : Safety) : (y.report p).effective = p := rfl

/-- The value that PERMISSIVE tells of the flags of a report (R188). -/
theorem Safety.report_permissiveValue (x y z : Bool) (r : Safety) :
    (r.report ⟨x, y, z⟩).permissiveValue = w32 (x.toNat + 2 * y.toNat + 4 * z.toNat) := by
  cases x <;> cases y <;> cases z <;> rfl

/-- What a report has told before it judges the PERMISSIVE cause (R117). -/
def State.reportTold (x y z : Bool) (s : State) : Ports :=
  if s.safety.effective = ⟨x, y, z⟩ then s.ports
  else s.ports.offer ⟨.permissive, .none, 0, w32 (x.toNat + 2 * y.toNat + 4 * z.toNat), s.clock.second⟩

theorem State.reportPermissives_eq (x y z : Bool) (s : State) :
    s.reportPermissives ⟨x, y, z⟩
      = ({ s with safety := s.safety.report ⟨x, y, z⟩, ports := s.reportTold x y z } : State).judgePermissive := by
  simp only [State.reportPermissives, Safety.report_effective]
  congr 1
  unfold State.reportTold
  by_cases h : s.safety.effective = ⟨x, y, z⟩
  · rw [if_pos h]; exact if_pos h.symm
  · refine (if_neg (Ne.symm h)).trans ?_
    rw [if_neg h, ← Safety.report_permissiveValue x y z s.safety]; rfl

/-- An accepted report (R117, R119). -/
theorem exec_permissiveReport_given {g : Byte} {body tail : List Byte} (hrun : s.phase = .running) (x y z : Bool) :
    let w : Win := ⟨.sp, g, body, tail⟩
    let given (b : Bool) : FlagValue := if b then .present else .absent
    ∃ t : State, exec (.permissiveReport w (given x) (given y) (given z)) s
        = .next (State.answered w .ok (.permissives ⟨x, y, z⟩) t)
      ∧ t.safety = { s.safety with reported := ⟨x, y, z⟩, stale := false, validity := some 2000 }
      ∧ t.safety.effective = ⟨x, y, z⟩
      ∧ (∀ l, s.load = some l → l.state ≠ .closing → ∃ u, t.load = some u
        ∧ u.causes = { l.causes with permissive := !(x && y && z) } ∧ (x && y && z → u.comps = l.comps))
      ∧ (let v := s.seen .permissiveReport w
        let told := if s.safety.effective = ⟨x, y, z⟩ then v.ports
          else v.ports.offer ⟨.permissive, .none, 0, w32 (x.toNat + 2 * y.toNat + 4 * z.toNat), s.clock.second⟩
        (s.load = none → t.ports = told)
        ∧ ∀ l, s.load = some l → s.CauseJudged .permissive (l.state != .closing && !(x && y && z)) l told t)
      ∧ t.pumps = s.pumps ∧ t.meters = s.meters ∧ t.cal = s.cal ∧ t.orders = s.orders := by
  intro w given
  obtain ⟨hsafety, hcauses, hnone, hjudged, hpumps, hmeters, hcal, horders⟩ :=
    State.judged_outcome hrun (s.safety.report ⟨x, y, z⟩) ((s.seen .permissiveReport w).reportTold x y z)
  have hreport := State.reportPermissives_eq x y z (s.seen .permissiveReport w)
  have heff : ((s.seen .permissiveReport w).reportPermissives ⟨x, y, z⟩).safety.effective = ⟨x, y, z⟩ :=
    (congrArg (fun t : State => t.safety.effective) hreport).trans (congrArg Safety.effective hsafety)
  refine ⟨_, exec_answers rfl rfl hrun rfl ?_, hsafety, congrArg Safety.effective hsafety, hcauses, ⟨hnone, hjudged⟩,
    hpumps, hmeters, hcal, horders⟩
  refine (ownPermissiveReport_given (s := s.seen .permissiveReport w) x y z).trans ?_
  rw [heff, hreport]; rfl

theorem State.goStale_eq (s : State) :
    s.goStale = ({ s with
      safety := { s.safety with stale := true, validity := none }
      ports := (s.ports.offer ⟨.permissiveStale, .none, 0, 0, s.clock.second⟩).offer
        ⟨.permissive, .none, 0, w32 8, s.clock.second⟩ } : State).judgePermissive := rfl

/-- The expiry of the validity timer (R118, R119). -/
theorem exec_validityTimerExpiry_due (hrun : s.phase = .running) (hv : s.safety.validity = some 0) :
    ∃ t, exec .validityTimerExpiry s = .next t
      ∧ t.safety = { s.safety with stale := true, validity := none } ∧ t.safety.effective = ⟨false, false, false⟩
      ∧ (∀ l, s.load = some l → l.state ≠ .closing → ∃ u, t.load = some u
        ∧ u.causes = { l.causes with permissive := true })
      ∧ (let told := (s.ports.offer ⟨.permissiveStale, .none, 0, 0, s.clock.second⟩).offer
          ⟨.permissive, .none, 0, w32 8, s.clock.second⟩
        (s.load = none → t.ports = told)
        ∧ ∀ l, s.load = some l → s.CauseJudged .permissive (l.state != .closing) l told t)
      ∧ t.pumps = s.pumps ∧ t.meters = s.meters ∧ t.cal = s.cal ∧ t.orders = s.orders := by
  obtain ⟨hsafety, hcauses, hnone, hjudged, hpumps, hmeters, hcal, horders⟩ :=
    State.judged_outcome hrun { s.safety with stale := true, validity := none }
      ((s.ports.offer ⟨.permissiveStale, .none, 0, 0, s.clock.second⟩).offer ⟨.permissive, .none, 0, w32 8, s.clock.second⟩)
  have heff : ({ s.safety with stale := true, validity := none } : Safety).effective.isFull = false := rfl
  have htime : s.timersRun = true := by rw [State.timersRun, hrun]; rfl
  refine ⟨s.goStale.startWrite, if_pos ⟨htime, hv⟩, hsafety, congrArg Safety.effective hsafety,
    fun l hl hc => let ⟨u, hu, h, _⟩ := hcauses l hl hc; ⟨u, hu, h⟩, ⟨hnone, fun l hl => ?_⟩, hpumps, hmeters, hcal, horders⟩
  have h := hjudged l hl
  rw [heff, Bool.not_false, Bool.and_true] at h
  exact h

/-- Settles O44. -/
theorem permissivesJudged : Obligations.PermissivesJudged := by
  intro g body tail s hrun w given
  have other {x y z : FlagValue} (h : x = .other ∨ y = .other ∨ z = .other) :
      exec (.permissiveReport w x y z) s = .next ((s.seen .permissiveReport w).answered w .badArgument .none) :=
    exec_answers rfl rfl hrun rfl (ownPermissiveReport_other (s := s.seen .permissiveReport w) h)
  exact ⟨exec_permissiveReport_given hrun,
    fun y z => ⟨other (.inl rfl), other (.inr (.inl rfl)), other (.inr (.inr rfl))⟩, fun hv => if_neg fun h => hv h.2,
    exec_validityTimerExpiry_due hrun⟩

end Sys2Proof.Machine
end

section
/-! PROOFS. STOP-ALL in its bay and arm forms, and RESUME (O45). -/

namespace Sys2Proof.Machine

variable {s : State} {l : LoadRecord} {m : ArmMask}

/-! ### Busy arms and the forms of the mask -/

theorem CompState.isActive_of_isDrivable {x : CompState} (h : x.isDrivable = true) : x.isActive = true := by
  revert h; cases x <;> decide

/-- The compartment to which a gate of an arm is routed (R56). -/
theorem State.routed_eq_some {a : Fin 4} {c : CompRecord} :
    s.routed a = some c ↔ ∃ n, s.arms[a].served = some n ∧ s.comp? n = some c ∧ c.state.isActive = true := by
  unfold State.routed
  cases hn : s.arms[a].served with
  | none => simp
  | some n =>
    cases hc : s.comp? n with
    | none => simp [hc]
    | some d =>
      cases hd : d.state.isActive with
      | true =>
        simp only [Option.bind_some, hc, hd, if_true, Option.some_inj]
        exact ⟨fun h => ⟨n, rfl, hc.trans (congrArg some h), h ▸ hd⟩,
          fun ⟨_, h1, h2, _⟩ => by subst h1; exact Option.some.inj (hc.symm.trans h2)⟩
      | false =>
        simp only [Option.bind_some, hc, hd, Bool.false_eq_true, if_false, Option.some_inj, reduceCtorEq, false_iff,
          not_exists, not_and]
        rintro _ rfl h1 h2
        rw [← Option.some.inj (hc.symm.trans h1), hd] at h2
        exact nomatch h2

theorem State.busy_iff {a : Fin 4} : s.busy a = true ↔ ∃ n l c, s.arms[a].served = some n ∧ s.load = some l
    ∧ l.comp? n = some c ∧ c.state.isActive = true := by
  rw [State.busy, Option.isSome_iff_exists]
  constructor
  · rintro ⟨c, hc⟩
    obtain ⟨n, hs, hn, ha⟩ := State.routed_eq_some.1 hc
    obtain ⟨l, hl, hlc⟩ := State.comp?_eq_some.1 hn
    exact ⟨n, l, c, hs, hl, hlc, ha⟩
  · rintro ⟨n, l, c, hs, hl, hlc, ha⟩
    exact ⟨c, State.routed_eq_some.2 ⟨n, hs, State.comp?_eq_some.2 ⟨l, hl, hlc⟩, ha⟩⟩

theorem State.bayForm_iff : s.bayForm m = true ↔ m = 0#8 ∨ ∀ a : Fin 4, s.busy a = true → m.getLsbD a.val = true := by
  rw [State.bayForm, Bool.or_eq_true, beq_iff_eq, List.all_eq_true]
  refine or_congr Iff.rfl ⟨fun h a hb => ?_, fun h a _ => ?_⟩
  · have := h a (mem_fours a)
    rw [hb] at this; exact this
  · cases hb : s.busy a with
    | false => rfl
    | true => exact h a hb

theorem maskInRange_iff : maskInRange m = true ↔ m.toNat < 16 := by simp [maskInRange]

/-! ### The owners -/

theorem ownStopAll_outOfRange (h : 16 ≤ m.toNat) : ownStopAll m s = refuse .badArgument s := by
  have hr : maskInRange m = false := by simpa [maskInRange] using h
  simp only [ownStopAll, hr, Bool.not_false, if_true]

/-- The bay form (R120). -/
theorem ownStopAll_bay (hm : m.toNat < 16) (hb : s.bayForm m = true) :
    ownStopAll m s
      = reply .ok (.stopForm true) (({ s with safety := { s.safety with stopAllLatch := true } }).addCause .stopAll) := by
  simp only [ownStopAll, maskInRange_iff.2 hm, Bool.not_true, Bool.false_eq_true, if_false, hb, if_true]

/-- The arm form (R121). -/
theorem ownStopAll_arms (hm : m.toNat < 16) (hb : s.bayForm m = false) :
    ownStopAll m s = reply .ok (.stopForm false) (s.stopArms m) := by
  simp only [ownStopAll, maskInRange_iff.2 hm, Bool.not_true, Bool.false_eq_true, if_false, hb]

theorem ownResume_unlatched (h : s.safety.stopAllLatch = false) : ownResume s = refuse .state s := by
  simp only [ownResume, h, Bool.not_false, if_true]

theorem ownResume_latched (h : s.safety.stopAllLatch = true) :
    ownResume s
      = reply .ok .none (({ s with safety := { s.safety with stopAllLatch := false } }).removeCause .stopAll) := by
  simp only [ownResume, h, Bool.not_true, Bool.false_eq_true, if_false]

/-! ### The arm form -/

theorem Arm.driven_served (x : Arm) : x.driven.served = x.served := by
  unfold Arm.driven; split <;> rfl

/-- A drive leaves every arm its compartment. -/
theorem State.driveClose_served (n : Nat) (r : CloseReason) (s : State) (a : Fin 4) :
    (s.driveClose n r).arms[a].served = s.arms[a].served := by
  by_cases h : ∃ c, s.comp? n = some c ∧ c.state.isDrivable = true
  · obtain ⟨c, hc, hd⟩ := h
    have ha : (s.driveClose n r).arms[a] = if a = c.line.arm then s.arms[c.line.arm].driven else s.arms[a] := by
      rw [State.driveClose_arms s hc hd]; exact vector_get_set ..
    rw [ha]
    split
    · rename_i hac; subst hac; exact Arm.driven_served _
    · rfl
  · rw [State.driveClose_of_not_drivable s fun c hc => by
      by_contra hd; exact h ⟨c, hc, by simpa using hd⟩]

/-- The drive of the compartment to which a gate of the arm is routed (R121). -/
def State.driveRouted (a : Fin 4) (r : CloseReason) (s : State) : State :=
  match s.routed a with
  | none => s
  | some c => s.driveClose c.line.compartment r

/-- Driving what a gate of the arm is routed to is driving what the arm serves. -/
theorem State.driveRouted_eq (a : Fin 4) (r : CloseReason) (s : State) :
    s.driveRouted a r = s.arms[a].served.elim s fun n => s.driveClose n r := by
  unfold State.driveRouted
  cases hr : s.routed a with
  | some c =>
    obtain ⟨n, hs, hc, -⟩ := State.routed_eq_some.1 hr
    simp only [hs, State.comp?_compartment s hc, Option.elim_some]
  | none =>
    cases hs : s.arms[a].served with
    | none => rfl
    | some n =>
      refine (State.driveClose_of_not_drivable s fun c hc => ?_).symm
      by_contra hd
      have : s.routed a = some c :=
        State.routed_eq_some.2 ⟨n, hs, hc, CompState.isActive_of_isDrivable (by simpa using hd)⟩
      rw [hr] at this; exact nomatch this

/-- The compartments that the arms of a mask serve. -/
def State.servedBy (m : ArmMask) (as : List (Fin 4)) (s : State) : List Nat :=
  as.filterMap fun a => if maskHas m a then s.arms[a].served else none

/-- The arm form is a run of drives at the compartments that the arms of the mask serve. -/
theorem State.stopArms_foldl (m : ArmMask) (as : List (Fin 4)) (s t : State)
    (h : ∀ a : Fin 4, t.arms[a].served = s.arms[a].served) :
    as.foldl (fun s a => if maskHas m a then s.driveRouted a (.halt .safety) else s) t
      = (s.servedBy m as).foldl (fun s n => s.driveClose n (.halt .safety)) t := by
  induction as generalizing t with
  | nil => rfl
  | cons a as ih =>
    have hcons : s.servedBy m (a :: as)
        = (if maskHas m a then s.arms[a].served else none).toList ++ s.servedBy m as := by
      unfold State.servedBy
      rw [List.filterMap_cons]
      split <;> simp_all
    rw [hcons, List.foldl_cons, List.foldl_append]
    cases hm : maskHas m a with
    | false => simpa using ih t h
    | true =>
      rw [if_pos rfl, if_pos rfl, State.driveRouted_eq, h]
      cases s.arms[a].served with
      | none => exact ih t h
      | some n => exact ih _ fun b => (State.driveClose_served n _ t b).trans (h b)

theorem State.stopArms_eq (m : ArmMask) (s : State) :
    s.stopArms m = (s.servedBy m fours).foldl (fun s n => s.driveClose n (.halt .safety)) s :=
  State.stopArms_foldl m fours s s fun _ => rfl

theorem State.mem_servedBy {n : Nat} : n ∈ s.servedBy m fours ↔ ∃ a : Fin 4, m.getLsbD a.val = true ∧ s.arms[a].served = some n := by
  rw [State.servedBy, List.mem_filterMap]
  constructor
  · rintro ⟨a, -, ha⟩
    split at ha
    · exact ⟨a, ‹_›, ha⟩
    · exact nomatch ha
  · rintro ⟨a, hm, hn⟩
    exact ⟨a, mem_fours a, (if_pos hm).trans hn⟩

/-- What the arm form leaves (R121). -/
theorem State.stopArms_drives (hl : s.load = some l) (hn : (l.comps.map fun c => c.line.compartment).Nodup)
    (hs : ∀ (a : Fin 4) (x : CompRecord), x ∈ l.comps → s.arms[a].served = some x.line.compartment → x.line.arm = a) :
    ∃ u, (s.stopArms m).load = some u ∧ u.causes = l.causes ∧ (s.stopArms m).safety = s.safety
      ∧ (s.stopArms m).pumps = s.pumps
      ∧ (∀ a : Fin 4, m.getLsbD a.val = false → (s.stopArms m).arms[a] = s.arms[a])
      ∧ ∀ x ∈ l.comps, m.getLsbD x.line.arm.val = true → s.arms[x.line.arm].served = some x.line.compartment →
        x.state.isDrivable = true →
        s.drivenComp (.halt .safety) x ∈ u.comps
          ∧ ∀ (j : Fin 8) (p : Nat), s.injectors[j].binding = some ⟨x.line.compartment, p⟩ →
            (s.stopArms m).injectors[j] = s.injectors[j].flowStopped := by
  rw [State.stopArms_eq]
  obtain ⟨u, h⟩ := State.drivenOver_foldl (r := .halt .safety) hn (s.servedBy m fours) (State.DrivenOver.none hl)
  obtain ⟨hpumps, -, hsafety, -, -, -⟩ := State.of_still h.still
  have picked (x : CompRecord) : (false || (x.state.isDrivable && decide (x.line.compartment ∈ s.servedBy m fours))) = true
      ↔ x.state.isDrivable = true ∧ ∃ a : Fin 4, m.getLsbD a.val = true ∧ s.arms[a].served = some x.line.compartment := by
    rw [Bool.false_or, Bool.and_eq_true, decide_eq_true_eq, State.mem_servedBy]
  refine ⟨u, h.load, h.causes, hsafety, hpumps, fun a ha => (h.arms a).2 fun c hc hq hca => ?_, fun x hx hm hsv hd => ?_⟩
  · obtain ⟨-, b, hb, hsb⟩ := (picked c).1 hq
    rw [← hca, hs b c hc hsb, hb] at ha
    exact nomatch ha
  · have hq := (picked x).2 ⟨hd, x.line.arm, hm, hsv⟩
    refine ⟨?_, fun j p hj => (h.injectors j).1 ⟨x, hx, hq, Injector.boundTo_iff.2 ⟨p, hj⟩⟩⟩
    rw [h.comps]
    exact List.mem_map.2 ⟨x, hx, if_pos hq⟩

/-! ### O45, form by form -/

/-- The bay form, where STOP_ALL does not stand yet (R120). -/
theorem exec_stopAll_raises {g : Byte} {body tail : List Byte} (hrun : s.phase = .running) (hl : s.load = some l)
    (hn : (l.comps.map fun c => c.line.compartment).Nodup) (hm : m.toNat < 16) (hb : s.bayForm m = true)
    (hc : l.causes.stopAll = false) :
    let w : Win := ⟨.sp, g, body, tail⟩
    ∃ (t : State) (u : LoadRecord), exec (.stopAll w m) s = .next (State.answered w .ok (.stopForm true) t)
      ∧ t.load = some u ∧ u.causes = { l.causes with stopAll := true }
      ∧ s.CauseRaised .stopAll l (s.seen .stopAll w).ports t
      ∧ t.safety = { s.safety with stopAllLatch := true } ∧ (∀ c ∈ u.comps, c.state.isDrivable = false)
      ∧ (∀ c ∈ l.comps, c.state.isDrivable = true →
        ∃ c' ∈ u.comps, c'.line = c.line ∧ c'.state = .closing ∧ c'.closeReason = some (.halt .stopAll))
      ∧ t.pumps = s.pumps ∧ t.meters = s.meters := by
  intro w
  let v : State := { s.seen .stopAll w with safety := { s.safety with stopAllLatch := true } }
  have hraised := State.addCause_raises (s := v) (k := .stopAll) hl hc hn
    (by show s.phase ≠ .startUp; rw [hrun]; decide)
  obtain ⟨u, hu, hcauses, -, hdriven, -⟩ := id hraised
  obtain ⟨hsafety, hpumps, -, hapart⟩ := State.addCause_leaves .stopAll v
  exact ⟨v.addCause .stopAll, u, exec_answers rfl rfl hrun rfl (ownStopAll_bay (s := s.seen .stopAll w) hm hb), hu, hcauses,
    hraised, hsafety, hdriven.comps_driven.1, hdriven.comps_driven.2, hpumps, (State.of_apart hapart).1⟩

/-- RESUME with a load open (R122). -/
theorem exec_resume_clears {g : Byte} {body tail : List Byte} (hrun : s.phase = .running) (hl : s.load = some l)
    (hlatch : s.safety.stopAllLatch = true) :
    let w : Win := ⟨.sp, g, body, tail⟩
    ∃ (t : State) (u : LoadRecord), exec (.resume w) s = .next (State.answered w .ok .none t) ∧ t.load = some u
      ∧ u.causes = { l.causes with stopAll := false } ∧ u.comps = l.comps
      ∧ s.CauseJudged .stopAll false l (s.seen .resume w).ports t
      ∧ t.safety = { s.safety with stopAllLatch := false } ∧ t.arms = s.arms ∧ t.pumps = s.pumps := by
  intro w
  let v : State := { s.seen .resume w with safety := { s.safety with stopAllLatch := false } }
  have hv : v.load = some l := hl
  obtain ⟨u, hu, hcomps, hcauses⟩ := State.removeCause_load v .stopAll l hv
  obtain ⟨hsafety, hpumps, -, -⟩ := State.removeCause_leaves .stopAll v
  exact ⟨v.removeCause .stopAll, u, exec_answers rfl rfl hrun rfl (ownResume_latched (s := s.seen .resume w) hlatch), hu,
    hcauses, hcomps, State.removeCause_judged (s := v) hv (by show s.phase ≠ .startUp; rw [hrun]; decide), hsafety,
    State.removeCause_arms v _, hpumps⟩

/-- Settles O45. -/
theorem stopAllAndResume : Obligations.StopAllAndResume := by
  intro g body tail s hrun w v busy bay
  have hbay {m : ArmMask} (h : bay m) : (s.seen .stopAll w).bayForm m = true :=
    State.bayForm_iff.2 (h.2.imp_right fun h a hb => h a (State.busy_iff.1 hb))
  refine ⟨fun hl => ⟨fun m hm => ?_, fun hlatch => ?_⟩, fun hlatch => ?_, fun m hm => ?_, fun l hl hn => ⟨fun m hb hc => ?_,
    fun m hb hc => exec_stopAll_raises hrun hl hn hb.1 (hbay hb) hc, fun hlatch => exec_resume_clears hrun hl hlatch,
    fun m b hm0 hm hmb hbb hs => ?_⟩⟩
  · have hb : (s.seen .stopAll w).bayForm m = true := State.bayForm_iff.2 (.inr fun a ha => by
      obtain ⟨_, l, _, _, hl', _⟩ := State.busy_iff.1 ha
      exact nomatch (hl.symm.trans hl' : none = some l))
    refine exec_answers rfl rfl hrun rfl ((ownStopAll_bay hm hb).trans ?_)
    rw [State.addCause_without_load (by exact hl)]; rfl
  · refine exec_answers rfl rfl hrun rfl ((ownResume_latched (s := s.seen .resume w) hlatch).trans ?_)
    rw [State.removeCause_without_load (by exact hl)]; rfl
  · exact exec_answers rfl rfl hrun rfl (ownResume_unlatched (s := s.seen .resume w) hlatch)
  · exact exec_answers rfl rfl hrun rfl (ownStopAll_outOfRange (s := s.seen .stopAll w) hm)
  · refine exec_answers rfl rfl hrun rfl ((ownStopAll_bay hb.1 (hbay hb)).trans ?_)
    rw [State.addCause_of_has (l := l) (k := .stopAll) (by exact hl) hc]; rfl
  · have hform : (s.seen .stopAll w).bayForm m = false := by
      rw [Bool.eq_false_iff]
      intro h
      obtain h | h := State.bayForm_iff.1 h
      · exact hm0 h
      · rw [h b (State.busy_iff.2 hbb)] at hmb; exact nomatch hmb
    obtain ⟨u, hu⟩ := State.stopArms_drives (s := s.seen .stopAll w) (m := m) hl hn hs
    exact ⟨_, u, exec_answers rfl rfl hrun rfl (ownStopAll_arms hm hform), hu⟩

end Sys2Proof.Machine
end

section
/-! PROOFS. What the settle timers and the pump operations leave alone, and what they make of the pumps. -/

namespace Sys2Proof.Machine

variable (s : State)

/-! ### Settle timers (R73, R74) -/

@[simp] theorem State.settleExpired_still (a : Fin 4) : (s.settleExpired a).still = s.still := by
  unfold State.settleExpired; dsimp only; (repeat' split) <;> simp

@[simp] theorem State.startSettle_still (a : Fin 4) (k : Nat) : (s.startSettle a k).still = s.still := by
  unfold State.startSettle; split <;> simp

@[simp] theorem State.startSettles_still (p : Fin 4) : (s.startSettles p).still = s.still :=
  foldl_keeps State.still _ (fun s a => by split <;> simp) _ _

theorem State.tells_settleExpired (a : Fin 4) : s.Tells (s.settleExpired a) := by
  unfold State.settleExpired
  split
  · dsimp only
    split
    · exact .of_ports rfl
    · rename_i n _
      exact State.tells_compChanged ((s.modifyArm a fun x => { x with state := .low, valve := .low, settleTimer := none }).modifyComp
        n fun c => { c with state := .lowStart }) n
  · exact .refl s

theorem State.tells_startSettle (a : Fin 4) (k : Nat) : s.Tells (s.startSettle a k) := by
  unfold State.startSettle; split
  · exact s.tells_settleExpired a
  · exact .of_ports rfl

theorem State.tells_startSettles (p : Fin 4) : s.Tells (s.startSettles p) :=
  State.Tells.foldl (fun s a => by
    split
    · exact s.tells_startSettle a _
    · exact .refl s) _ _

/-- Changing compartments and evaluating the load changes no cause. -/
theorem State.modifyComp_causes (n : Nat) (f : CompRecord → CompRecord) :
    (s.modifyComp n f).load.map LoadRecord.causes = s.load.map LoadRecord.causes := by
  cases h : s.load <;> simp [State.modifyComp, State.modifyLoad, h, LoadRecord.modifyComp]

theorem State.compChanged_causes (n : Nat) : (s.compChanged n).load.map LoadRecord.causes = s.load.map LoadRecord.causes := by
  cases h : s.comp? n with
  | none => rw [State.compChanged_of_none s h]
  | some c =>
    rw [State.compChanged_load s h, Option.map_map]
    exact congrArg (fun f => s.load.map f) (funext LoadRecord.reevaluated_causes)

theorem State.settleExpired_causes (a : Fin 4) :
    (s.settleExpired a).load.map LoadRecord.causes = s.load.map LoadRecord.causes := by
  unfold State.settleExpired
  split
  · dsimp only
    split
    · rfl
    · exact (State.compChanged_causes _ _).trans (State.modifyComp_causes _ _ _)
  · rfl

theorem State.startSettles_causes (p : Fin 4) :
    (s.startSettles p).load.map LoadRecord.causes = s.load.map LoadRecord.causes :=
  foldl_keeps (fun s => s.load.map LoadRecord.causes) _ (fun s a => by
    split
    · unfold State.startSettle; split
      · exact s.settleExpired_causes a
      · rfl
    · rfl) _ _

/-! ### Pumps -/

/-- The parts that a pump's start or stop leaves alone. -/
def State.offPumps (s : State) : Vector Slot 8 × Safety × List PermitEntry × Option Record × State := s.still.2

theorem State.modifyPump_offPumps (p : Fin 4) (f : Pump → Pump) : (s.modifyPump p f).offPumps = s.offPumps := rfl

theorem State.offPumps_of_still {s t : State} (h : t.still = s.still) : t.offPumps = s.offPumps := congrArg Prod.snd h

theorem State.of_offPumps {s t : State} (h : t.offPumps = s.offPumps) :
    t.slots = s.slots ∧ t.safety = s.safety ∧ t.permits = s.permits ∧ t.chargeOwed = s.chargeOwed ∧ t.apart = s.apart :=
  ⟨congrArg (·.1) h, congrArg (·.2.1) h, congrArg (·.2.2.1) h, congrArg (·.2.2.2.1) h, congrArg (·.2.2.2.2) h⟩

theorem State.pumps_of_still {s t : State} (h : t.still = s.still) : t.pumps = s.pumps := (State.of_still h).1

/-- A pump that comes to run, with the run-on where nothing demands it (R90). -/
def Pump.toRunning (x : Pump) : Pump :=
  let y : Pump := { x with state := .running, timer := none }
  if y.demand = 0 then y.startRunOn else y

/-- A pump that is started: running at once where its feedback is on (R90). -/
def Pump.started (x : Pump) : Pump :=
  let y : Pump := { x with state := .starting, run := true, timer := some (x.config.startTimeout * 1000) }
  if x.feedback then y.toRunning else y

theorem State.pumpRunning_pumps (p : Fin 4) : (s.pumpRunning p).pumps = s.pumps.set p s.pumps[p].toRunning := by
  have h := State.pumps_of_still (State.startSettles_still (s.modifyPump p fun x => { x with state := .running, timer := none }) p)
  unfold State.pumpRunning
  rw [State.modifyPump, h]
  simp [State.modifyPump, Pump.toRunning]

theorem State.startPump_pumps (p : Fin 4) : (s.startPump p).pumps = s.pumps.set p s.pumps[p].started := by
  unfold State.startPump
  dsimp only
  split
  · rename_i hf
    rw [State.pumpRunning_pumps, State.modifyPump_get_self]
    simp only [State.modifyPump, Pump.started, if_pos hf]
    exact Vector.set_set ..
  · rename_i hf
    simp only [Pump.started, if_neg hf]; rfl

theorem State.pumpRunning_offPumps (p : Fin 4) : (s.pumpRunning p).offPumps = s.offPumps := by
  unfold State.pumpRunning
  rw [State.modifyPump_offPumps, State.offPumps_of_still (State.startSettles_still _ p), State.modifyPump_offPumps]

theorem State.startPump_offPumps (p : Fin 4) : (s.startPump p).offPumps = s.offPumps := by
  unfold State.startPump; dsimp only; split
  · exact (State.pumpRunning_offPumps _ p).trans rfl
  · rfl

theorem State.tells_modifyPump (p : Fin 4) (f : Pump → Pump) : s.Tells (s.modifyPump p f) := .of_ports rfl

theorem State.tells_pumpRunning (p : Fin 4) : s.Tells (s.pumpRunning p) := by
  unfold State.pumpRunning
  exact ((State.tells_modifyPump s p _).trans (State.tells_startSettles _ p)).trans (State.tells_modifyPump _ p _)

theorem State.tells_startPump (p : Fin 4) : s.Tells (s.startPump p) := by
  unfold State.startPump; dsimp only; split
  · exact (State.tells_modifyPump s p _).trans (State.tells_pumpRunning _ p)
  · exact State.tells_modifyPump s p _

theorem State.pumpRunning_causes (p : Fin 4) :
    (s.pumpRunning p).load.map LoadRecord.causes = s.load.map LoadRecord.causes := by
  simp only [State.pumpRunning, State.modifyPump_load, State.startSettles_causes]

theorem State.startPump_causes (p : Fin 4) :
    (s.startPump p).load.map LoadRecord.causes = s.load.map LoadRecord.causes := by
  unfold State.startPump; dsimp only; split
  · rw [State.pumpRunning_causes, State.modifyPump_load]
  · rfl

theorem State.startPump_get (p b : Fin 4) :
    (s.startPump p).pumps[b] = if b = p then s.pumps[p].started else s.pumps[b] := by
  rw [State.startPump_pumps]; exact vector_get_set ..

/-- A pump that something demands runs once it is started. -/
theorem Pump.started_run {x : Pump} (h : 0 < x.demand) : x.started.run = true := by
  have hd : ¬ x.demand = 0 := by omega
  by_cases hf : x.feedback = true <;> simp [Pump.started, Pump.toRunning, hf, hd]

/-! ### Every STOPPED pump with demand started again (R94, R125) -/

/-- A pump as the release of the ESD latch finds it. -/
def Pump.waits (x : Pump) : Prop := x.state = .stopped ∧ 0 < x.demand

theorem State.restartEach_pumps (ps : List (Fin 4)) (hn : ps.Nodup) (b : Fin 4) (s : State) :
    ((ps.foldl (fun s p => if s.pumps[p].state = .stopped ∧ 0 < s.pumps[p].demand then s.startPump p else s) s).pumps[b] : Pump)
      = if b ∈ ps ∧ (s.pumps[b].state = .stopped ∧ 0 < s.pumps[b].demand) then s.pumps[b].started else s.pumps[b] := by
  induction ps generalizing s with
  | nil => simp
  | cons p ps ih =>
    obtain ⟨hp, hn⟩ := List.nodup_cons.1 hn
    rw [List.foldl_cons, ih hn]
    by_cases hbp : b = p
    · subst hbp
      rw [if_neg fun h => hp h.1]
      by_cases hw : s.pumps[b].state = .stopped ∧ 0 < s.pumps[b].demand
      · rw [if_pos hw, State.startPump_get, if_pos rfl, if_pos ⟨List.mem_cons_self, hw⟩]
      · rw [if_neg hw, if_neg fun h => hw h.2]
    · have hsame : (if s.pumps[p].state = .stopped ∧ 0 < s.pumps[p].demand then s.startPump p else s).pumps[b]
          = s.pumps[b] := by
        split
        · rw [State.startPump_get, if_neg hbp]
        · rfl
      simp only [hsame, List.mem_cons, hbp, false_or]

theorem State.restartPumps_get (b : Fin 4) :
    s.restartPumps.pumps[b]
      = if s.pumps[b].state = .stopped ∧ 0 < s.pumps[b].demand then s.pumps[b].started else s.pumps[b] := by
  have h := State.restartEach_pumps fours (by decide) b s
  simp only [mem_fours, true_and] at h
  exact h

theorem State.restartPumps_offPumps : s.restartPumps.offPumps = s.offPumps :=
  foldl_keeps State.offPumps _ (fun s p => by
    split
    · exact s.startPump_offPumps p
    · rfl) _ _

theorem State.tells_restartPumps : s.Tells s.restartPumps :=
  State.Tells.foldl (fun s p => by
    split
    · exact s.tells_startPump p
    · exact .refl s) _ _

theorem State.restartPumps_causes : s.restartPumps.load.map LoadRecord.causes = s.load.map LoadRecord.causes :=
  foldl_keeps (fun s => s.load.map LoadRecord.causes) _ (fun s p => by
    split
    · exact s.startPump_causes p
    · rfl) _ _

end Sys2Proof.Machine
end

section
/-! PROOFS. The emergency shutdown: its latch, its effects, and its reset (O46). -/

namespace Sys2Proof.Machine

variable {s t : State} {l : LoadRecord} {r : CloseReason} {k : Cause}

/-! ### Drives that find nothing to do -/

/-- What every drive of a run keeps, the drive of all keeps. -/
theorem State.driveAll_induction {P : State → Prop} (h : ∀ s n, P s → P (s.driveClose n r)) (hs : P s) : P (s.driveAll r) := by
  unfold State.driveAll
  generalize s.compNumbers = ns
  induction ns generalizing s with
  | nil => exact hs
  | cons n ns ih => exact ih (h s n hs)

/-- Where no arm is staging, a drive changes no arm. -/
theorem State.driveClose_arms_of_not_staging (h : ∀ a : Fin 4, s.arms[a].state.isStaging = false) (n : Nat) :
    (s.driveClose n r).arms = s.arms := by
  by_cases hc : ∃ c, s.comp? n = some c ∧ c.state.isDrivable = true
  · obtain ⟨c, hc, hd⟩ := hc
    have hx : s.arms[c.line.arm].driven = s.arms[c.line.arm] := if_neg (by rw [h]; exact Bool.false_ne_true)
    rw [State.driveClose_arms s hc hd, hx]
    refine Vector.ext fun i hi => ?_
    rw [Vector.getElem_set]
    split
    · rename_i he; subst he; rfl
    · rfl
  · rw [State.driveClose_of_not_drivable s fun c hcn => by
      by_contra hd; exact hc ⟨c, hcn, by simpa using hd⟩]

theorem State.driveAll_arms_of_not_staging (h : ∀ a : Fin 4, s.arms[a].state.isStaging = false) :
    (s.driveAll r).arms = s.arms :=
  State.driveAll_induction (P := fun t => t.arms = s.arms)
    (fun t n ht => (State.driveClose_arms_of_not_staging (by rw [ht]; exact h) n).trans ht) rfl

/-- A drive leaves each injector, or makes of it what a flow that stops makes. -/
theorem State.driveClose_injector_cases (n : Nat) (j : Fin 8) :
    (s.driveClose n r).injectors[j] = s.injectors[j] ∨ (s.driveClose n r).injectors[j] = s.injectors[j].flowStopped := by
  by_cases hc : ∃ c, s.comp? n = some c ∧ c.state.isDrivable = true
  · obtain ⟨c, hc, hd⟩ := hc
    rw [State.driveClose_injectors s hc hd]
    split
    · exact .inr rfl
    · exact .inl rfl
  · rw [State.driveClose_of_not_drivable s fun c hcn => by
      by_contra hd; exact hc ⟨c, hcn, by simpa using hd⟩]
    exact .inl rfl

theorem State.driveAll_injector_cases (j : Fin 8) :
    (s.driveAll r).injectors[j] = s.injectors[j] ∨ (s.driveAll r).injectors[j] = s.injectors[j].flowStopped := by
  refine State.driveAll_induction
    (P := fun t => t.injectors[j] = s.injectors[j] ∨ t.injectors[j] = s.injectors[j].flowStopped) (fun t n ht => ?_) (.inl rfl)
  obtain h | h := State.driveClose_injector_cases (s := t) (r := r) n j
  · rw [h]; exact ht
  · rw [h]
    obtain ht | ht := ht
    · rw [ht]; exact .inr rfl
    · rw [ht, Injector.flowStopped_flowStopped]; exact .inr rfl

/-- Where no compartment is drivable, a drive of all changes nothing. -/
theorem State.driveAll_of_not_drivable (h : ∀ l, s.load = some l → ∀ c ∈ l.comps, c.state.isDrivable = false) :
    s.driveAll r = s :=
  State.driveAll_induction (P := fun t => t = s) (fun t n ht => by
    subst ht
    refine State.driveClose_of_not_drivable _ fun c hc => ?_
    obtain ⟨l, hl, hlc⟩ := State.comp?_eq_some.1 hc
    exact h l hl c (List.mem_of_find?_eq_some hlc)) rfl

/-! ### The field action of the latch (R94, R114, R124) -/

theorem Arm.driven_not_staging (x : Arm) : x.driven.state.isStaging = false := by
  by_cases h : x.state.isStaging = true
  · rw [Arm.driven_of_staging h]; rfl
  · rw [show x.driven = x from if_neg h]; simpa using h

theorem State.shutDown_arms (a : Fin 4) :
    s.shutDown.arms[a].valve = .closed ∧ s.shutDown.arms[a].state.isStaging = false := by
  have h : s.shutDown.arms[a] = { ((s.driveAll (.halt .esd)).arms[a]).driven with valve := .closed } := by
    rw [State.shutDown, State.cutStrokes_arms]
    exact State.mapArms_get (s.driveAll (.halt .esd)) (fun x => { x.driven with valve := .closed }) a
  rw [h]
  exact ⟨rfl, Arm.driven_not_staging _⟩

theorem State.cutStrokes_injectors (j : Fin 8) : s.cutStrokes.injectors[j] = s.injectors[j].cut := by
  rw [State.cutStrokes_eq]; exact State.mapInjectors_get s _ j

theorem Injector.cut_flowStopped (x : Injector) : x.flowStopped.cut = x.cut := by
  by_cases h : x.state = .stroking
  · simp [Injector.flowStopped_of_stroking h, Injector.cut, h]
  · rw [Injector.flowStopped_of_not_stroking h]

theorem Injector.cut_not_stroking (x : Injector) : x.cut.state ≠ .stroking := by
  unfold Injector.cut; split
  · exact nofun
  · assumption

theorem State.shutDown_injectors (j : Fin 8) : s.shutDown.injectors[j] = s.injectors[j].cut := by
  rw [State.shutDown, State.cutStrokes_injectors]
  obtain h | h := State.driveAll_injector_cases (s := s) (r := .halt .esd) j
  · exact congrArg Injector.cut h
  · exact (congrArg Injector.cut h).trans (Injector.cut_flowStopped _)

/-- The parts that the field action of the latch leaves alone. -/
theorem State.cutStrokes_still (s : State) : s.cutStrokes.still = s.still := foldl_keeps State.still _ (by simp) _ _

theorem State.mapPumps_offPumps (f : Pump → Pump) (s : State) : (s.mapPumps f).offPumps = s.offPumps := rfl

theorem State.mapArms_still (f : Arm → Arm) (s : State) : (s.mapArms f).still = s.still := rfl

theorem State.shutDown_offPumps (s : State) : s.shutDown.offPumps = s.offPumps := by
  unfold State.shutDown
  rw [State.offPumps_of_still (State.cutStrokes_still _), State.mapPumps_offPumps,
    State.offPumps_of_still (State.mapArms_still _ _), State.offPumps_of_still (State.driveAll_still _ _)]

theorem State.shutDown_pumps (p : Fin 4) : s.shutDown.pumps[p] = s.pumps[p].shutDown := by
  have h : s.shutDown.pumps = (((s.driveAll (.halt .esd)).mapArms fun x => { x.driven with valve := .closed }).mapPumps
    Pump.shutDown).pumps := State.pumps_of_still (State.cutStrokes_still _)
  have hd : (s.driveAll (.halt .esd)).pumps = s.pumps := State.pumps_of_still (State.driveAll_still s _)
  rw [h, State.mapPumps_get]
  exact congrArg (fun v : Vector Pump 4 => v[p].shutDown) hd

theorem State.cutStroke_ports (j : Fin 8) (s : State) : (s.cutStroke j).ports = s.ports := by
  rw [State.cutStroke_eq, State.countAt]
  unfold State.modifyBound; split <;> rfl

theorem State.cutStrokes_ports (s : State) : s.cutStrokes.ports = s.ports :=
  foldl_keeps State.ports _ (fun s j => State.cutStroke_ports j s) _ _

theorem State.shutDown_ports (s : State) : s.shutDown.ports = (s.driveAll (.halt .esd)).ports := by
  rw [State.shutDown, State.cutStrokes_ports]; rfl

/-- The field action tells nothing but the changes that its drives bring. -/
theorem State.tells_latch (s : State) (y : Safety) : s.Tells ({ s with safety := y } : State).shutDown := by
  have h := State.tells_driveAll (.halt .esd) { s with safety := y }
  unfold State.Tells at h ⊢
  rw [State.shutDown_ports]
  exact h

theorem State.shutDown_outline (hl : s.load = some l) (hn : (l.comps.map fun c => c.line.compartment).Nodup) :
    s.shutDown.outline = some ((l.comps.map CompRecord.outline).map (CompOutline.driven (.halt .esd)), l.causes) := by
  have h := State.driveAll_outline (.halt .esd) s (l.comps.map CompRecord.outline) l.causes
    (by simp [State.outline, hl, LoadRecord.outline])
    (by simpa [List.map_map, Function.comp_def, CompRecord.outline] using hn)
  rw [State.shutDown, State.cutStrokes_outline]
  exact h

/-! ### The latch set (R124) -/

theorem State.addCause_arms_of_not_staging (h : ∀ a : Fin 4, s.arms[a].state.isStaging = false) :
    (s.addCause k).arms = s.arms := by
  cases hl : s.load with
  | none => rw [State.addCause_without_load hl]
  | some l =>
    cases hk : l.causes.has k with
    | true => rw [State.addCause_of_has hl hk]
    | false =>
      rw [State.addCause_of_not_has hl hk, State.postCause_arms, State.imagePoint_arms, State.evalLoad_arms]
      exact State.driveAll_arms_of_not_staging h

theorem State.addCause_injectors_of_not_stroking (h : ∀ j : Fin 8, s.injectors[j].state ≠ .stroking) (j : Fin 8) :
    (s.addCause k).injectors[j] = s.injectors[j] := by
  cases hl : s.load with
  | none => rw [State.addCause_without_load hl]
  | some l =>
    cases hk : l.causes.has k with
    | true => rw [State.addCause_of_has hl hk]
    | false =>
      rw [State.addCause_of_not_has hl hk, State.postCause_injectors, State.imagePoint_injectors, State.evalLoad_injectors]
      obtain hj | hj := State.driveAll_injector_cases (s := s) (r := .halt k.haltCause) j
      · exact hj
      · exact hj.trans (Injector.flowStopped_of_not_stroking (h j))

/-- The state in which the ESD latch has set its cause and not yet told of itself. -/
def State.latched (s : State) : State :=
  (({ s with safety := { s.safety with esdInput := some true, esdLatch := true } } : State).shutDown).addCause .esd

theorem State.esdInput_latches (h : s.safety.esdInput ≠ some true) (hlatch : s.safety.esdLatch = false) :
    s.esdInput true = if s.phase = .startUp then s.latched else s.latched.post .esd .none 0 0 := by
  have hi : (s.safety.esdInput != some true) = true := by simpa using h
  simp only [State.esdInput, hi, hlatch, Bool.and_true, Bool.not_false, if_true]
  rfl

/-- An input that asserts nothing new is only remembered. -/
theorem State.esdInput_remembered {on : Bool} (h : s.safety.esdLatch = true ∨ on = false) :
    s.esdInput on = { s with safety := { s.safety with esdInput := some on } } := by
  obtain h | rfl := h
  · simp [State.esdInput, h]
  · simp [State.esdInput]

theorem State.latched_leaves (s : State) : s.latched.safety = { s.safety with esdInput := some true, esdLatch := true }
    ∧ s.latched.apart = s.apart := by
  obtain ⟨hs, -, -, ha⟩ := State.addCause_leaves .esd
    ({ s with safety := { s.safety with esdInput := some true, esdLatch := true } } : State).shutDown
  obtain ⟨-, hs', -, -, ha'⟩ := State.of_offPumps (State.shutDown_offPumps
    { s with safety := { s.safety with esdInput := some true, esdLatch := true } })
  exact ⟨hs.trans hs', ha.trans ha'⟩

theorem State.latched_arms (a : Fin 4) : s.latched.arms[a].valve = .closed ∧ s.latched.arms[a].state.isStaging = false := by
  rw [State.latched, State.addCause_arms_of_not_staging fun a => State.shutDown_arms a |>.2]
  exact State.shutDown_arms a

theorem State.latched_pumps (p : Fin 4) : s.latched.pumps[p] = s.pumps[p].shutDown := by
  rw [State.latched, (State.addCause_leaves .esd _).2.1]
  exact State.shutDown_pumps p

theorem State.latched_injectors (j : Fin 8) : s.latched.injectors[j] = s.injectors[j].cut := by
  rw [State.latched, State.addCause_injectors_of_not_stroking fun j => by
    rw [State.shutDown_injectors]; exact Injector.cut_not_stroking _]
  exact State.shutDown_injectors j

/-- The load once the latch has set its cause: every drivable compartment is driven (R124). -/
theorem State.latched_load (hl : s.load = some l) (hc : l.causes.esd = false)
    (hn : (l.comps.map fun c => c.line.compartment).Nodup) :
    ∃ u, s.latched.load = some u ∧ u.causes = { l.causes with esd := true } ∧ (∀ c ∈ u.comps, c.state.isDrivable = false)
      ∧ ∀ c ∈ l.comps, c.state.isDrivable = true →
        ∃ c' ∈ u.comps, c'.line = c.line ∧ c'.state = .closing ∧ c'.closeReason = some (.halt .esd) := by
  have hs := State.shutDown_outline
    (s := { s with safety := { s.safety with esdInput := some true, esdLatch := true } }) hl hn
  have ho := State.addCause_outline .esd _ _ _ hs hc (by
    simpa [List.map_map, Function.comp_def, CompRecord.outline] using hn)
  rw [List.map_map, show CompOutline.driven (.halt Cause.esd.haltCause) ∘ CompOutline.driven (.halt .esd)
    = CompOutline.driven (.halt .esd) from funext (CompOutline.driven_driven (.halt .esd))] at ho
  obtain ⟨u, hu, hcomps, hcauses⟩ := State.outline_load ho
  exact ⟨u, hu, hcauses, driven_comps hcomps⟩

/-- CAUSE_RAISED is the last event that the latch has told before its own (R21). -/
theorem State.latched_tells (hp : s.phase = .running) (hl : s.load = some l) (hc : l.causes.esd = false)
    (hn : (l.comps.map fun c => c.line.compartment).Nodup) :
    s.ports.EndedBy ⟨.causeRaised, .none, 0, 0, s.clock.second⟩ s.latched.ports := by
  let v := ({ s with safety := { s.safety with esdInput := some true, esdLatch := true } } : State).shutDown
  obtain ⟨-, -, -, -, hapart⟩ := State.of_offPumps (State.shutDown_offPumps
    { s with safety := { s.safety with esdInput := some true, esdLatch := true } })
  obtain ⟨-, -, -, -, hclock, -, hphase, -⟩ := State.of_apart hapart
  obtain ⟨u, hu, -, hcauses⟩ := State.outline_load (State.shutDown_outline
    (s := { s with safety := { s.safety with esdInput := some true, esdLatch := true } }) hl hn)
  have hk : u.causes.has .esd = false := by rw [hcauses]; exact hc
  obtain ⟨-, -, -, -, hclock', -, hphase', -⟩ := State.of_apart (State.of_still (State.beforeRaise_still .esd v)).2.2.2.2.2
  have hrun : (v.beforeRaise .esd).phase ≠ .startUp := by
    rw [hphase', hphase, hp]; decide
  have he : s.latched = (v.beforeRaise .esd).post .causeRaised .none 0 (w32 Cause.esd.number) :=
    (State.addCause_of_not_has hu hk).trans (State.postCause_of_running hrun)
  have htells : s.Tells (v.beforeRaise .esd) :=
    (State.tells_latch s _).trans (State.tells_beforeRaise .esd v)
  refine ⟨_, htells, ?_⟩
  rw [he, State.post_ports, hclock', hclock]; rfl

theorem State.latched_without_load (hl : s.load = none) : s.latched.ports = s.ports := by
  have hd : ({ s with safety := { s.safety with esdInput := some true, esdLatch := true } } : State).driveAll (.halt .esd)
      = { s with safety := { s.safety with esdInput := some true, esdLatch := true } } :=
    State.driveAll_of_not_drivable fun l hl' => nomatch (hl.symm.trans hl' : none = some l)
  have hnone : ({ s with safety := { s.safety with esdInput := some true, esdLatch := true } } : State).shutDown.load = none := by
    have ho := State.cutStrokes_outline ((({ s with
      safety := { s.safety with esdInput := some true, esdLatch := true } } : State).driveAll (.halt .esd)).mapArms
        (fun x => { x.driven with valve := .closed }) |>.mapPumps Pump.shutDown)
    rw [hd] at ho
    have : ({ s with safety := { s.safety with esdInput := some true, esdLatch := true } } : State).shutDown.outline = none := by
      rw [State.shutDown, hd, ho]; exact congrArg (Option.map LoadRecord.outline) hl
    exact Option.map_eq_none_iff.1 this
  rw [State.latched, State.addCause_without_load hnone, State.shutDown_ports, hd]

/-! ### The latch set during start-up (R132) -/

/-- A cause put into the set of a load that is suspended or closing, with no compartment to drive, changes no load state. -/
theorem State.addCause_ports_of_settled (hp : s.phase = .startUp) (hl : s.load = some l)
    (hs : l.state = .suspended ∨ l.state = .closing) (hd : ∀ c ∈ l.comps, c.state.isDrivable = false) :
    (s.addCause k).ports = s.ports := by
  cases hk : l.causes.has k with
  | true => rw [State.addCause_of_has hl hk]
  | false =>
    have hdrive : s.driveAll (.halt k.haltCause) = s := State.driveAll_of_not_drivable fun l' hl' => by
      rw [← Option.some.inj (hl.symm.trans hl')]; exact hd
    have hload : (s.modifyLoad fun l => { l with causes := l.causes.put true k }).load
        = some { l with causes := l.causes.put true k } := by rw [State.modifyLoad, hl]; rfl
    have heval : ({ l with causes := l.causes.put true k } : LoadRecord).evaluated = l.state := by
      obtain h | h := hs
      · have he : (l.causes.put true k).isEmpty = false := by cases k <;> simp [CauseSet.put, CauseSet.isEmpty]
        simp [LoadRecord.evaluated, h, he]
      · simp [LoadRecord.evaluated, h]
    have hev : (s.modifyLoad fun l => { l with causes := l.causes.put true k }).evalLoad
        = s.modifyLoad fun l => { l with causes := l.causes.put true k } := by
      simp only [State.evalLoad, hload, heval, if_true]
    rw [State.addCause_of_not_has hl hk, hdrive, hev]
    have hp' : (s.modifyLoad fun l => { l with causes := l.causes.put true k }).imagePoint.phase = .startUp :=
      (State.of_apart (State.of_still (State.imagePoint_still _)).2.2.2.2.2).2.2.2.2.2.2.1.trans hp
    rw [State.postCause, if_pos hp', State.imagePoint_ports]; rfl

theorem CompState.not_drivable_of_inactive {x : CompState} (h : x.isActive = false) : x.isDrivable = false := by
  revert h; cases x <;> decide

theorem State.latched_startUp (hp : s.phase = .startUp)
    (hs : ∀ l, s.load = some l → (l.state = .suspended ∨ l.state = .closing) ∧ ∀ c ∈ l.comps, c.state.isActive = false) :
    s.latched.ports = s.ports := by
  cases hl : s.load with
  | none => exact State.latched_without_load hl
  | some l =>
    obtain ⟨hst, hact⟩ := hs l hl
    let y : Safety := { s.safety with esdInput := some true, esdLatch := true }
    have hd : ({ s with safety := y } : State).driveAll (.halt .esd) = { s with safety := y } :=
      State.driveAll_of_not_drivable fun l' hl' c hc =>
        CompState.not_drivable_of_inactive (hact c (by rw [Option.some.inj (hl.symm.trans hl')]; exact hc))
    have hload : ({ s with safety := y } : State).shutDown.load
        = some (l.counted eights Injector.cutMissed Injector.cutSkipped s.injectors) := by
      rw [State.shutDown, hd, State.cutStrokes_eq]
      exact congrArg (Option.map _) hl
    have hphase : ({ s with safety := y } : State).shutDown.phase = .startUp :=
      (State.of_apart (State.of_offPumps (State.shutDown_offPumps { s with safety := y })).2.2.2.2).2.2.2.2.2.2.1.trans hp
    have hadd := State.addCause_ports_of_settled (k := .esd) hphase hload hst fun c hc => by
      obtain ⟨d, hdm, rfl⟩ := List.mem_map.1 hc
      exact CompState.not_drivable_of_inactive (hact d hdm)
    have hports : ({ s with safety := y } : State).shutDown.ports = s.ports := by rw [State.shutDown_ports, hd]
    exact hadd.trans hports

/-! ### The assertion as a row (R123, R124) -/

theorem Pump.shutDown_eq (x : Pump) : x.shutDown = if x.state = .stopped ∨ x.state = .failed then x
    else { x with state := .stopped, run := false, timer := none } := by
  unfold Pump.shutDown Pump.stop
  cases h : x.state <;> simp

/-- What the ports are once the assertion has been taken (R124, R132). -/
def State.esdTold (s : State) : Ports :=
  if s.phase = .startUp then s.latched.ports else s.latched.ports.offer ⟨.esd, .none, 0, 0, s.clock.second⟩

theorem exec_esdInputChange_latches (hp : s.phase = .running ∨ s.phase = .startUp) (hi : s.safety.esdInput ≠ some true)
    (hlatch : s.safety.esdLatch = false) :
    ∃ t, exec (.esdInputChange true) s = .next t ∧ t.safety = s.latched.safety ∧ t.arms = s.latched.arms
      ∧ t.pumps = s.latched.pumps ∧ t.injectors = s.latched.injectors ∧ t.load = s.latched.load ∧ t.ports = s.esdTold
      ∧ t.meters = s.latched.meters ∧ t.orders = s.latched.orders := by
  have hclock : s.latched.clock = s.clock := (State.of_apart (State.latched_leaves s).2).2.2.2.2.1
  have hexec : exec (.esdInputChange true) s = .next (s.esdInput true).startWrite := by
    obtain h | h := hp <;> simp only [exec, execEsdInputChange, h]
  rw [State.esdInput_latches hi hlatch] at hexec
  refine ⟨_, hexec, ?_⟩
  unfold State.esdTold
  generalize s.latched = x at hclock ⊢
  split
  · exact ⟨rfl, rfl, rfl, rfl, rfl, rfl, rfl, rfl⟩
  · refine ⟨rfl, rfl, rfl, rfl, rfl, ?_, rfl, rfl⟩
    rw [← hclock]; rfl

theorem exec_esdInputChange_remembered {on : Bool} (hp : s.phase = .running ∨ s.phase = .startUp)
    (h : s.safety.esdLatch = true ∨ on = false) :
    exec (.esdInputChange on) s = .next (State.startWrite { s with safety := { s.safety with esdInput := some on } }) := by
  obtain hp | hp := hp <;> simp only [exec, execEsdInputChange, hp, State.esdInput_remembered h]

/-! ### ESD-RESET (R125) -/

theorem ownEsdReset_refused (h : s.safety.esdLatch = false ∨ s.safety.esdInput = some true) :
    ownEsdReset s = refuse .state s := by
  refine if_pos ?_
  obtain h | h := h
  · exact .inl (by rw [h]; rfl)
  · exact .inr h

theorem ownEsdReset_accepted (h : s.safety.esdLatch = true) (hi : s.safety.esdInput ≠ some true) :
    ownEsdReset s = reply .ok .none ((((({ s with safety := { s.safety with esdLatch := false } }).removeCause
      .esd).restartPumps).post .esd .none 0 1)) := by
  refine if_neg ?_
  rw [h]
  rintro (h | h)
  · exact nomatch h
  · exact hi h

/-- What ESD-RESET has told before the pumps start again (R22). -/
theorem State.removeCause_tells (hp : s.phase ≠ .startUp) :
    (if s.load.any (fun l => l.causes.has k) then
        s.ports.offer ⟨.causeCleared, .none, 0, w32 k.number, s.clock.second⟩
      else s.ports).Grows (s.removeCause k).ports := by
  cases hl : s.load with
  | none => rw [State.removeCause_without_load hl]; exact Ports.Grows.refl _
  | some l =>
    rw [Option.any_some]
    cases hk : l.causes.has k with
    | false => rw [State.removeCause_of_not_has hl hk]; exact Ports.Grows.refl _
    | true =>
      obtain ⟨u, -, -, -, -, hports⟩ := State.removeCause_clears hl hk hp
      rw [if_pos rfl, hports]
      split
      · exact Ports.Grows.refl _
      · exact Ports.offer_grows _ _

theorem Pump.waiting_started {x : Pump} (hs : x.state = .stopped) (hd : 0 < x.demand) :
    (if x.state = .stopped ∧ 0 < x.demand then x.started else x).run = true := by
  rw [if_pos ⟨hs, hd⟩]; exact Pump.started_run hd

/-- The state in which ESD-RESET posts its event. -/
def State.esdReleased (s : State) : State := (s.removeCause .esd).restartPumps

theorem State.esdReleased_leaves (s : State) : s.esdReleased.safety = s.safety ∧ s.esdReleased.meters = s.meters
    ∧ s.esdReleased.orders = s.orders ∧ s.esdReleased.clock = s.clock := by
  obtain ⟨hsafety, -, -, hapart⟩ := State.removeCause_leaves .esd s
  obtain ⟨-, hsafety', -, -, hapart'⟩ := State.of_offPumps (State.restartPumps_offPumps (s.removeCause .esd))
  obtain ⟨hmeters, -, horders, -, hclock, -, -, -⟩ := State.of_apart (hapart'.trans hapart)
  exact ⟨hsafety'.trans hsafety, hmeters, horders, hclock⟩

theorem State.esdReleased_pumps (p : Fin 4) : s.esdReleased.pumps[p]
    = if s.pumps[p].state = .stopped ∧ 0 < s.pumps[p].demand then s.pumps[p].started else s.pumps[p] := by
  have h := State.restartPumps_get (s.removeCause .esd) p
  rw [(State.removeCause_leaves .esd s).2.1] at h
  exact h

theorem State.esdReleased_load (hl : s.load = some l) :
    ∃ u, s.esdReleased.load = some u ∧ u.causes = { l.causes with esd := false } := by
  obtain ⟨u, hu, -, hcauses⟩ := State.removeCause_load s .esd l hl
  have hr := State.restartPumps_causes (s.removeCause .esd)
  rw [hu, Option.map_some, Option.map_eq_some_iff] at hr
  obtain ⟨u', hu', hc⟩ := hr
  exact ⟨u', hu', hc.trans hcauses⟩

theorem exec_esdReset_releases {g : Byte} {body tail : List Byte} (hrun : s.phase = .running)
    (hlatch : s.safety.esdLatch = true) (hi : s.safety.esdInput ≠ some true) :
    let w : Win := ⟨.sp, g, body, tail⟩
    ∃ t : State, exec (.esdReset w) s = .next (State.answered w .ok .none t)
      ∧ t.safety = { s.safety with esdLatch := false }
      ∧ (∀ l, s.load = some l → ∃ u, t.load = some u ∧ u.causes = { l.causes with esd := false })
      ∧ (let v := s.seen .esdReset w
        let told := if s.load.any (fun l => l.causes.esd) then
            v.ports.offer ⟨.causeCleared, .none, 0, 0, s.clock.second⟩
          else v.ports
        told.EndedBy ⟨.esd, .none, 0, 1, s.clock.second⟩ t.ports)
      ∧ (∀ p : Fin 4, s.pumps[p].state = .stopped → 0 < s.pumps[p].demand → t.pumps[p].run = true)
      ∧ (∀ p : Fin 4, s.pumps[p].state ≠ .stopped ∨ s.pumps[p].demand = 0 → t.pumps[p] = s.pumps[p])
      ∧ t.meters = s.meters ∧ t.orders = s.orders := by
  intro w
  generalize hv : ({ s.seen .esdReset w with safety := { s.safety with esdLatch := false } } : State) = v
  have hp : v.phase ≠ .startUp := by rw [← hv]; show s.phase ≠ .startUp; rw [hrun]; decide
  have hpumps : v.pumps = s.pumps := by rw [← hv]; rfl
  have hload : v.load = s.load := by rw [← hv]; rfl
  have hclock' : v.clock = s.clock := by rw [← hv]; rfl
  have hports : v.ports = (s.seen .esdReset w).ports := by rw [← hv]
  obtain ⟨hsafety, hmeters, horders, hclock⟩ := State.esdReleased_leaves v
  have hpump (p : Fin 4) := State.esdReleased_pumps (s := v) p
  simp only [hpumps] at hpump
  have htold := State.removeCause_tells (k := .esd) hp
  rw [hload, hports, hclock'] at htold
  have htold' := Ports.Grows.trans htold (State.tells_restartPumps (v.removeCause .esd))
  have hload' (l : LoadRecord) (hl : s.load = some l) := State.esdReleased_load (s := v) (hload.trans hl)
  have ho : ownEsdReset (s.seen .esdReset w) = reply .ok .none (v.esdReleased.post .esd .none 0 1) := by
    rw [← hv]; exact ownEsdReset_accepted hlatch hi
  have hexec := exec_answers (i := .esdReset w) rfl rfl hrun rfl ho
  change Ports.Grows _ v.esdReleased.ports at htold'
  generalize v.esdReleased = x at *
  refine ⟨_, hexec, ?_, hload', ⟨x.ports, htold', ?_⟩, fun p hs hd => ?_, fun p h => ?_, ?_, ?_⟩
  · rw [State.post_safety, hsafety, ← hv]
  · rw [State.post_ports, hclock, hclock']
  · rw [State.post_pumps, hpump]; exact Pump.waiting_started hs hd
  · rw [State.post_pumps, hpump, if_neg fun hw => h.elim (fun h => h hw.1) fun h => by omega]
  · rw [State.post_meters, hmeters, ← hv]; rfl
  · rw [State.post_orders, horders, ← hv]; rfl

/-- Settles O46. -/
theorem esdLatchedAndReset : Obligations.EsdLatchedAndReset := by
  intro g body tail s w
  refine ⟨fun hp hi hlatch => ?_, fun on hp h => exec_esdInputChange_remembered hp h, fun on hp => ?_, fun hrun h => ?_,
    fun hrun hlatch hi => exec_esdReset_releases hrun hlatch hi⟩
  · obtain ⟨hsafety, hapart⟩ := State.latched_leaves s
    obtain ⟨t, hexec, htsafety, harms, hpumps, hinj, hload, hports, htmeters, htorders⟩ := exec_esdInputChange_latches hp hi hlatch
    obtain ⟨hmeters, -, horders, -, -, -, -, -⟩ := State.of_apart hapart
    have hj (j : Fin 8) : t.injectors[j] = s.injectors[j].cut := by rw [hinj]; exact State.latched_injectors j
    refine ⟨t, hexec, htsafety.trans hsafety, fun a => by rw [harms]; exact State.latched_arms a,
      fun p => by rw [hpumps, ← Pump.shutDown_eq]; exact State.latched_pumps p,
      fun j => ⟨by rw [hj]; exact Injector.cut_not_stroking _, fun h => (hj j).trans (if_pos h),
        fun h => (hj j).trans (if_neg h)⟩, fun l hl hc hn => ?_, fun hrun hl => ?_, fun hst hs => ?_,
      htmeters.trans hmeters, htorders.trans horders⟩
    · obtain ⟨u, hu, hcauses, hnone, hall⟩ := State.latched_load hl hc hn
      refine ⟨u, hload.trans hu, hcauses, hnone, hall, fun hrun => ⟨_, State.latched_tells hrun hl hc hn, hports.trans ?_⟩⟩
      exact if_neg (by rw [hrun]; decide)
    · rw [hports, State.esdTold, if_neg (by rw [hrun]; decide), State.latched_without_load hl]
    · rw [hports, State.esdTold, if_pos hst, State.latched_startUp hst hs]
  · simp only [exec, execEsdInputChange, hp]
  · exact exec_answers rfl rfl hrun rfl (ownEsdReset_refused (s := s.seen .esdReset w) h)

end Sys2Proof.Machine
end

section
/-! PROOFS. The failure of power, RESET, and the loss of power (O59). -/

namespace Sys2Proof.Machine

variable {s : State}

/-! ### PFAIL (R183) -/

/-- The state in which PFAIL looks whether the save can be taken. -/
def State.failing (s : State) : State :=
  let s1 := (((s.mapArms Arm.powerDown).mapPumps Pump.powerDown).cutStrokes).mapSlots fun x => { x with holdTimer := none }
  { s1 with
    safety := { s1.safety with validity := none, horn := false }
    phase := .powerDown, pfail := true, imageOwed := false, chargeOwed := none, checkpointOwed := false
    backlog := [], startRecords := 0 }

theorem State.powerDown_eq (s : State) : s.powerDown = if s.failing.queue.isEmpty then s.failing.takeSave else s.failing := rfl

theorem Injector.cut_total (x : Injector) : x.cut.total = x.total := by unfold Injector.cut; split <;> rfl

/-- Where nothing strokes, the cut of strokes counts nothing. -/
theorem State.cutStrokes_load (h : ∀ j : Fin 8, s.injectors[j].state ≠ .stroking) : s.cutStrokes.load = s.load := by
  have hs : s.cutStrokes = s := by
    unfold State.cutStrokes
    generalize eights = js
    induction js with
    | nil => rfl
    | cons j js ih => rw [List.foldl_cons, State.cutStroke, if_neg (h j)]; exact ih
  rw [hs]

/-- The state of a part in POWER_DOWN, field by field. -/
theorem State.failing_fields (s : State) : s.failing.phase = .powerDown ∧ s.failing.pfail = true
    ∧ s.failing.started = s.started ∧ s.failing.queue = s.queue ∧ s.failing.audit = s.audit ∧ s.failing.ports = s.ports
    ∧ (∀ a : Fin 4, s.failing.arms[a]
      = { s.arms[a] with valve := .closed, settleTimer := none, closeTimer := none, antOwed := false })
    ∧ (∀ p : Fin 4, s.failing.pumps[p] = { s.pumps[p] with run := false, timer := none })
    ∧ (∀ j : Fin 8, s.failing.injectors[j] = s.injectors[j].cut)
    ∧ (∀ i : Fin 8, s.failing.slots[i] = { s.slots[i] with holdTimer := none })
    ∧ s.failing.safety = { s.safety with validity := none, horn := false }
    ∧ ((∀ j : Fin 8, s.injectors[j].state ≠ .stroking) → s.failing.load = s.load)
    ∧ s.failing.imageOwed = false ∧ s.failing.chargeOwed = none ∧ s.failing.checkpointOwed = false ∧ s.failing.backlog = []
    ∧ s.failing.meters = s.meters ∧ s.failing.saving = s.saving := by
  have hcut := State.cutStrokes_eq ((s.mapArms Arm.powerDown).mapPumps Pump.powerDown)
  have hinj (j : Fin 8) := State.mapInjectors_get ((s.mapArms Arm.powerDown).mapPumps Pump.powerDown) Injector.cut j
  have hslots (i : Fin 8) := State.mapSlots_get s (fun x => { x with holdTimer := none }) i
  unfold State.failing
  rw [hcut]
  refine ⟨rfl, rfl, rfl, rfl, rfl, rfl, fun a => State.mapArms_get s Arm.powerDown a,
    fun p => State.mapPumps_get s Pump.powerDown p, hinj, hslots, rfl, fun h => ?_, rfl, rfl, rfl, rfl, rfl, rfl⟩
  have hload := State.cutStrokes_load (s := (s.mapArms Arm.powerDown).mapPumps Pump.powerDown) h
  rw [hcut] at hload
  exact hload

/-- The save holds what the part held as it was taken (R184). -/
theorem State.takeSave_saves (s : State) : ∃ d, s.takeSave.saving = some d ∧ d.load = s.load
    ∧ (∀ j : Fin 8, d.injectors[j] = s.injectors[j].total)
    ∧ ∀ m : Fin 4, d.meters[m] = s.meters[m].saved :=
  ⟨s.saveData, rfl, rfl, forall_eight rfl rfl rfl rfl rfl rfl rfl rfl, forall_four rfl rfl rfl rfl⟩

/-- PFAIL takes the save at once where nothing waits to be written (R183, R184). -/
theorem State.powerDown_fields (s : State) :
    s.powerDown.phase = .powerDown ∧ s.powerDown.pfail = true ∧ s.powerDown.started = s.started
    ∧ s.powerDown.queue = s.queue ∧ s.powerDown.audit = s.audit ∧ s.powerDown.ports = s.ports
    ∧ (∀ a : Fin 4, s.powerDown.arms[a]
      = { s.arms[a] with valve := .closed, settleTimer := none, closeTimer := none, antOwed := false })
    ∧ (∀ p : Fin 4, s.powerDown.pumps[p] = { s.pumps[p] with run := false, timer := none })
    ∧ (∀ j : Fin 8, s.powerDown.injectors[j].state ≠ .stroking ∧ s.powerDown.injectors[j].total = s.injectors[j].total)
    ∧ (∀ i : Fin 8, s.powerDown.slots[i] = { s.slots[i] with holdTimer := none })
    ∧ s.powerDown.safety = { s.safety with validity := none, horn := false }
    ∧ ((∀ j : Fin 8, s.injectors[j].state ≠ .stroking) → s.powerDown.load = s.load)
    ∧ s.powerDown.imageOwed = false ∧ s.powerDown.chargeOwed = none ∧ s.powerDown.checkpointOwed = false
    ∧ s.powerDown.backlog = []
    ∧ (s.queue = [] →
      (∀ m : Fin 4, s.powerDown.meters[m] = { s.meters[m] with gateTimer := none, decoding := false })
      ∧ ∃ d, s.powerDown.saving = some d ∧ d.load = s.powerDown.load ∧ (∀ j : Fin 8, d.injectors[j] = s.injectors[j].total)
        ∧ ∀ m : Fin 4, d.meters[m] = ⟨s.meters[m].gross, s.meters[m].net, s.meters[m].remI, s.meters[m].remG,
          s.meters[m].remN, s.meters[m].debt⟩)
    ∧ (s.queue ≠ [] → s.powerDown.saving = s.saving ∧ s.powerDown.meters = s.meters) := by
  obtain ⟨h1, h2, h3, hq, h5, h6, h7, h8, hinj, h10, h11, h12, h13, h14, h15, h16, hm, hsv⟩ := State.failing_fields s
  have htotal (j : Fin 8) : s.failing.injectors[j].total = s.injectors[j].total :=
    (congrArg Injector.total (hinj j)).trans (Injector.cut_total _)
  have hcut (j : Fin 8) : s.failing.injectors[j].state ≠ .stroking ∧ s.failing.injectors[j].total = s.injectors[j].total :=
    ⟨by rw [hinj]; exact Injector.cut_not_stroking _, htotal j⟩
  obtain ⟨d, hd, hdl, hdj, hdm⟩ := State.takeSave_saves s.failing
  have hsaved (m : Fin 4) : d.meters[m] = ⟨s.meters[m].gross, s.meters[m].net, s.meters[m].remI, s.meters[m].remG,
      s.meters[m].remN, s.meters[m].debt⟩ := by rw [hdm, hm]; rfl
  have hmeters (m : Fin 4) : s.failing.takeSave.meters[m] = { s.meters[m] with gateTimer := none, decoding := false } := by
    have h := State.mapMeters_get s.failing (fun x => { x with gateTimer := none, decoding := false }) m
    rw [hm] at h; exact h
  rw [State.powerDown_eq, hq]
  cases hqe : s.queue with
  | nil =>
    rw [List.isEmpty_nil, if_pos rfl]
    generalize s.failing = x at *
    exact ⟨h1, h2, h3, hq.trans hqe, h5, h6, h7, h8, hcut, h10, h11, h12, h13, h14, h15, h16,
      fun _ => ⟨hmeters, d, hd, hdl, fun j => (hdj j).trans (htotal j), hsaved⟩, fun h => absurd rfl h⟩
  | cons r rest =>
    rw [if_neg (by simp)]
    exact ⟨h1, h2, h3, hq.trans hqe, h5, h6, h7, h8, hcut, h10, h11, h12, h13, h14, h15, h16, nofun, fun _ => ⟨hsv, hm⟩⟩

/-! ### RESET and the loss of power (R180, R189) -/

/-- What a held part has left of its outputs, whatever audit memory holds. -/
theorem State.hold_fields (a : Audit) (s : State) : (s.hold a).phase = .held ∧ (∀ b : Fin 4, (s.hold a).arms[b].valve = .closed)
    ∧ (∀ p : Fin 4, (s.hold a).pumps[p].run = false) ∧ (∀ j : Fin 8, (s.hold a).injectors[j].output = false)
    ∧ (s.hold a).safety.horn = false ∧ (s.hold a).scanner.tcs = false
    ∧ (∀ p : Port, ((s.hold a).ports.get p).attn = false ∧ ((s.hold a).ports.get p).shifted = []
      ∧ ((s.hold a).ports.get p).pending = none)
    ∧ (s.hold a).queue = [] ∧ (s.hold a).load = none ∧ (s.hold a).pending = s.pending :=
  ⟨rfl, forall_four rfl rfl rfl rfl, forall_four rfl rfl rfl rfl, forall_eight rfl rfl rfl rfl rfl rfl rfl rfl, rfl, rfl,
    fun p => by cases p <;> exact ⟨rfl, rfl, rfl⟩, rfl, rfl, rfl⟩

/-- Two audit memories hold the part alike, in all that leads out of it. -/
theorem State.hold_outputs (a b : Audit) (s : State) : (s.hold a).arms.map Arm.valve = (s.hold b).arms.map Arm.valve
    ∧ (s.hold a).pumps.map Pump.run = (s.hold b).pumps.map Pump.run
    ∧ (s.hold a).injectors.map Injector.output = (s.hold b).injectors.map Injector.output
    ∧ (s.hold a).scanner = (s.hold b).scanner ∧ (s.hold a).ports = (s.hold b).ports := by
  obtain ⟨-, va, pa, ja, -⟩ := State.hold_fields a s
  obtain ⟨-, vb, pb, jb, -⟩ := State.hold_fields b s
  refine ⟨?_, ?_, ?_, rfl, rfl⟩ <;> refine Vector.ext fun i hi => ?_ <;> rw [Vector.getElem_map, Vector.getElem_map]
  · exact (va ⟨i, hi⟩).trans (vb ⟨i, hi⟩).symm
  · exact (pa ⟨i, hi⟩).trans (pb ⟨i, hi⟩).symm
  · exact (ja ⟨i, hi⟩).trans (jb ⟨i, hi⟩).symm

theorem State.auditReset_eq (whole : Bool) (s : State) : s.auditReset whole
    = { s.auditCut whole with
        save := { (s.auditCut whole).save with valid := (s.auditCut whole).save.valid && !s.started } } := by
  unfold State.auditReset
  cases s.started with
  | true => simp
  | false => simp

theorem State.auditCut_idle {whole : Bool} (hs : s.saving = none) (h : s.writing = false ∨ s.queue = []) :
    s.auditCut whole = s.audit := by
  unfold State.auditCut
  rw [hs]
  obtain h | h := h <;> simp [h]

/-- A record of two copies is kept whole or lost whole (R180). -/
theorem State.auditCut_record {whole : Bool} {r : Record} {rest : List Record} (hs : s.saving = none)
    (hw : s.writing = true) (hq : s.queue = r :: rest) (hr : r ≠ .saveInvalid) :
    s.auditCut whole = if whole then s.audit.write r else s.audit := by
  unfold State.auditCut
  rw [hs, hw, hq]
  cases r <;> first | rfl | exact absurd rfl hr

/-- A retirement of the save in progress leaves its check failing (R184). -/
theorem State.auditCut_retirement {whole : Bool} {rest : List Record} (hw : s.writing = true)
    (hq : s.queue = .saveInvalid :: rest) :
    s.auditCut whole = { s.audit with save := { s.audit.save with checkHolds := false } } := by
  unfold State.auditCut
  rw [hw, hq]
  cases s.saving <;> rfl

/-- A save in progress leaves its check failing (R184). -/
theorem State.auditCut_saving {whole : Bool} (h : s.saving.isSome = true) : (s.auditCut whole).save.checkHolds = false := by
  unfold State.auditCut
  rw [if_pos h]

/-- Settles O59. -/
theorem powerFailsAndResetHolds : Obligations.PowerFailsAndResetHolds := by
  intro s
  refine ⟨fun hp => ⟨s.powerDown, ?_, State.powerDown_fields s⟩, fun hp => ?_, fun whole => ?_⟩
  · obtain h | h := hp <;> simp only [exec, execPfailAssertion, h]
  · obtain h | h := hp <;> simp only [exec, execPfailAssertion, h]
  · obtain ⟨t1, t2, t3, t4, t5, t6, t7, t8, t9, t10⟩ := State.hold_fields (s.auditReset whole) s
    obtain ⟨v1, -, -, -, v5, -, -, v8, v9, v10⟩ := State.hold_fields (s.auditCut whole) s
    obtain ⟨o1, o2, o3, o4, o5⟩ := State.hold_outputs (s.auditCut whole) (s.auditReset whole) s
    exact ⟨s.hold (s.auditReset whole), s.hold (s.auditCut whole), rfl, rfl, t1, t2, t3, t4, t5, t6, t7, t8, t9, t10, v1, o1, o2,
      o3, v5, o4, o5, v8, v9, v10, State.auditReset_eq whole s, State.auditCut_idle,
      fun r rest hs hw hq hr => State.auditCut_record hs hw hq hr, fun rest hw hq => State.auditCut_retirement hw hq,
      State.auditCut_saving⟩

end Sys2Proof.Machine
end

section
/-! PROOFS. The completion of a record write: what it writes, tells and frees, and the owed record that takes the place (O58). -/

namespace Sys2Proof.Machine

variable {s : State} {r : Record} {rest : List Record} {l : LoadRecord}

/-! ### The record taken -/

/-- The state once the head record has been written and its completion taken, the place that it frees not yet given (R181). -/
def State.taken (r : Record) (rest : List Record) (s : State) : State :=
  (({ s with
      queue := rest, writing := false, audit := s.audit.write r, startRecords := s.startRecords - 1 } : State).postDone
    r).committed r

theorem State.written_eq (r : Record) (rest : List Record) (s : State) :
    s.written r rest = if (s.taken r rest).phase = .powerDown then
        if (s.taken r rest).queue.isEmpty then (s.taken r rest).takeSave else s.taken r rest
      else (s.taken r rest).grant := rfl

theorem State.postDone_eq (r : Record) (s : State) : s.postDone r = { s with ports := (s.postDone r).ports } := by
  unfold State.postDone; split <;> rfl

/-- A completed record that is no commit changes queue, audit memory and ports alone. -/
theorem State.taken_of_not_commit (h : ∀ i n serial, r ≠ .commit i n serial) :
    s.taken r rest = { s with
      queue := rest, writing := false, audit := s.audit.write r, startRecords := s.startRecords - 1
      ports := (s.postDone r).ports } := by
  have hc (x : State) : x.committed r = x := by
    cases r <;> first | rfl | exact absurd rfl (h _ _ _)
  rw [State.taken, hc, State.postDone_eq]
  unfold State.postDone; split <;> rfl

/-- A completed commit record stores its note and releases the load (R156, R20). -/
theorem State.taken_commit (i : Fin 8) (n : Note) (serial : Nat) :
    s.taken (.commit i n serial) rest = { s with
      queue := rest, writing := false, audit := s.audit.write (.commit i n serial), startRecords := s.startRecords - 1
      serial, slots := s.slots.set i (Slot.stored n serial s.holdMinutes), load := none, imageOwed := false
      ports := (s.ports.offer ⟨.noteReady, .noteSlot, i.val, w32 serial, s.clock.second⟩).offer
        ⟨.loadState, .none, 0, 4, s.clock.second⟩ } := rfl

/-- What every completion leaves alone. -/
theorem State.taken_fields (r : Record) (rest : List Record) (s : State) : (s.taken r rest).queue = rest
    ∧ (s.taken r rest).audit = s.audit.write r ∧ (s.taken r rest).startRecords = s.startRecords - 1
    ∧ (s.taken r rest).phase = s.phase ∧ (s.taken r rest).pumps = s.pumps ∧ (s.taken r rest).safety = s.safety
    ∧ (s.taken r rest).saving = s.saving ∧ (s.taken r rest).meters = s.meters := by
  by_cases h : ∀ i n serial, r ≠ .commit i n serial
  · rw [State.taken_of_not_commit h]; exact ⟨rfl, rfl, rfl, rfl, rfl, rfl, rfl, rfl⟩
  · push Not at h
    obtain ⟨i, n, serial, rfl⟩ := h
    rw [State.taken_commit]; exact ⟨rfl, rfl, rfl, rfl, rfl, rfl, rfl, rfl⟩

/-- A permit record written: an entry, or the mark that the card is deleted (R27). -/
theorem writePermit_some (card : Nat) (e : PermitEntry) (ps : List PermitEntry) :
    writePermit card (some e) ps
      = if ∃ x ∈ ps, x.content.card = card then ps.map fun x => if x.content.card = card then e else x else ps ++ [e] := by
  have hany : (ps.any fun x => x.content.card == card) = true ↔ ∃ x ∈ ps, x.content.card = card := by simp
  unfold writePermit withPermit
  exact if_congr hany rfl rfl

/-! ### The place granted (R182) -/

/-- What the grant of a free place leaves alone, and that one record at most joins. -/
theorem State.grant_fields (x : State) : x.grant.audit = x.audit ∧ x.grant.ports = x.ports ∧ x.grant.pumps = x.pumps
    ∧ x.grant.safety = x.safety ∧ x.grant.startRecords = x.startRecords ∧ x.grant.phase = x.phase ∧ x.grant.load = x.load
    ∧ x.grant.serial = x.serial ∧ x.grant.meters = x.meters
    ∧ (∃ more, x.grant.queue = x.queue ++ more ∧ more.length ≤ 1)
    ∧ (x.load = none → x.grant.slots = x.slots ∧ x.grant.imageOwed = x.imageOwed) := by
  have none_ (h : x.load = none) : x.commitRecord? = none := by simp only [State.commitRecord?, h]
  unfold State.grant
  split
  · rename_i l hl _
    exact ⟨rfl, rfl, rfl, rfl, rfl, rfl, rfl, rfl, rfl, ⟨[.image l], rfl, le_rfl⟩, fun h => nomatch hl.symm.trans h⟩
  unfold State.grantCharge
  split
  · rename_i q _
    exact ⟨rfl, rfl, rfl, rfl, rfl, rfl, rfl, rfl, rfl, ⟨[q], rfl, le_rfl⟩, fun _ => ⟨rfl, rfl⟩⟩
  unfold State.grantCommit
  split
  · rename_i i q hq
    exact ⟨rfl, rfl, rfl, rfl, rfl, rfl, rfl, rfl, rfl, ⟨[q], rfl, le_rfl⟩, fun h => nomatch hq.symm.trans (none_ h)⟩
  split
  · exact ⟨rfl, rfl, rfl, rfl, rfl, rfl, rfl, rfl, rfl, ⟨[.checkpoint x.totals], rfl, le_rfl⟩, fun _ => ⟨rfl, rfl⟩⟩
  unfold State.grantLast
  split
  · rename_i a _
    exact ⟨rfl, rfl, rfl, rfl, rfl, rfl, rfl, rfl, rfl, ⟨[.arm a x.arms[a].config true], rfl, le_rfl⟩, fun _ => ⟨rfl, rfl⟩⟩
  split
  · exact ⟨rfl, rfl, rfl, rfl, rfl, rfl, rfl, rfl, rfl, ⟨[], (List.append_nil _).symm, Nat.zero_le _⟩, fun _ => ⟨rfl, rfl⟩⟩
  · rename_i q _ _
    exact ⟨rfl, rfl, rfl, rfl, rfl, rfl, rfl, rfl, rfl, ⟨[q], rfl, le_rfl⟩, fun _ => ⟨rfl, rfl⟩⟩

theorem State.grant_image {x : State} (hl : x.load = some l) (ho : x.imageOwed = true) :
    x.grant = { x.enqueue (.image l) with imageOwed := false } := by
  simp only [State.grant, hl, ho]

theorem State.grant_further {x : State} (h : x.load = none ∨ x.imageOwed = false) : x.grant = x.grantCharge := by
  unfold State.grant
  split
  · rename_i hl ho
    obtain h | h := h
    · exact nomatch hl.symm.trans h
    · exact nomatch ho.symm.trans h
  · rfl

theorem State.grantCharge_some {x : State} {q : Record} (h : x.chargeOwed = some q) :
    x.grantCharge = { x.enqueue q with chargeOwed := none } := by
  simp only [State.grantCharge, h]

theorem State.grantCharge_none {x : State} (h : x.chargeOwed = none) : x.grantCharge = x.grantCommit := by
  simp only [State.grantCharge, h]

/-- The commit record that may join now (R155). -/
theorem State.commitRecord?_eq {x : State} {n : Note} (hl : x.load = some l) (hs : x.slots[l.slot].state = .composing)
    (hn : x.slots[l.slot].note = some n) (hi : x.imageOwed = false) (hc : x.chargeOwed = none) :
    x.commitRecord? = some (l.slot, .commit l.slot n (x.serial + 1)) := by
  simp only [State.commitRecord?, hl, hs, hn, hi, hc]; rfl

theorem State.commitRecord?_eq_none {x : State} (h : ∀ l, x.load = some l → x.slots[l.slot].state ≠ .composing) :
    x.commitRecord? = none := by
  unfold State.commitRecord?
  split
  · rfl
  · rename_i l hl
    split
    · rename_i hs _; exact absurd hs (h l hl)
    · rfl

theorem State.grantCommit_some {x : State} {i : Fin 8} {q : Record} (h : x.commitRecord? = some (i, q)) :
    x.grantCommit = x.queueCommit i q := by
  simp only [State.grantCommit, h]

theorem State.grantCommit_checkpoint {x : State} (h : x.commitRecord? = none) (ho : x.checkpointOwed = true) :
    x.grantCommit = { x.enqueue (.checkpoint x.totals) with checkpointOwed := false } := by
  simp only [State.grantCommit, h, ho, if_true]

theorem State.grantCommit_last {x : State} (h : x.commitRecord? = none) (ho : x.checkpointOwed = false) :
    x.grantCommit = x.grantLast := by
  simp only [State.grantCommit, h, ho, Bool.false_eq_true, if_false]

theorem fours_find? {p : Fin 4 → Bool} {a : Fin 4} (ha : p a = true) (hl : ∀ b : Fin 4, b < a → p b = false) :
    fours.find? p = some a :=
  find?_of_least (by decide) (mem_fours a) ha hl

theorem State.grantLast_arm {x : State} {a : Fin 4} (h : x.arms[a].antOwed = true)
    (hl : ∀ b : Fin 4, b < a → x.arms[b].antOwed = false) :
    x.grantLast = (x.enqueue (.arm a x.arms[a].config true)).modifyArm a fun y => { y with antOwed := false } := by
  have ha : x.antOwedArm = some a := fours_find? h hl
  simp only [State.grantLast, ha]

theorem State.grantLast_backlog {x : State} (h : ∀ b : Fin 4, x.arms[b].antOwed = false) :
    x.grantLast.queue = x.queue ++ x.backlog.take 1 ∧ x.grantLast.backlog = x.backlog.drop 1 ∧ x.grantLast.arms = x.arms := by
  have ha : x.antOwedArm = none := List.find?_eq_none.2 fun b _ => by rw [h b]; exact Bool.false_ne_true
  simp only [State.grantLast, ha]
  cases hb : x.backlog with
  | nil => exact ⟨(List.append_nil _).symm, hb, rfl⟩
  | cons q rest => exact ⟨rfl, rfl, rfl⟩

/-- Which record joins at a free place, as a list `more` of at most one (R182). -/
theorem State.grant_joins {x : State} {more : List Record} (hq : x.grant.queue = x.queue ++ more) :
    (∀ l, x.load = some l → x.imageOwed = true → more = [.image l] ∧ x.grant.imageOwed = false)
    ∧ (x.load = none ∨ x.imageOwed = false →
      (∀ q, x.chargeOwed = some q → more = [q] ∧ x.grant.chargeOwed = none)
      ∧ (x.chargeOwed = none →
        (∀ l n, x.load = some l → x.slots[l.slot].state = .composing → x.slots[l.slot].note = some n →
          x.imageOwed = false → more = [.commit l.slot n (x.serial + 1)]
            ∧ x.grant.slots = x.slots.set l.slot { x.slots[l.slot] with state := .committing })
        ∧ ((∀ l, x.load = some l → x.slots[l.slot].state ≠ .composing) →
          (x.checkpointOwed = true → more = [.checkpoint x.totals] ∧ x.grant.checkpointOwed = false)
          ∧ (x.checkpointOwed = false →
            (∀ b : Fin 4, x.arms[b].antOwed = true → (∀ c : Fin 4, c < b → x.arms[c].antOwed = false) →
              more = [.arm b x.arms[b].config true] ∧ x.grant.arms = x.arms.set b { x.arms[b] with antOwed := false })
            ∧ ((∀ b : Fin 4, x.arms[b].antOwed = false) → more = x.backlog.take 1 ∧ x.grant.backlog = x.backlog.drop 1
              ∧ x.grant.arms = x.arms))))) := by
  have joined {q : List Record} (h : x.grant.queue = x.queue ++ q) : more = q := List.append_cancel_left (hq.symm.trans h)
  refine ⟨fun l hl ho => ?_, fun hi => ⟨fun q hc => ?_, fun hc => ⟨fun l n hl hs hn ho => ?_, fun hs => ⟨fun ho => ?_, fun ho => ?_⟩⟩⟩⟩
  · have hg := State.grant_image hl ho
    exact ⟨joined (by rw [hg]; rfl), by rw [hg]⟩
  · have hg := (State.grant_further hi).trans (State.grantCharge_some hc)
    exact ⟨joined (by rw [hg]; rfl), by rw [hg]⟩
  · have hg := ((State.grant_further hi).trans (State.grantCharge_none hc)).trans
      (State.grantCommit_some (State.commitRecord?_eq hl hs hn ho hc))
    exact ⟨joined (by rw [hg]; rfl), by rw [hg]; rfl⟩
  · have hg := ((State.grant_further hi).trans (State.grantCharge_none hc)).trans
      (State.grantCommit_checkpoint (State.commitRecord?_eq_none hs) ho)
    exact ⟨joined (by rw [hg]; rfl), by rw [hg]⟩
  · have hg := ((State.grant_further hi).trans (State.grantCharge_none hc)).trans
      (State.grantCommit_last (State.commitRecord?_eq_none hs) ho)
    refine ⟨fun b hb hlow => ?_, fun hb => ?_⟩
    · have hb' := hg.trans (State.grantLast_arm hb hlow)
      exact ⟨joined (by rw [hb']; rfl), by rw [hb']; rfl⟩
    · obtain ⟨hque, hback, harms⟩ := State.grantLast_backlog hb
      exact ⟨joined (by rw [hg]; exact hque), by rw [hg]; exact hback, by rw [hg]; exact harms⟩

/-! ### The row -/

/-- What a completed record write leaves, whatever the record and the phase. -/
theorem State.written_fields (r : Record) (rest : List Record) (s : State) : ∃ more,
    (s.written r rest).audit = s.audit.write r ∧ (s.written r rest).ports = (s.taken r rest).ports
      ∧ (s.written r rest).queue = rest ++ more ∧ more.length ≤ 1 ∧ (s.written r rest).pumps = s.pumps
      ∧ (s.written r rest).safety = s.safety ∧ (s.written r rest).startRecords = s.startRecords - 1
      ∧ (s.written r rest).phase = s.phase ∧ (s.written r rest).load = (s.taken r rest).load
      ∧ (s.written r rest).serial = (s.taken r rest).serial
      ∧ ((s.taken r rest).load = none → (s.written r rest).slots = (s.taken r rest).slots
        ∧ (s.written r rest).imageOwed = (s.taken r rest).imageOwed)
      ∧ (s.phase = .powerDown → more = [] ∧ (s.written r rest).saving.isSome = (s.saving.isSome || rest.isEmpty))
      ∧ (s.phase ≠ .powerDown → s.written r rest = (s.taken r rest).grant
        ∧ (s.taken r rest).grant.queue = (s.taken r rest).queue ++ more) := by
  obtain ⟨hque, haud, hstart, hphase, hpumps, hsafety, hsaving, hmeters⟩ := s.taken_fields r rest
  rw [State.written_eq]
  by_cases hp : s.phase = .powerDown
  · rw [if_pos (hphase.trans hp), hque]
    cases rest with
    | nil =>
      exact ⟨[], haud, rfl, hque.trans (List.append_nil _).symm, Nat.zero_le _, hpumps, hsafety, hstart, hphase, rfl, rfl,
        fun _ => ⟨rfl, rfl⟩, fun _ => ⟨rfl, (Bool.or_true _).symm⟩, fun h => absurd hp h⟩
    | cons q tail =>
      exact ⟨[], haud, rfl, hque.trans (List.append_nil _).symm, Nat.zero_le _, hpumps, hsafety, hstart, hphase, rfl, rfl,
        fun _ => ⟨rfl, rfl⟩, fun _ => ⟨rfl, (congrArg Option.isSome hsaving).trans (Bool.or_false _).symm⟩,
        fun h => absurd hp h⟩
  · rw [if_neg fun h => hp (hphase.symm.trans h)]
    obtain ⟨gaud, gports, gpumps, gsafety, gstart, gphase, gload, gserial, -, ⟨more, gque, glen⟩, gslots⟩ :=
      (s.taken r rest).grant_fields
    exact ⟨more, gaud.trans haud, gports, gque.trans (congrArg (· ++ more) hque), glen, gpumps.trans hpumps,
      gsafety.trans hsafety, gstart.trans hstart, gphase.trans hphase, gload, gserial, gslots, fun h => absurd h hp,
      fun _ => ⟨rfl, gque⟩⟩

theorem exec_recordWriteComplete (hq : s.queue = r :: rest) (hw : s.writing = true) (hp : s.phase ≠ .held) :
    exec .recordWriteComplete s = .next (s.written r rest).startWrite := by
  have hrow : exec .recordWriteComplete s = execRecordWriteComplete s := rfl
  simp only [hrow, execRecordWriteComplete, hq, hw, if_neg hp]

theorem exec_recordWriteComplete_idle (h : s.queue = [] ∨ s.writing = false ∨ s.phase = .held) :
    exec .recordWriteComplete s = .next s := by
  have hrow : exec .recordWriteComplete s = execRecordWriteComplete s := rfl
  rw [hrow, execRecordWriteComplete]
  split
  · rename_i hq hw
    obtain h | h | h := h
    · exact nomatch hq.symm.trans h
    · exact nomatch hw.symm.trans h
    · exact if_pos h
  · rfl

/-- Settles O58, from what a completion writes and tells (`State.taken`) and which record takes the free place
(`State.grant_joins`). -/
theorem recordsAreWrittenInOrder : Obligations.RecordsAreWrittenInOrder := by
  unfold Obligations.RecordsAreWrittenInOrder
  refine ⟨fun r rest s hq hw hph => ?_, fun s h => exec_recordWriteComplete_idle h, fun s hs => ?_, fun d s hs => ?_⟩
  · intro a written nvDone told
    have hheld : s.phase ≠ .held := by rcases hph with h | h | h <;> rw [h] <;> decide
    obtain ⟨more, haud, hports, hque, hlen, hpumps, hsafety, hstart, hphase, hload, hserial, hslots, hdown, hup⟩ :=
      s.written_fields r rest
    have hwritten : s.audit.write r = written := by
      rcases r with _ | ⟨card, _ | e, _⟩ | _ | _ | _ | _ | _ | _ | ⟨_ | _ | _ | _, _⟩ | _ | _ | _ | _ | _ | _ <;>
        first
        | rfl
        | exact (congrArg (fun ps => { s.audit with permits := ps }) (writePermit_some card e s.audit.permits)).trans
            (apply_ite (fun ps => { s.audit with permits := ps }) _ _ _)
    have htold : (s.taken r rest).ports = told := by
      rcases r with _ | ⟨_, _, _ | _⟩ | ⟨_, _, _ | _⟩ | _ | _ | _ | _ | _ | ⟨_ | _ | _ | _, _⟩ | _ | _ | _ | _ | _ | _ <;> rfl
    refine ⟨(s.written r rest).startWrite, more, exec_recordWriteComplete hq hw hheld, haud.trans hwritten, hports.trans htold,
      hque, hlen, rfl, hpumps, hsafety, hstart, hphase, ?_, hdown, ?_⟩
    · rintro i n serial rfl
      obtain ⟨hsl, hio⟩ := hslots rfl
      exact ⟨hload, hio, hserial, hsl⟩
    · intro hp hr
      obtain ⟨heq, hgq⟩ := hup (by rcases hp with h | h <;> rw [h] <;> decide)
      have hjoin := State.grant_joins hgq
      have hmeters : (s.written r rest).meters = s.meters := by
        rw [heq, State.taken_of_not_commit hr]; exact (State.grant_fields _).2.2.2.2.2.2.2.2.1
      rw [← heq, State.taken_of_not_commit hr] at hjoin
      refine ⟨hload.trans ?_, hserial.trans ?_, hmeters, hjoin⟩ <;> rw [State.taken_of_not_commit hr]
  · have hrow : exec .saveWriteComplete s = execSaveWriteComplete s := rfl
    simp only [hrow, execSaveWriteComplete, hs]
  · have hrow : exec .saveWriteComplete s = execSaveWriteComplete s := rfl
    simp only [hrow, execSaveWriteComplete, hs]

end Sys2Proof.Machine
end

section
/-! PROOFS. The close hand-off (R19): what it sets, what it leaves, and the records it queues. -/

namespace Sys2Proof.Machine

variable {s : State} {l : LoadRecord}

/-! ### The parts of the hand-off -/

theorem State.imageHandOff_eq (s : State) : s.imageHandOff = { s with
    queue := s.imageHandOff.queue, backlog := s.imageHandOff.backlog, imageOwed := s.imageHandOff.imageOwed } := by
  unfold State.imageHandOff State.queueImage State.refreshImages State.mapWaiting
  (repeat' split) <;> rfl

theorem State.chargePermit_eq (l : LoadRecord) (s : State) : s.chargePermit l = { s with
    permits := (s.chargePermit l).permits, queue := (s.chargePermit l).queue
    chargeOwed := (s.chargePermit l).chargeOwed } := by
  unfold State.chargePermit State.queueCharge
  (repeat' split) <;> rfl

theorem State.tryCommit_eq (s : State) : s.tryCommit = { s with
    queue := s.tryCommit.queue, slots := s.tryCommit.slots } := by
  unfold State.tryCommit State.queueCommit
  (repeat' split) <;> rfl

/-- The load record with its close time taken, one already held kept (R19). -/
def LoadRecord.closedAt (t : CloseTime) (l : LoadRecord) : LoadRecord := { l with closeTime := some (l.closeTime.getD t) }

/-- The state in which the close hand-off judges its commit record: the image and the charge entered, the note composed. -/
def State.composed (l : LoadRecord) (s : State) : State :=
  (({ s with load := some (l.closedAt s.closeTimeNow) } : State).imageHandOff.chargePermit
    (l.closedAt s.closeTimeNow)).modifySlot l.slot fun x =>
      { x with state := .composing, note := some ((l.closedAt s.closeTimeNow).note s.products) }

theorem State.handOff_of_load (hl : s.load = some l) : s.handOff = (s.composed l).tryCommit := by
  simp only [State.handOff, hl]; rfl

theorem State.handOff_of_no_load (hl : s.load = none) : s.handOff = s := by
  simp only [State.handOff, hl]

theorem State.composed_load (l : LoadRecord) : (s.composed l).load = some (l.closedAt s.closeTimeNow) := by
  rw [State.composed, State.chargePermit_eq, State.imageHandOff_eq]; rfl

theorem State.composed_slots (l : LoadRecord) : (s.composed l).slots = s.slots.set l.slot
    { s.slots[l.slot] with state := .composing, note := some ((l.closedAt s.closeTimeNow).note s.products) } := by
  rw [State.composed, State.chargePermit_eq, State.imageHandOff_eq]; rfl

/-- The hand-off moves the load record, the queue, the permits and the slots alone. -/
theorem State.handOff_eq (s : State) : s.handOff = { s with
    load := s.handOff.load, queue := s.handOff.queue, backlog := s.handOff.backlog, imageOwed := s.handOff.imageOwed
    permits := s.handOff.permits, chargeOwed := s.handOff.chargeOwed, slots := s.handOff.slots } := by
  cases hl : s.load with
  | none => rw [State.handOff_of_no_load hl]
  | some l => rw [State.handOff_of_load hl, State.tryCommit_eq, State.composed, State.chargePermit_eq,
      State.imageHandOff_eq]; rfl

/-! ### Load record and slot -/

theorem State.handOff_load (hl : s.load = some l) : s.handOff.load = some (l.closedAt s.closeTimeNow) := by
  rw [State.handOff_of_load hl, State.tryCommit_eq]; exact State.composed_load l

/-- The commit record is queued or not; its slot is then in COMMITTING or stays in COMPOSING, its note as it was. -/
theorem State.tryCommit_slots {x : Fin 8} (hl : s.load = some l) (hx : l.slot = x) :
    s.tryCommit.slots = s.slots ∨ s.tryCommit.slots = s.slots.set x { s.slots[x] with state := .committing } := by
  unfold State.tryCommit
  split
  · exact .inl rfl
  · rename_i i q hq
    have hi : i = x := by
      rw [← hx]
      unfold State.commitRecord? at hq
      simp only [hl] at hq
      split at hq
      · split at hq
        · cases hq
        · exact (congrArg Prod.fst (Option.some.inj hq)).symm
      · cases hq
    subst hi
    split
    · exact .inr rfl
    · exact .inl rfl

/-- The note is composed in the load's slot, and no other slot moves. -/
theorem State.handOff_slots (hl : s.load = some l) :
    s.handOff.slots[l.slot].note = some ((l.closedAt s.closeTimeNow).note s.products)
      ∧ (s.handOff.slots[l.slot].state = .composing ∨ s.handOff.slots[l.slot].state = .committing)
      ∧ ∀ i : Fin 8, i ≠ l.slot → s.handOff.slots[i] = s.slots[i] := by
  rw [State.handOff_of_load hl]
  have hc := State.composed_slots (s := s) l
  obtain h | h := State.tryCommit_slots (State.composed_load (s := s) l) (x := l.slot) rfl
  · rw [h, hc]
    refine ⟨by rw [vector_get_set, if_pos rfl], .inl (by rw [vector_get_set, if_pos rfl]), fun i hi => ?_⟩
    rw [vector_get_set, if_neg fun h => hi h]
  · rw [h, hc]
    refine ⟨?_, .inr ?_, fun i hi => ?_⟩
    · rw [vector_get_set, if_pos rfl]
      exact congrArg Slot.note ((vector_get_set _ _ _ _).trans (if_pos rfl))
    · rw [vector_get_set, if_pos rfl]
    · rw [vector_get_set, if_neg fun h => hi h, vector_get_set, if_neg fun h => hi h]

/-! ### The permit (R40, R41) -/

theorem State.chargePermit_of_idle (h : ∀ e, s.permit? l.card = some e → e.inUse = false) : s.chargePermit l = s := by
  unfold State.chargePermit
  split
  · rfl
  · rename_i e he
    rw [h e he]; rfl

theorem State.chargePermit_of_inUse {e : PermitEntry} (he : s.permit? l.card = some e) (hu : e.inUse = true) :
    s.chargePermit l = ({ s with permits := withPermit l.card (e.charged l.totalGross) s.permits } : State).queueCharge
      (.permit l.card (e.charged l.totalGross) false) := by
  simp only [State.chargePermit, he, hu, if_true]

theorem State.queueCharge_permits (r : Record) : (s.queueCharge r).permits = s.permits := by
  unfold State.queueCharge; split <;> rfl

theorem State.handOff_permits (hl : s.load = some l) : s.handOff.permits
    = (({ s with load := some (l.closedAt s.closeTimeNow) } : State).imageHandOff.chargePermit
        (l.closedAt s.closeTimeNow)).permits := by
  rw [State.handOff_of_load hl, State.tryCommit_eq]; rfl

theorem State.permit?_of_permits {t : State} (h : t.permits = s.permits) (k : Nat) : t.permit? k = s.permit? k := by
  rw [State.permit?, h]; rfl

theorem State.imageHandOff_permits : s.imageHandOff.permits = s.permits := by rw [State.imageHandOff_eq]

theorem State.imageHandOff_permit? (u : LoadRecord) (k : Nat) :
    ({ s with load := some u } : State).imageHandOff.permit? k = s.permit? k :=
  State.permit?_of_permits (s := s) (State.imageHandOff_permits (s := { s with load := some u })) k

theorem State.handOff_permits_of_idle (hl : s.load = some l) (h : ∀ e, s.permit? l.card = some e → e.inUse = false) :
    s.handOff.permits = s.permits := by
  rw [State.handOff_permits hl, State.chargePermit_of_idle]
  · exact State.imageHandOff_permits
  · intro e he; exact h e ((State.imageHandOff_permit? _ _).symm.trans he)

theorem State.handOff_permits_of_inUse {e : PermitEntry} (hl : s.load = some l) (he : s.permit? l.card = some e)
    (hu : e.inUse = true) : s.handOff.permits = withPermit l.card (e.charged l.totalGross) s.permits := by
  rw [State.handOff_permits hl, State.chargePermit_of_inUse (l := l.closedAt s.closeTimeNow)
    (e := e) ((State.imageHandOff_permit? _ _).trans he) hu, State.queueCharge_permits]
  show withPermit _ _ (State.imageHandOff _).permits = _
  rw [State.imageHandOff_permits]; rfl

/-! ### The records -/

theorem State.hasPlace_of (hlen : s.queue.length < 8) (hp : s.phase ≠ .powerDown) : s.hasPlace = true := by
  simp [State.hasPlace, hlen, hp]


/-- The charged permit record of a closing load, where its entry is in use. -/
def State.chargeRecords (l : LoadRecord) (s : State) : List Record :=
  ((s.permit? l.card).filter fun e => e.inUse).toList.map fun e => .permit l.card (e.charged l.totalGross) false

theorem State.chargeRecords_of_inUse {e : PermitEntry} (he : s.permit? l.card = some e) (hu : e.inUse = true) :
    s.chargeRecords l = [.permit l.card (e.charged l.totalGross) false] := by
  rw [State.chargeRecords, he, Option.filter_some, if_pos hu]; rfl

theorem State.chargeRecords_length (l : LoadRecord) (s : State) : (s.chargeRecords l).length ≤ 1 := by
  rw [State.chargeRecords, List.length_map]
  cases (s.permit? l.card).filter fun e => e.inUse <;> simp

theorem State.mem_chargeRecords {r : Record} (h : r ∈ s.chargeRecords l) : ∃ e, r = .permit l.card e false := by
  obtain ⟨e, -, he⟩ := List.mem_map.1 h
  exact ⟨_, he.symm⟩

/-- With places left and no image owed, the charged record joins the queue. -/
theorem State.chargePermit_queue (ho : s.imageOwed = false) (hp : s.hasPlace = true) :
    (s.chargePermit l).queue = s.queue ++ s.chargeRecords l ∧ (s.chargePermit l).chargeOwed = s.chargeOwed := by
  by_cases h : ∃ e, s.permit? l.card = some e ∧ e.inUse = true
  · obtain ⟨e, he, hu⟩ := h
    have hq : ¬ (s.imageOwed || !s.hasPlace) = true := by rw [ho, hp]; decide
    rw [State.chargeRecords_of_inUse he hu, State.chargePermit_of_inUse he hu]
    have hadd (r : Record) : ({ s with permits := withPermit l.card (e.charged l.totalGross) s.permits } : State).queueCharge r
        = ({ s with permits := withPermit l.card (e.charged l.totalGross) s.permits } : State).enqueue r := if_neg hq
    rw [hadd]; exact ⟨rfl, rfl⟩
  · have hidle (e : PermitEntry) (he : s.permit? l.card = some e) : e.inUse = false :=
      Bool.eq_false_iff.2 fun hu => h ⟨e, he, hu⟩
    rw [State.chargePermit_of_idle hidle]
    refine ⟨?_, rfl⟩
    rw [State.chargeRecords]
    cases hp : s.permit? l.card with
    | none => exact (List.append_nil _).symm
    | some e =>
      rw [Option.filter_some, if_neg (by rw [hidle e hp]; exact Bool.false_ne_true)]
      exact (List.append_nil _).symm

/-- A hand-off whose image has entered the queue, with places to spare and no charge owed, queues charge and commit behind
it (R19, R155). -/
theorem State.handOff_queue {x : State} {u : LoadRecord} (hl : s.load = some l) (hu : l.closedAt s.closeTimeNow = u)
    (hx : ({ s with load := some u } : State).imageHandOff = x) (ho : x.imageOwed = false)
    (hlen : x.queue.length ≤ 6) (hp : x.phase ≠ .powerDown) (hc : s.chargeOwed = none) :
    s.handOff.queue = x.queue ++ s.chargeRecords u ++ [.commit l.slot (u.note s.products) (s.serial + 1)]
      ∧ s.handOff.slots[l.slot].state = .committing := by
  have hxe := State.imageHandOff_eq { s with load := some u }
  rw [hx] at hxe
  have hxc : x.chargeOwed = none := by rw [hxe]; exact hc
  have hxs : x.serial = s.serial := by rw [hxe]
  have hxcr : x.chargeRecords u = s.chargeRecords u := by
    rw [State.chargeRecords, State.chargeRecords, State.permit?_of_permits (t := x) (s := s) (by rw [hxe])]
  have hplace : x.hasPlace = true := State.hasPlace_of (by omega) hp
  obtain ⟨hcq, hco⟩ := State.chargePermit_queue (l := u) ho hplace
  have hce := State.chargePermit_eq u x
  have hcomp : s.composed l = (x.chargePermit u).modifySlot l.slot fun y =>
      { y with state := .composing, note := some (u.note s.products) } := by rw [State.composed, hu, hx]
  have hrec : (s.composed l).commitRecord? = some (l.slot, .commit l.slot (u.note s.products) (s.serial + 1)) := by
    have hslots := State.composed_slots (s := s) l
    have hserial : (s.composed l).serial = s.serial := by rw [hcomp, hce]; exact hxs
    rw [← hserial]
    subst hu
    refine State.commitRecord?_eq (l := l.closedAt s.closeTimeNow) (s.composed_load l) ?_ ?_ ?_ ?_
    · exact congrArg Slot.state ((congrArg (·[l.slot]) hslots).trans ((vector_get_set _ _ _ _).trans (if_pos rfl)))
    · exact congrArg Slot.note ((congrArg (·[l.slot]) hslots).trans ((vector_get_set _ _ _ _).trans (if_pos rfl)))
    · rw [hcomp, hce]; exact ho
    · rw [hcomp]; exact hco.trans hxc
  have hque : (s.composed l).queue = x.queue ++ s.chargeRecords u := by rw [hcomp, ← hxcr]; exact hcq
  have hplace' : (s.composed l).hasPlace = true := by
    refine State.hasPlace_of ?_ ?_
    · have h1 := s.chargeRecords_length u
      rw [hque, List.length_append]; omega
    · rw [hcomp, hce]; exact hp
  have hand : s.handOff = (s.composed l).queueCommit l.slot (.commit l.slot (u.note s.products) (s.serial + 1)) := by
    rw [State.handOff_of_load hl, State.tryCommit]
    simp only [hrec, hplace', if_true]
  rw [hand]
  refine ⟨congrArg (· ++ _) hque, ?_⟩
  exact congrArg Slot.state ((vector_get_set _ _ _ _).trans (if_pos rfl))

/-- With nothing in queue or backlog the close image joins the queue. -/
theorem State.imageHandOff_of_empty (hl : s.load = some l) (hq : s.queue = []) (hb : s.backlog = [])
    (hp : s.phase ≠ .powerDown) : s.imageHandOff = { s.enqueue (.image l) with imageOwed := false } := by
  have hw : ¬ s.imageWaits = true := by
    rw [State.imageWaits, State.waiting, hq, hb]; split <;> exact Bool.false_ne_true
  have hplace : s.hasPlace = true := State.hasPlace_of (by rw [hq]; decide) hp
  simp only [State.imageHandOff, hl]
  rw [if_neg hp, if_neg hw, State.queueImage, if_pos hplace]

end Sys2Proof.Machine
end

section
/-! PROOFS. START_UP restores what audit memory holds, and START opens the bay (O60). -/

namespace Sys2Proof.Machine

variable {s : State} {l : LoadRecord}

/-! ### The restored load's injectors and slot -/

/-- What re-arming an injector leaves of it. -/
def Injector.apparatus (x : Injector) : InjectorAssign × Bool × Bool × Timer × Nat × Nat :=
  (x.assign, x.feedback, x.output, x.timer, x.consecutive, x.total)

/-- An injector as R115 leaves it: ARMED with nothing owed. -/
def Injector.Rearmed (x : Injector) : Prop := x.state = .armed ∧ x.owed = 0

theorem State.rearm_eq (n : Nat) (r : ComponentResult) (s : State) :
    s.rearm n r = { s with injectors := (s.rearm n r).injectors } := by
  unfold State.rearm; split <;> rfl

/-- Re-arming a result leaves each injector, or arms it. -/
theorem State.rearm_injector (n : Nat) (r : ComponentResult) (j : Fin 8) (s : State) :
    (s.rearm n r).injectors[j] = s.injectors[j] ∨ (s.rearm n r).injectors[j] = s.injectors[j].arm n r.position := by
  unfold State.rearm
  split
  · exact .inl rfl
  · rename_i i _
    rw [State.modifyInjector_get]
    split
    · rename_i h; subst h; exact .inr rfl
    · exact .inl rfl

theorem State.rearm_apparatus (n : Nat) (r : ComponentResult) (j : Fin 8) (s : State) :
    (s.rearm n r).injectors[j].apparatus = s.injectors[j].apparatus := by
  obtain h | h := s.rearm_injector n r j <;> rw [h]
  rfl

theorem State.rearm_keeps_rearmed (n : Nat) (r : ComponentResult) {j : Fin 8} (h : s.injectors[j].Rearmed) :
    (s.rearm n r).injectors[j].Rearmed := by
  obtain he | he := s.rearm_injector n r j <;> rw [he]
  · exact h
  · exact ⟨rfl, rfl⟩

theorem State.rearm_rearms (n : Nat) {r : ComponentResult} {j : Fin 8} (h : r.injector = some j) (s : State) :
    (s.rearm n r).injectors[j].Rearmed := by
  simp only [State.rearm, h, State.modifyInjector_get, if_true]
  exact ⟨rfl, rfl⟩

/-- A fold of steps that keep an injector re-armed, one of which re-arms it, leaves it re-armed. -/
theorem foldl_rearms {α : Type} {f : State → α → State} {j : Fin 8} {x : α} {xs : List α}
    (hk : ∀ s y, s.injectors[j].Rearmed → (f s y).injectors[j].Rearmed) (hx : ∀ s, (f s x).injectors[j].Rearmed)
    (hm : x ∈ xs) (s : State) : (xs.foldl f s).injectors[j].Rearmed := by
  have keeps (ys : List α) (s : State) (h : s.injectors[j].Rearmed) : (ys.foldl f s).injectors[j].Rearmed := by
    induction ys generalizing s with
    | nil => exact h
    | cons y ys ih => exact ih _ (hk s y h)
  induction xs generalizing s with
  | nil => cases hm
  | cons y ys ih =>
    obtain rfl | hm := List.mem_cons.1 hm
    · exact keeps ys _ (hx s)
    · exact ih hm _

theorem State.rearmComp_apparatus (c : CompRecord) (j : Fin 8) (s : State) :
    (s.rearmComp c).injectors[j].apparatus = s.injectors[j].apparatus := by
  unfold State.rearmComp
  split
  · rfl
  · exact foldl_keeps (fun s => s.injectors[j].apparatus) _ (fun s r => s.rearm_apparatus _ r j) _ _

theorem State.rearmComp_keeps_rearmed (c : CompRecord) {j : Fin 8} (h : s.injectors[j].Rearmed) :
    (s.rearmComp c).injectors[j].Rearmed := by
  unfold State.rearmComp
  split
  · exact h
  · generalize c.additives = rs
    induction rs generalizing s with
    | nil => exact h
    | cons r rs ih => exact ih (State.rearm_keeps_rearmed _ r h)

theorem State.rearmComp_rearms {c : CompRecord} {r : ComponentResult} {j : Fin 8} (hc : c.state ≠ .done)
    (hr : r ∈ c.additives) (hj : r.injector = some j) (s : State) : (s.rearmComp c).injectors[j].Rearmed := by
  rw [State.rearmComp, if_neg hc]
  exact foldl_rearms (fun s r h => State.rearm_keeps_rearmed _ r h) (State.rearm_rearms _ hj) hr s

/-- A fold of steps that move the injectors alone moves the injectors alone. -/
theorem foldl_injectors_only {α : Type} {f : State → α → State} (h : ∀ s x, ∃ v, f s x = { s with injectors := v })
    (xs : List α) (s : State) : ∃ v, xs.foldl f s = { s with injectors := v } := by
  induction xs generalizing s with
  | nil => exact ⟨s.injectors, rfl⟩
  | cons x xs ih =>
    obtain ⟨v, hv⟩ := h s x
    obtain ⟨w, hw⟩ := ih (f s x)
    exact ⟨w, by rw [List.foldl_cons, hw, hv]⟩

theorem State.rearmComp_eq (c : CompRecord) (s : State) : ∃ v, s.rearmComp c = { s with injectors := v } := by
  unfold State.rearmComp
  split
  · exact ⟨s.injectors, rfl⟩
  · exact foldl_injectors_only (fun s r => ⟨_, s.rearm_eq _ r⟩) _ _

/-- The state with a restored load has its record, its injectors and its slot changed, and nothing else. -/
theorem State.withLoad_eq (o : Option LoadRecord) (s : State) : s.withLoad o = { s with
    load := (s.withLoad o).load, injectors := (s.withLoad o).injectors, slots := (s.withLoad o).slots } := by
  cases o with
  | none => rfl
  | some l =>
    obtain ⟨v, hv⟩ := foldl_injectors_only (fun s c => s.rearmComp_eq c) l.comps { s with load := some l }
    simp only [State.withLoad, hv]; rfl

theorem State.withLoad_load (o : Option LoadRecord) (h : s.load = none) : (s.withLoad o).load = o := by
  cases o with
  | none => exact h
  | some l =>
    obtain ⟨v, hv⟩ := foldl_injectors_only (fun s c => s.rearmComp_eq c) l.comps { s with load := some l }
    simp only [State.withLoad, hv]; rfl

theorem State.withLoad_slots (l : LoadRecord) (s : State) :
    (s.withLoad (some l)).slots = s.slots.set l.slot { Slot.freed with state := .reserved } := by
  obtain ⟨v, hv⟩ := foldl_injectors_only (fun s c => s.rearmComp_eq c) l.comps { s with load := some l }
  simp only [State.withLoad, hv]; rfl

theorem State.withLoad_injectors (l : LoadRecord) (s : State) :
    (s.withLoad (some l)).injectors = (l.comps.foldl State.rearmComp { s with load := some l }).injectors := rfl

theorem State.withLoad_apparatus (o : Option LoadRecord) (j : Fin 8) (s : State) :
    (s.withLoad o).injectors[j].apparatus = s.injectors[j].apparatus := by
  cases o with
  | none => rfl
  | some l =>
    exact foldl_keeps (fun s => s.injectors[j].apparatus) _ (fun s c => s.rearmComp_apparatus c j) l.comps
      { s with load := some l }

theorem State.withLoad_rearmed {c : CompRecord} {r : ComponentResult} {j : Fin 8} (hm : c ∈ l.comps) (hc : c.state ≠ .done)
    (hr : r ∈ c.additives) (hj : r.injector = some j) (s : State) : (s.withLoad (some l)).injectors[j].Rearmed :=
  foldl_rearms (fun _ c h => State.rearmComp_keeps_rearmed c h) (State.rearmComp_rearms hc hr hj) hm
    { s with load := some l }

/-! ### The restored record -/

/-- The calibration counter bounds every mark of a calibration record, and is one of them unless it is 0. -/
theorem foldl_max_spec (xs : List Nat) (a : Nat) :
    a ≤ xs.foldl max a ∧ (∀ x ∈ xs, x ≤ xs.foldl max a) ∧ (xs.foldl max a = a ∨ xs.foldl max a ∈ xs) := by
  induction xs generalizing a with
  | nil => exact ⟨le_rfl, fun x hx => (nomatch hx), .inl rfl⟩
  | cons y ys ih =>
    obtain ⟨hle, hall, hat⟩ := ih (max a y)
    refine ⟨(le_max_left a y).trans hle, fun x hx => ?_, ?_⟩
    · obtain rfl | hx := List.mem_cons.1 hx
      · exact (le_max_right a x).trans hle
      · exact hall x hx
    · obtain h | h := hat
      · obtain hm | hm := max_choice a y
        · exact .inl (h.trans hm)
        · exact .inr (List.mem_cons.2 (.inl (h.trans hm)))
      · exact .inr (List.mem_cons_of_mem _ h)

theorem Audit.mem_cecs {a : Audit} {n : Nat} : n ∈ a.meterK.toList.map CalNat.cec ++ a.curve.toList.map CalCurve.cec
      ++ a.offset.toList.map CalInt.cec ++ a.stroke.toList.map CalNat.cec
    ↔ (∃ x ∈ a.meterK.toList, x.cec = n) ∨ (∃ x ∈ a.curve.toList, x.cec = n) ∨ (∃ x ∈ a.offset.toList, x.cec = n)
      ∨ ∃ x ∈ a.stroke.toList, x.cec = n := by
  simp only [List.mem_append, List.mem_map, or_assoc]

theorem LoadRecord.restored_state (m : Vector SavedMeter 4) (ab : Bool) (l : LoadRecord) :
    (l.restored m ab).state = if l.state = .closing then .closing else .suspended := by
  have hcauses : (!(l.restored m ab).causes.isEmpty) = true := by
    simp [LoadRecord.restored, CauseSet.isEmpty]
  show LoadRecord.evaluated _ = _
  rw [LoadRecord.evaluated]
  exact if_congr Iff.rfl rfl (if_pos hcauses)

theorem LoadRecord.restored_comps (m : Vector SavedMeter 4) (ab : Bool) (l : LoadRecord) : (l.restored m ab).comps
    = l.comps.map (if l.state = .closing then CompRecord.restoredClosing m else CompRecord.restored m) := by
  by_cases h : l.state = .closing <;> simp [LoadRecord.restored, h]

/-- What a restoration keeps of a compartment, its close reason gone. -/
theorem CompRecord.restored_keeps (m : Vector SavedMeter 4) (c : CompRecord) :
    ((c.restored m).line, (c.restored m).gross, (c.restored m).net, (c.restored m).opening, (c.restored m).closeReason)
      = (c.line, c.gross, c.net, c.opening, none) := by
  unfold CompRecord.restored
  dsimp only
  split <;> rfl

theorem CompRecord.restored_ends (m : Vector SavedMeter 4) (c : CompRecord) :
    ((c.restored m).state, (c.restored m).haltCause, (c.restored m).closing)
      = if c.state.isActive then (.halted, some .power, some ⟨m[c.line.arm].gross, m[c.line.arm].net⟩)
        else (c.state, c.haltCause, c.closing) := by
  unfold CompRecord.restored
  dsimp only
  split <;> rfl

theorem CompRecord.restoredClosing_keeps (m : Vector SavedMeter 4) (c : CompRecord) :
    ((c.restoredClosing m).line, (c.restoredClosing m).gross, (c.restoredClosing m).net, (c.restoredClosing m).opening,
      (c.restoredClosing m).closeReason) = (c.line, c.gross, c.net, c.opening, none) := by
  unfold CompRecord.restoredClosing
  split <;> exact c.restored_keeps m

theorem CompRecord.restoredClosing_ends (m : Vector SavedMeter 4) (c : CompRecord) :
    ((c.restoredClosing m).state, (c.restoredClosing m).haltCause, (c.restoredClosing m).closing)
      = if c.state.isActive then (.done, some .power, some ⟨m[c.line.arm].gross, m[c.line.arm].net⟩)
        else (c.state, c.haltCause, c.closing) := by
  have h := c.restored_ends m
  by_cases ha : c.state.isActive = true
  · rw [if_pos ha] at h ⊢
    obtain ⟨-, hh, hcl⟩ := Prod.mk.inj h |>.imp_right Prod.mk.inj
    rw [CompRecord.restoredClosing, if_pos ha]
    exact congrArg₂ (fun a b => (CompState.done, a, b)) hh hcl
  · rw [if_neg ha] at h ⊢
    rw [CompRecord.restoredClosing, if_neg ha, h]

theorem LoadRecord.restored_comps_keep (m : Vector SavedMeter 4) (ab : Bool) (l : LoadRecord) :
    (l.restored m ab).comps.map (fun c => (c.line, c.gross, c.net, c.opening, c.closeReason))
      = l.comps.map (fun c => (c.line, c.gross, c.net, c.opening, none)) := by
  rw [LoadRecord.restored_comps, List.map_map]
  refine List.map_congr_left fun c _ => ?_
  split
  · exact c.restoredClosing_keeps m
  · exact c.restored_keeps m

theorem LoadRecord.restored_comps_end (m : Vector SavedMeter 4) (ab : Bool) (l : LoadRecord) :
    (l.restored m ab).comps.map (fun c => (c.state, c.haltCause, c.closing))
      = l.comps.map (fun c => if c.state.isActive then
          (if l.state = .closing then .done else .halted, some .power, some ⟨m[c.line.arm].gross, m[c.line.arm].net⟩)
        else (c.state, c.haltCause, c.closing)) := by
  rw [LoadRecord.restored_comps, List.map_map]
  refine List.map_congr_left fun c _ => ?_
  by_cases h : l.state = .closing
  · rw [if_pos h, if_pos h]; exact c.restoredClosing_ends m
  · rw [if_neg h, if_neg h]; exact c.restored_ends m

/-! ### The state after START_UP -/

/-- The load that a start-up restores (R185). -/
def Audit.restoredLoad (a : Audit) : Option LoadRecord :=
  a.sourceLoad.map (LoadRecord.restored a.restoredMeters !a.save.usable)

/-- What every block restores before the load's own work. -/
def State.refreshed (i : SampledInputs) (s : State) : State :=
  State.fresh s.audit s.audit.restoredMeters s.audit.restoredInjectors i

theorem State.startUp_eq (i : SampledInputs) (s : State) : s.startUp i = { s.refreshed i with
    load := s.audit.restoredLoad, injectors := ((s.refreshed i).withLoad s.audit.restoredLoad).injectors
    slots := ((s.refreshed i).withLoad s.audit.restoredLoad).slots
    phase := .startUp, startMark := if s.audit.save.usable then .orderly else .abrupt
    permits := reconciled (s.audit.restoredLoad.map LoadRecord.card) s.audit.permits
    queue := (s.startUp i).queue, backlog := (s.startUp i).backlog, startRecords := (s.startUp i).startRecords
    pending := s.pending } := by
  have h := State.withLoad_eq s.audit.restoredLoad (s.refreshed i)
  have hl := State.withLoad_load (s := s.refreshed i) s.audit.restoredLoad rfl
  show ({ (s.refreshed i).withLoad s.audit.restoredLoad with
    phase := .startUp, startMark := if s.audit.save.usable then .orderly else .abrupt
    permits := reconciled (s.audit.restoredLoad.map LoadRecord.card) s.audit.permits
    queue := (s.startUp i).queue, backlog := (s.startUp i).backlog, startRecords := (s.startUp i).startRecords
    pending := s.pending } : State) = _
  rw [h, hl]

theorem State.startUp_records (i : SampledInputs) (s : State) :
    (s.startUp i).queue ++ (s.startUp i).backlog = reconciliation (s.audit.restoredLoad.map LoadRecord.card) s.audit.permits
        ++ s.audit.restoredLoad.toList.map Record.image
        ++ (if s.audit.save.usable then [.checkpoint (s.startUp i).totals, .saveInvalid] else [])
      ∧ (s.startUp i).startRecords = ((s.startUp i).queue ++ (s.startUp i).backlog).length
      ∧ (s.startUp i).queue.length ≤ 8 := by
  have hsplit : (s.startUp i).queue ++ (s.startUp i).backlog = startRecordList s.audit.save.usable
      (reconciliation (s.audit.restoredLoad.map LoadRecord.card) s.audit.permits) s.audit.restoredLoad
      ((s.refreshed i).withLoad s.audit.restoredLoad).totals := List.take_append_drop 8 _
  exact ⟨hsplit, (congrArg List.length hsplit).symm, List.length_take_le _ _⟩

/-- An injector after START_UP: its apparatus from audit memory and the sampled inputs (R97, R138). -/
theorem State.startUp_apparatus (i : SampledInputs) (s : State) (j : Fin 8) : (s.startUp i).injectors[j].apparatus
    = (s.audit.injectors[j], i.injectorFeedback[j], false, none, 0, s.audit.restoredInjectors[j]) := by
  rw [State.startUp_eq]
  refine (State.withLoad_apparatus _ j (s.refreshed i)).trans ?_
  revert j
  exact forall_eight rfl rfl rfl rfl rfl rfl rfl rfl

theorem State.startUp_injector_of_no_load (i : SampledInputs) (s : State) (j : Fin 8) (h : s.audit.restoredLoad = none) :
    (s.startUp i).injectors[j].binding = none
      ∧ (s.startUp i).injectors[j].state = if s.audit.injectors[j].arm = none then .disabled else .idle := by
  rw [State.startUp_eq, h]
  revert j
  exact forall_eight ⟨rfl, rfl⟩ ⟨rfl, rfl⟩ ⟨rfl, rfl⟩ ⟨rfl, rfl⟩ ⟨rfl, rfl⟩ ⟨rfl, rfl⟩ ⟨rfl, rfl⟩ ⟨rfl, rfl⟩

theorem State.startUp_rearmed {u : LoadRecord} {c : CompRecord} {r : ComponentResult} {j : Fin 8} (i : SampledInputs)
    (s : State) (hu : s.audit.restoredLoad = some u) (hm : c ∈ u.comps) (hc : c.state ≠ .done) (hr : r ∈ c.additives)
    (hj : r.injector = some j) : (s.startUp i).injectors[j].state = .armed ∧ (s.startUp i).injectors[j].owed = 0 := by
  rw [State.startUp_eq, hu]
  exact State.withLoad_rearmed hm hc hr hj (s.refreshed i)

theorem State.startUp_slot (i : SampledInputs) (s : State) (j : Fin 8) (h : ∀ u, s.audit.restoredLoad = some u → u.slot ≠ j) :
    (s.startUp i).slots[j] = Slot.initial s.audit.holdMinutes s.audit.slots[j] := by
  have hbase : ∀ j : Fin 8, (s.refreshed i).slots[j] = Slot.initial s.audit.holdMinutes s.audit.slots[j] :=
    forall_eight rfl rfl rfl rfl rfl rfl rfl rfl
  rw [State.startUp_eq]
  show ((s.refreshed i).withLoad s.audit.restoredLoad).slots[j] = _
  cases hu : s.audit.restoredLoad with
  | none => exact hbase j
  | some u => rw [State.withLoad_slots, vector_get_set, if_neg fun hj => h u hu hj.symm]; exact hbase j

theorem State.startUp_own_slot {u : LoadRecord} (i : SampledInputs) (s : State) (hu : s.audit.restoredLoad = some u) :
    (s.startUp i).slots[u.slot] = ⟨.reserved, none, none, false, none, false⟩ := by
  rw [State.startUp_eq, hu]
  show ((s.refreshed i).withLoad (some u)).slots[u.slot] = _
  rw [State.withLoad_slots, vector_get_set, if_pos rfl]; rfl

theorem State.startUp_meter (i : SampledInputs) (s : State) (m : Fin 4) : (s.startUp i).meters[m]
    = Meter.initial s.audit.restoredMeters[m] i.position[m] := by
  rw [State.startUp_eq]
  revert m
  exact forall_four rfl rfl rfl rfl

theorem Audit.restoredMeters_get (a : Audit) (m : Fin 4) : a.restoredMeters[m] = if a.save.usable then a.save.data.meters[m]
    else ⟨a.checkpoint.meters[m].gross, a.checkpoint.meters[m].net, 0, 0, 0, 0⟩ := by
  rw [Audit.restoredMeters]
  split
  · rfl
  · revert m; exact forall_four rfl rfl rfl rfl

theorem Audit.restoredInjectors_get (a : Audit) (j : Fin 8) : a.restoredInjectors[j]
    = if a.save.usable then a.save.data.injectors[j] else a.checkpoint.injectors[j] := by
  rw [Audit.restoredInjectors]; split <;> rfl

theorem stale_eq (o : Option LoadRecord) (e : PermitEntry) :
    e.stale (o.map LoadRecord.card) = (e.inUse && o.all fun l => l.card != e.content.card) := by
  cases o with
  | none => rfl
  | some l => simp [PermitEntry.stale, bne]

theorem Audit.restoredLoad_card (a : Audit) :
    a.restoredLoad.map LoadRecord.card = a.sourceLoad.map LoadRecord.card := by
  rw [Audit.restoredLoad, Option.map_map]; rfl

theorem PermitEntry.settled_eq {f : PermitEntry → Option PermitEntry}
    (hn : ∀ e : PermitEntry, e.action = .none → f e = some ⟨e.content, false, .none⟩)
    (hr : ∀ (e : PermitEntry) c, e.action = .replace c → f e = some ⟨c, false, .none⟩)
    (hd : ∀ e : PermitEntry, e.action = .delete → f e = none) : f = PermitEntry.settled := by
  funext e
  cases h : e.action with
  | none => rw [hn e h]; simp only [PermitEntry.settled, h]
  | replace c => rw [hr e c h]; simp only [PermitEntry.settled, h]
  | delete => rw [hd e h]; simp only [PermitEntry.settled, h]

/-! ### The rows -/

theorem exec_startUp_held (i : SampledInputs) (s : State) (hp : s.phase = .held) :
    exec (.startUp i) s = .next (s.startUp i).startWrite := by
  have hrow : exec (.startUp i) s = execStartUp i s := rfl
  simp only [hrow, execStartUp, hp]

/-- The part as START sets it, before a load's hand-off is taken again (R186). -/
def State.opened (s : State) : State :=
  ({ s.mapMeters fun x => { x with gateTimer := some 100 } with
    phase := .running, started := true, scanner := ⟨0, 0#8, some 250⟩ } : State).post .start .none 0
      (startValue s.startMark s.load.isSome)

theorem exec_start_idle (h : s.phase ≠ .startUp ∨ 0 < s.startRecords ∨ s.safety.esdInput = none) :
    exec .start s = .next s := by
  have hr : ¬ s.startReady = true := by
    simp only [State.startReady, Bool.and_eq_true, beq_iff_eq]
    rintro ⟨⟨hp, hn⟩, he⟩
    obtain h | h | h := h
    · exact h hp
    · omega
    · rw [h] at he; exact Bool.false_ne_true he
  exact if_neg hr

theorem exec_start (hp : s.phase = .startUp) (hn : s.startRecords = 0) (he : s.safety.esdInput.isSome = true) :
    exec .start s = .next s.begin.startWrite := by
  have hr : s.startReady = true := by simp only [State.startReady, hp, hn, he]; rfl
  exact if_pos hr

theorem State.begin_opened (h : ∀ l, s.load = some l → l.state ≠ .closing) : s.begin = s.opened := by
  unfold State.begin
  dsimp only
  split
  · rfl
  · rename_i l hl; exact if_neg (h l hl)

theorem State.begin_closing (hl : s.load = some l) (hc : l.state = .closing) : s.begin = s.opened.handOff := by
  unfold State.begin
  simp only [hl]
  rw [if_pos hc]; simp only [State.opened, hl]; rfl

theorem startValue_eq (m : StartMark) (b : Bool) :
    startValue m b = BitVec.ofNat 32 ((if m = .abrupt then 1 else 0) + if b then 2 else 0) := by
  cases b <;> rfl

/-- Settles O60: START_UP by the fields of `State.startUp_eq` and the restored record, START by the close hand-off. -/
theorem startUpRestoresAndStarts : Obligations.StartUpRestoresAndStarts := by
  unfold Obligations.StartUpRestoresAndStarts
  refine ⟨fun i s hp => ?_, ?_, ?_, ?_⟩
  · intro a valid source stale settled
    have ht := State.startUp_eq i s
    have hload : (s.startUp i).load = a.restoredLoad := (congrArg State.load ht :)
    have hcard : a.restoredLoad.map LoadRecord.card = source.map LoadRecord.card := a.restoredLoad_card
    have hstale : PermitEntry.stale (a.restoredLoad.map LoadRecord.card) = stale := by
      funext e; rw [hcard]; exact stale_eq _ _
    have hsettled : settled = PermitEntry.settled :=
      PermitEntry.settled_eq (fun e h => by simp only [settled, h]) (fun e c h => by simp only [settled, h])
        (fun e h => by simp only [settled, h])
    obtain ⟨hrecords, hcount, hlen⟩ := s.startUp_records i
    obtain ⟨-, hmax, hattained⟩ := foldl_max_spec (a.meterK.toList.map CalNat.cec ++ a.curve.toList.map CalCurve.cec
      ++ a.offset.toList.map CalInt.cec ++ a.stroke.toList.map CalNat.cec) 0
    have hcal : (s.startUp i).cal = (s.refreshed i).cal := (congrArg State.cal ht :)
    have hprobes : (s.startUp i).probes = (s.refreshed i).probes := (congrArg State.probes ht :)
    have harms : (s.startUp i).arms = (s.refreshed i).arms := (congrArg State.arms ht :)
    have hpumps : (s.startUp i).pumps = (s.refreshed i).pumps := (congrArg State.pumps ht :)
    have hstroke : ∀ j : Fin 8, (s.refreshed i).cal.stroke[j] = a.stroke[j].value :=
      forall_eight rfl rfl rfl rfl rfl rfl rfl rfl
    have hle {n : Nat} (h : (∃ x ∈ a.meterK.toList, x.cec = n) ∨ (∃ x ∈ a.curve.toList, x.cec = n)
        ∨ (∃ x ∈ a.offset.toList, x.cec = n) ∨ ∃ x ∈ a.stroke.toList, x.cec = n) : n ≤ (s.startUp i).cal.cec := by
      rw [hcal]; exact hmax n (Audit.mem_cecs.2 h)
    refine ⟨(s.startUp i).startWrite, exec_startUp_held i s hp, (congrArg State.phase ht :), (congrArg State.started ht :),
      (congrArg State.audit ht :), (congrArg State.pending ht :), (congrArg State.clock ht :), (congrArg State.orders ht :),
      (congrArg State.staging ht :), (congrArg State.context ht :), (congrArg State.careMask ht :),
      (congrArg State.tpReader ht :), (congrArg State.ppReader ht :), fun p => ?_, (congrArg State.products ht :),
      (congrArg State.recipes ht :), (congrArg State.serial ht :), (congrArg State.holdMinutes ht :), ?_,
      (congrArg State.safety ht :), fun b => ?_, fun p => ?_, fun p => ?_, fun j => ?_, (congrArg State.sealState ht :),
      ?_, ?_, ?_, ?_, ?_, (congrArg State.startMark ht :), fun m => ?_, fun j hj => ?_, ?_, fun l u hl hu => ?_, ?_, hcount, hlen⟩
    · have hports : (s.startUp i).ports = ⟨.idle, .idle, .idle⟩ := (congrArg State.ports ht :)
      show (s.startUp i).ports.get p = _
      rw [hports]; cases p <;> rfl
    · have hpermits : (s.startUp i).permits = reconciled (a.restoredLoad.map LoadRecord.card) a.permits :=
        (congrArg State.permits ht :)
      rw [hsettled, ← hstale]; exact hpermits
    · show (s.startUp i).arms[b] = _
      rw [harms]; revert b; exact forall_four rfl rfl rfl rfl
    · show (s.startUp i).pumps[p] = _
      rw [hpumps]; revert p; exact forall_four rfl rfl rfl rfl
    · show (s.startUp i).probes[p] = _ ∧ (s.startUp i).cal.meterK[p] = _ ∧ (s.startUp i).cal.curve[p] = _
        ∧ (s.startUp i).cal.offset[p] = _
      rw [hprobes, hcal]
      revert p
      exact forall_four ⟨rfl, rfl, rfl, rfl⟩ ⟨rfl, rfl, rfl, rfl⟩ ⟨rfl, rfl, rfl, rfl⟩ ⟨rfl, rfl, rfl, rfl⟩
    · have happ := s.startUp_apparatus i j
      simp only [Injector.apparatus, Prod.mk.injEq] at happ
      obtain ⟨hassign, hfeedback, houtput, htimer, hconsecutive, htotal⟩ := happ
      refine ⟨hassign, hfeedback, houtput, ?_, htotal.trans (a.restoredInjectors_get j), htimer, hconsecutive,
        fun hn => s.startUp_injector_of_no_load i j (hload.symm.trans hn)⟩
      show (s.startUp i).cal.stroke[j] = _
      rw [hcal]; exact hstroke j
    · exact fun x hx => hle (.inl ⟨x, hx, rfl⟩)
    · exact fun x hx => hle (.inr (.inl ⟨x, hx, rfl⟩))
    · exact fun x hx => hle (.inr (.inr (.inl ⟨x, hx, rfl⟩)))
    · exact fun x hx => hle (.inr (.inr (.inr ⟨x, hx, rfl⟩)))
    · show (s.startUp i).cal.cec = 0 ∨ (∃ x ∈ _, _ = (s.startUp i).cal.cec) ∨ (∃ x ∈ _, _ = (s.startUp i).cal.cec)
        ∨ (∃ x ∈ _, _ = (s.startUp i).cal.cec) ∨ ∃ x ∈ _, _ = (s.startUp i).cal.cec
      rw [hcal]; exact hattained.imp_right Audit.mem_cecs.1
    · refine (s.startUp_meter i m).trans ?_
      rw [Audit.restoredMeters_get]; rfl
    · refine (s.startUp_slot i j fun u hu => hj u (hload.trans hu)).trans ?_
      cases h : a.slots[j] <;> rfl
    · show (s.startUp i).load.isSome = _
      rw [hload]; exact Option.isSome_map
    · have hu' : a.restoredLoad = some u := hload.symm.trans hu
      have hsource : a.restoredLoad = some (l.restored a.restoredMeters !a.save.usable) :=
        congrArg (Option.map (LoadRecord.restored a.restoredMeters !a.save.usable)) hl
      obtain rfl : l.restored a.restoredMeters (!a.save.usable) = u := Option.some.inj (hsource.symm.trans hu')
      refine ⟨rfl, rfl, rfl, rfl, rfl, rfl, rfl, LoadRecord.restored_state _ _ _, ?_, rfl, s.startUp_own_slot i hu',
        LoadRecord.restored_comps_keep _ _ _, (LoadRecord.restored_comps_end _ _ _).trans ?_,
        fun c hc hs r hr j hj => s.startUp_rearmed i hu' hc hs hr hj⟩
      · show CauseSet.mk _ _ _ _ _ = _
        rfl
      · refine List.map_congr_left fun c _ => ?_
        have hm := s.startUp_meter i c.line.arm
        show _ = if _ then (_, _, some (Readings.mk (s.startUp i).meters[c.line.arm].gross
          (s.startUp i).meters[c.line.arm].net)) else _
        rw [hm]; rfl
    · refine hrecords.trans ?_
      rw [hsettled, ← hstale]
      show _ = _ ++ (s.startUp i).load.toList.map Record.image ++ _
      rw [hload]; rfl
  · intro i s hp
    have hrow : exec (.startUp i) s = execStartUp i s := rfl
    rw [hrow, execStartUp]
    split
    · exact absurd ‹_› hp
    all_goals rfl
  · exact fun s h => exec_start_idle h
  · intro s hp hn he v
    have hv : s.opened = v := by
      rw [State.opened, startValue_eq]; rfl
    rw [exec_start hp hn he, ← hv]
    refine ⟨fun h => by rw [State.begin_opened h], fun l hl hc => ?_⟩
    rw [State.begin_closing hl hc]
    have hframe := State.handOff_eq s.opened
    have hload := State.handOff_load (s := s.opened) hl
    obtain ⟨hnote, hslot, -⟩ := State.handOff_slots (s := s.opened) hl
    refine ⟨s.opened.handOff.startWrite, l.closedAt s.closeTimeNow, rfl, hload, rfl, hnote, hslot,
      (congrArg State.meters hframe :), (congrArg State.scanner hframe :), (congrArg State.ports hframe :),
      (congrArg State.arms hframe :), (congrArg State.phase hframe :), fun hq hw hb hch => ?_⟩
    have himage := State.imageHandOff_of_empty (s := { s.opened with load := some (l.closedAt s.closeTimeNow) })
      (l := l.closedAt s.closeTimeNow) rfl hq hb (by decide : Phase.running ≠ .powerDown)
    obtain ⟨hqueue, hstate⟩ := State.handOff_queue (s := s.opened) hl rfl himage rfl
      (by rw [State.enqueue]; show (s.queue ++ _).length ≤ 6; rw [hq]; exact Nat.le_of_ble_eq_true rfl) (by decide : Phase.running ≠ .powerDown) hch
    refine ⟨hstate, s.opened.chargeRecords (l.closedAt s.closeTimeNow), ?_, State.chargeRecords_length _ _,
      fun r hr => State.mem_chargeRecords hr⟩
    refine hqueue.trans ?_
    show s.queue ++ _ ++ _ ++ _ = _
    rw [hq, List.append_assoc]; rfl

end Sys2Proof.Machine
end

section
/-! PROOFS. ORDER-SELECT: its refusals in order, and the opening of a load (O34). -/

namespace Sys2Proof.Machine

variable {s : State} {x : Context} {e : PermitEntry} {o : Order} {number : Nat}

/-! ### The missing qualifications (R38) -/

theorem State.requiredSet_getLsbD (o : Order) (s : State) (q : Nat) :
    (s.requiredSet o).getLsbD q = true ↔ ∃ l ∈ o.lines, s.products[l.product].required.getLsbD q = true := by
  have fold (ls : List OrderLine) (acc : QualSet) :
      (ls.foldl (fun acc l => acc ||| s.products[l.product].required) acc).getLsbD q = true
        ↔ acc.getLsbD q = true ∨ ∃ l ∈ ls, s.products[l.product].required.getLsbD q = true := by
    induction ls generalizing acc with
    | nil => simp
    | cons l ls ih =>
      rw [List.foldl_cons, ih, BitVec.getLsbD_or, Bool.or_eq_true, or_assoc, List.exists_mem_cons_iff]
  refine (fold o.lines 0).trans ?_
  simp

theorem State.missing_getLsbD (o : Order) (e : PermitEntry) (s : State) {q : Nat} (hq : q < 16) :
    (s.missing o e).getLsbD q = true
      ↔ (∃ l ∈ o.lines, s.products[l.product].required.getLsbD q = true) ∧ s.careMask.getLsbD q = true
        ∧ e.content.quals.getLsbD q = false := by
  simp only [State.missing, BitVec.getLsbD_and, BitVec.getLsbD_not, Bool.and_eq_true, State.requiredSet_getLsbD, hq,
    decide_true, true_and, Bool.not_eq_true', and_assoc]

/-- A set of the same bits is the missing set. -/
theorem State.missing_eq_of {missing : QualSet} (h : ∀ q : Fin 16, missing.getLsbD q.val = true
      ↔ (∃ l ∈ o.lines, s.products[l.product].required.getLsbD q.val = true) ∧ s.careMask.getLsbD q.val = true
        ∧ e.content.quals.getLsbD q.val = false) : s.missing o e = missing :=
  BitVec.eq_of_getLsbD_eq fun q hq =>
    Bool.eq_iff_iff.2 ((State.missing_getLsbD o e s hq).trans (h ⟨q, hq⟩).symm)

theorem State.missing_eq_zero (h : ∀ q : Fin 16, ¬ ((∃ l ∈ o.lines, s.products[l.product].required.getLsbD q.val = true)
      ∧ s.careMask.getLsbD q.val = true ∧ e.content.quals.getLsbD q.val = false)) : s.missing o e = 0#16 :=
  State.missing_eq_of fun q => by
    rw [BitVec.getLsbD_zero]; exact ⟨fun hf => (Bool.false_ne_true hf).elim, fun hq => (h q hq).elim⟩

/-! ### The checks -/

theorem ownOrderSelect_no_context (h : s.context = none) : ownOrderSelect number s = refuse .state s := by
  simp only [ownOrderSelect, h]

theorem ownOrderSelect_not_eligible (h : s.context = some x) (hn : number ∉ x.eligible) :
    ownOrderSelect number s = refuse .notFound s := by
  have hc : (!x.eligible.contains number) = true := by simpa using hn
  simp only [ownOrderSelect, h]
  exact if_pos hc

section Checked

variable (h : s.context = some x) (hn : number ∈ x.eligible) (he : s.permit? x.card = some e)
  (ho : (s.orders.find? fun y => y.number == number) = some o)

include h hn he ho

theorem ownOrderSelect_refused {r : Reason} (hr : e.refusal s.clock.day = some r) : ownOrderSelect number s
    = refuseWith r.status (.reason r)
        (({ s with context := none } : State).post .authDropped .reason r.number (w32 x.card)) := by
  have hc : ¬ (!x.eligible.contains number) = true := by simpa using hn
  simp only [ownOrderSelect, h]
  rw [if_neg hc]
  simp only [he, ho, hr, State.dropContext, h]

theorem ownOrderSelect_unqualified (hr : e.refusal s.clock.day = none) (hm : s.missing o e ≠ 0#16) :
    ownOrderSelect number s = refuseWith .qualification (.quals (s.missing o e)) s := by
  have hc : ¬ (!x.eligible.contains number) = true := by simpa using hn
  simp only [ownOrderSelect, h]
  rw [if_neg hc]
  simp only [he, ho, hr]
  exact if_pos hm

theorem ownOrderSelect_busy (hr : e.refusal s.clock.day = none) (hm : s.missing o e = 0#16) (hp : s.hasPlace = false) :
    ownOrderSelect number s = refuse .busy s := by
  have hc : ¬ (!x.eligible.contains number) = true := by simpa using hn
  simp only [ownOrderSelect, h]
  rw [if_neg hc]
  simp only [he, ho, hr]
  exact (if_neg (not_not.2 hm)).trans (if_pos (by rw [hp]; rfl))

theorem ownOrderSelect_opens {slot : Fin 8} (hr : e.refusal s.clock.day = none) (hm : s.missing o e = 0#16)
    (hp : s.hasPlace = true) (hs : s.freeSlot = some slot) :
    ownOrderSelect number s = reply .ok (.selected number slot) (s.openLoad x.card e o slot) := by
  have hc : ¬ (!x.eligible.contains number) = true := by simpa using hn
  simp only [ownOrderSelect, h]
  rw [if_neg hc]
  simp only [he, ho, hr]
  refine (if_neg (not_not.2 hm)).trans ((if_neg (by rw [hp]; decide)).trans ?_)
  simp only [hs]

end Checked

/-! ### The opening (R10) -/

/-- The state at the opening before its image point: permit, context, orders, load record, deadman, permit record and slot. -/
def State.opening (card : Nat) (e : PermitEntry) (o : Order) (slot : Fin 8) (s : State) : State :=
  (({ s with
      permits := withPermit card (some { e with inUse := true }) s.permits, context := none
      orders := s.orders.filter fun x => x.number != o.number, load := some (s.openedLoad card e o slot), imageOwed := false
      safety := s.safety.beginLoad } : State).enqueue (.permit card (some { e with inUse := true }) false)).modifySlot slot
    fun x => { x with state := .reserved, note := none }

theorem State.openLoad_eq (card : Nat) (e : PermitEntry) (o : Order) (slot : Fin 8) (s : State) : s.openLoad card e o slot
    = (((s.opening card e o slot).imagePoint).post .loadOpened .noteSlot slot.val (w32 o.number)).post .loadState .none 0
      (w32 (s.openedLoad card e o slot).state.number) := rfl

theorem State.imagePoint_eq (s : State) : s.imagePoint = { s with
    queue := s.imagePoint.queue, backlog := s.imagePoint.backlog, imageOwed := s.imagePoint.imageOwed } := by
  unfold State.imagePoint State.queueImage State.refreshImages State.mapWaiting
  (repeat' split) <;> rfl

/-- With no image waiting, one joins the queue or is owed (R11). -/
theorem State.imagePoint_of_none {l : LoadRecord} (hl : s.load = some l) (hp : s.phase ≠ .powerDown) (ht : l.closeTime = none)
    (hq : ∀ r ∈ s.queue, r.isImage = false) (hb : ∀ r ∈ s.backlog, r.isImage = false) :
    s.imagePoint = s.queueImage l := by
  have hwait : ¬ s.imageWaits = true := by
    have hsub : ∀ r ∈ s.waiting, r ∈ s.queue := by
      intro r hr; unfold State.waiting at hr; split at hr
      · exact List.mem_of_mem_tail hr
      · exact hr
    rw [State.imageWaits, Bool.or_eq_true, not_or, List.any_eq_true, List.any_eq_true]
    exact ⟨fun ⟨r, hr, hi⟩ => Bool.false_ne_true ((hq r (hsub r hr)).symm.trans hi),
      fun ⟨r, hr, hi⟩ => Bool.false_ne_true ((hb r hr).symm.trans hi)⟩
  have hclose : ¬ l.closeTime.isSome = true := by rw [ht]; exact Bool.false_ne_true
  simp only [State.imagePoint, hl]
  rw [if_neg hp, if_neg hwait, if_neg hclose]

/-- The opening image stands behind the permit's record, or is owed where that record took the last place (R11). -/
theorem State.opening_image (card : Nat) (slot : Fin 8) (hrun : s.phase = .running) (hlen : s.queue.length < 8)
    (hq : ∀ r ∈ s.queue, r.isImage = false) (hb : ∀ r ∈ s.backlog, r.isImage = false) :
    (s.opening card e o slot).imagePoint.queue = s.queue ++ .permit card (some { e with inUse := true }) false
        :: (if s.queue.length < 7 then [.image (s.openedLoad card e o slot)] else [])
      ∧ (s.opening card e o slot).imagePoint.imageOwed = decide (s.queue.length = 7) := by
  have hphase : (s.opening card e o slot).phase = .running := hrun
  have himage := State.imagePoint_of_none (s := s.opening card e o slot) rfl (by rw [hphase]; decide) rfl
    (fun r hr => (List.mem_append.1 hr).elim (hq r) fun h => by rw [List.mem_singleton.1 h]; rfl) hb
  have hqueue : (s.opening card e o slot).queue = s.queue ++ [.permit card (some { e with inUse := true }) false] := rfl
  have hplace : (s.opening card e o slot).hasPlace = decide (s.queue.length < 7) := by
    rw [State.hasPlace_eq hphase, hqueue, List.length_append]; exact decide_eq_decide.2 (by simp; omega)
  rw [himage, State.queueImage, hplace]
  by_cases h7 : s.queue.length < 7
  · rw [if_pos (decide_eq_true h7), if_pos h7]
    refine ⟨(List.append_assoc _ _ _).trans rfl, (decide_eq_false (by omega)).symm⟩
  · rw [if_neg (by simpa using h7), if_neg h7]
    exact ⟨rfl, (decide_eq_true (by omega)).symm⟩

/-- The fields of the state that an opening leaves, the queue's part apart. -/
theorem State.openLoad_fields (card : Nat) (e : PermitEntry) (o : Order) (slot : Fin 8) (s : State) :
    (s.openLoad card e o slot).load = some (s.openedLoad card e o slot)
      ∧ (s.openLoad card e o slot).permits = withPermit card (some { e with inUse := true }) s.permits
      ∧ (s.openLoad card e o slot).queue = (s.opening card e o slot).imagePoint.queue
      ∧ (s.openLoad card e o slot).imageOwed = (s.opening card e o slot).imagePoint.imageOwed
      ∧ (s.openLoad card e o slot).context = none
      ∧ (s.openLoad card e o slot).orders = s.orders.filter (fun x => x.number != o.number)
      ∧ (s.openLoad card e o slot).slots = s.slots.set slot { s.slots[slot] with state := .reserved, note := none }
      ∧ (s.openLoad card e o slot).safety = s.safety.beginLoad ∧ (s.openLoad card e o slot).meters = s.meters
      ∧ (s.openLoad card e o slot).arms = s.arms ∧ (s.openLoad card e o slot).cal = s.cal
      ∧ (s.openLoad card e o slot).ports
        = (s.ports.offer ⟨.loadOpened, .noteSlot, slot.val, w32 o.number, s.clock.second⟩).offer
          ⟨.loadState, .none, 0, w32 (s.openedLoad card e o slot).state.number, s.clock.second⟩ := by
  rw [State.openLoad_eq, State.imagePoint_eq]
  exact ⟨rfl, rfl, rfl, rfl, rfl, rfl, rfl, rfl, rfl, rfl, rfl, rfl⟩

/-- Settles O34: the checks of R37 in their order, and the opening of R10. -/
theorem selectionOpensLoad : Obligations.SelectionOpensLoad := by
  unfold Obligations.SelectionOpensLoad
  refine ⟨?_, ?_⟩
  · intro g body tail number s hrun w refused
    refine ⟨fun hx => exec_answers rfl rfl hrun rfl (ownOrderSelect_no_context (s := s.seen .orderSelect w) hx),
      fun x hx => ⟨fun hn => exec_answers rfl rfl hrun rfl (ownOrderSelect_not_eligible (s := s.seen .orderSelect w) hx hn),
        ?_⟩⟩
    intro e o hn he ho dropped lacking
    have drop {r : Reason} {status : Status} (hs : r.status = status) (hr : e.refusal s.clock.day = some r) :
        dropped status r := by
      subst hs
      exact exec_answers rfl rfl hrun rfl (ownOrderSelect_refused (s := s.seen .orderSelect w) hx hn he ho hr)
    refine ⟨fun hb => drop rfl (PermitEntry.refusal_blocked hb), fun ha hd => drop rfl (PermitEntry.refusal_expired ha hd),
      fun ha hd hl => drop rfl (PermitEntry.refusal_noLoads ha hd hl), fun ha hd hl => ?_⟩
    have hr := PermitEntry.refusal_none ha hd hl
    refine ⟨fun missing hm hbits => ?_, fun hnone hfull => ?_⟩
    · obtain rfl : (s.seen .orderSelect w).missing o e = missing := State.missing_eq_of hbits
      exact exec_answers rfl rfl hrun rfl (ownOrderSelect_unqualified (s := s.seen .orderSelect w) hx hn he ho hr hm)
    · exact exec_answers rfl rfl hrun rfl (ownOrderSelect_busy (s := s.seen .orderSelect w) hx hn he ho hr
        (State.missing_eq_zero hnone) (State.not_hasPlace_of_length (s := s.seen .orderSelect w) hfull))
  · intro g body tail x e o slot s hrun hx hn he ho hactive hday hloads hquals hlen hfree hlow hq hb w
    have hmiss : (s.seen .orderSelect w).missing o e = 0#16 := State.missing_eq_zero fun q ⟨hreq, hcare, hlack⟩ =>
      Bool.false_ne_true (hlack.symm.trans (hquals q hreq hcare))
    have hslot : (s.seen .orderSelect w).freeSlot = some slot :=
      eights_find? (by rw [beq_iff_eq]; exact hfree) fun i hi => beq_eq_false_iff_ne.2 (hlow i hi)
    have hown := ownOrderSelect_opens (s := s.seen .orderSelect w) hx hn he ho (PermitEntry.refusal_none hactive hday hloads)
      hmiss (State.hasPlace_of_length hrun hlen) hslot
    obtain ⟨hqueue, howed⟩ := State.opening_image (s := s.seen .orderSelect w) (e := e) (o := o) x.card slot hrun hlen hq hb
    obtain ⟨hload, hpermits, hque, himg, hcontext, horders, hslots, hsafety, hmeters, harms, hcal, hports⟩ :=
      State.openLoad_fields x.card e o slot (s.seen .orderSelect w)
    have hmem : ∀ c ∈ ((s.seen .orderSelect w).openedLoad x.card e o slot).comps, ∃ l, CompRecord.initial l = c :=
      fun c hc => (List.mem_map.1 hc).imp fun _ h => h.2
    refine ⟨(s.seen .orderSelect w).openLoad x.card e o slot, (s.seen .orderSelect w).openedLoad x.card e o slot,
      exec_answers rfl rfl hrun rfl hown, hload, rfl, rfl, rfl, rfl, ?_, ?_, rfl, rfl, rfl, rfl, rfl,
      hpermits, hque.trans hqueue, himg.trans howed, hcontext, horders, ?_, fun i hi => ?_, ?_, ?_, ?_, ?_, hmeters, harms, hcal,
      hports.trans ?_⟩
    · exact (List.map_map).trans (List.map_id _)
    · intro c hc
      obtain ⟨l, rfl⟩ := hmem c hc
      exact ⟨rfl, rfl, rfl, rfl, rfl⟩
    · rw [hslots, vector_get_set, if_pos rfl]
    · rw [hslots, vector_get_set, if_neg fun h => hi h]; rfl
    · rw [hsafety]; rfl
    · rw [hsafety]; rfl
    · rw [hsafety]; rfl
    · rw [hsafety]; rfl
    · have hvalue : w32 ((s.seen .orderSelect w).openedLoad x.card e o slot).state.number
          = if ((s.seen .orderSelect w).openedLoad x.card e o slot).causes.isEmpty then 0 else 2 :=
        apply_ite (fun y : LoadState => w32 y.number) _ _ _
      rw [hvalue]; rfl

end Sys2Proof.Machine
end

section
/-! PROOFS. Strokes confirmed and missed, and the fault of the third miss (O56). -/

namespace Sys2Proof.Machine

variable {s : State} {j : Fin 8} {b : Binding} {l : LoadRecord} {c : CompRecord}

theorem State.modifyBound_of_binding (hb : s.injectors[j].binding = some b) (f : ComponentResult → ComponentResult) :
    s.modifyBound j f = s.modifyResult b f := by
  simp only [State.modifyBound, hb]

theorem State.modifyResult_of_load (hl : s.load = some l) (b : Binding) (f : ComponentResult → ComponentResult) :
    s.modifyResult b f = { s with load := some (l.modifyComp b.compartment (CompRecord.modifyResult b.position f)) } := by
  simp only [State.modifyResult, State.modifyComp, State.modifyLoad, hl, Option.map_some]

theorem State.modifyResult_comp? (f : ComponentResult → ComponentResult) (hc : s.comp? b.compartment = some c) :
    (s.modifyResult b f).comp? b.compartment = some (c.modifyResult b.position f) := by
  have h := State.modifyComp_comp? s (n := b.compartment) (f := CompRecord.modifyResult b.position f) (fun _ => rfl) b.compartment
  rw [hc, Option.map_some, if_pos (s.comp?_compartment hc)] at h
  exact h

/-! ### A stroke that is over (R108) -/

/-- An injector whose stroke is over: an owed stroke starts where its arm flows, and it is ARMED otherwise. -/
def Injector.strokeOver (flows : Bool) (y : Injector) : Injector :=
  if 0 < y.owed ∧ flows = true then { y.startStroke with owed := y.owed - 1 } else { y with state := .armed }

/-- The arm of a compartment is LOW, FULL or SLOWDOWN for it. -/
def State.flowsFor (c : CompRecord) (n : Nat) (s : State) : Bool :=
  s.arms[c.line.arm].state.isFlowing && s.arms[c.line.arm].served == some n

theorem State.boundArmFlows_eq (hb : s.injectors[j].binding = some b) (hc : s.comp? b.compartment = some c) :
    s.boundArmFlows j = s.flowsFor c b.compartment := by
  simp only [State.boundArmFlows, hb, hc]; rfl

theorem State.strokeEnded_eq (hb : s.injectors[j].binding = some b) (hc : s.comp? b.compartment = some c) :
    s.strokeEnded j = s.modifyInjector j (Injector.strokeOver (s.flowsFor c b.compartment)) := by
  rw [State.strokeEnded, State.boundArmFlows_eq hb hc]
  split
  · rename_i h; exact State.modifyInjector_congr s (if_pos h).symm
  · rename_i h; exact State.modifyInjector_congr s (if_neg h).symm

/-- A stroke counted at its result by `f`, and over at its injector by `g`. -/
theorem State.stroke_over {f : ComponentResult → ComponentResult} {g : Injector → Injector} (hl : s.load = some l)
    (hb : s.injectors[j].binding = some b) (hc : s.comp? b.compartment = some c) (hg : (g s.injectors[j]).binding = some b) :
    ((s.modifyBound j f).modifyInjector j g).strokeEnded j = { s with
      load := some (l.modifyComp b.compartment (CompRecord.modifyResult b.position f))
      injectors := s.injectors.set j ((g s.injectors[j]).strokeOver (s.flowsFor c b.compartment)) } := by
  rw [State.modifyBound_of_binding hb]
  have hbind : ((s.modifyResult b f).modifyInjector j g).injectors[j].binding = some b := by
    rw [State.modifyInjector_get_self]; exact hg
  have hcomp : ((s.modifyResult b f).modifyInjector j g).comp? b.compartment = some (c.modifyResult b.position f) :=
    State.modifyResult_comp? f hc
  rw [State.strokeEnded_eq hbind hcomp, State.modifyInjector_modifyInjector, State.modifyResult_of_load hl]
  rfl

theorem State.confirmStroke_eq (hl : s.load = some l) (hb : s.injectors[j].binding = some b)
    (hc : s.comp? b.compartment = some c) : s.confirmStroke j = { s with
      load := some (l.modifyComp b.compartment (CompRecord.modifyResult b.position fun r =>
        { r with confirmed := r.confirmed + 1, delivered := r.delivered + s.cal.stroke[j] }))
      injectors := s.injectors.set j (Injector.strokeOver (s.flowsFor c b.compartment)
        { s.injectors[j] with
          output := false, timer := none, total := satAdd (2 ^ 64 - 1) s.injectors[j].total s.cal.stroke[j]
          consecutive := 0 }) } :=
  State.stroke_over hl hb hc hb

/-! ### The fault of the third miss (R109) -/

/-- The state in which an injector's fault is told: its miss counted, its debt skipped, the injector in FAULT. -/
def State.faulted (j : Fin 8) (b : Binding) (s : State) : State :=
  (s.modifyResult b fun r => { r with missed := r.missed + 1, skipped := r.skipped + s.injectors[j].owed }).modifyInjector j
    fun x => { x with output := false, timer := none, consecutive := x.consecutive + 1, owed := 0, state := .fault }

theorem State.missStroke_early (hl : s.load = some l) (hb : s.injectors[j].binding = some b)
    (hc : s.comp? b.compartment = some c) (h2 : s.injectors[j].consecutive < 2) : s.missStroke j = { s with
      load := some (l.modifyComp b.compartment (CompRecord.modifyResult b.position fun r =>
        { r with missed := r.missed + 1 }))
      injectors := s.injectors.set j (Injector.strokeOver (s.flowsFor c b.compartment)
        { s.injectors[j] with output := false, timer := none, consecutive := s.injectors[j].consecutive + 1 }) } := by
  have hthird : ¬ 3 ≤ ((s.modifyBound j fun r => { r with missed := r.missed + 1 }).modifyInjector j fun x =>
      { x with output := false, timer := none, consecutive := x.consecutive + 1 }).injectors[j].consecutive := by
    rw [State.modifyInjector_get_self, State.modifyBound_injectors]
    show ¬ 3 ≤ s.injectors[j].consecutive + 1
    omega
  rw [State.missStroke]
  exact (if_neg hthird).trans (State.stroke_over hl hb hc hb)

theorem State.missStroke_third (hb : s.injectors[j].binding = some b) (h2 : 2 ≤ s.injectors[j].consecutive) :
    s.missStroke j = ((s.faulted j b).post .injectorFault .injector j.val (w32 b.compartment)).faultComponent b := by
  have hmiss := State.modifyBound_of_binding hb fun r => { r with missed := r.missed + 1 }
  have hthird : 3 ≤ ((s.modifyBound j fun r => { r with missed := r.missed + 1 }).modifyInjector j fun x =>
      { x with output := false, timer := none, consecutive := x.consecutive + 1 }).injectors[j].consecutive := by
    rw [State.modifyInjector_get_self, State.modifyBound_injectors]
    show 3 ≤ s.injectors[j].consecutive + 1
    omega
  rw [State.missStroke]
  refine (if_pos hthird).trans ?_
  rw [hmiss]
  generalize hy : (s.modifyResult b fun r => { r with missed := r.missed + 1 }).modifyInjector j (fun x =>
    { x with output := false, timer := none, consecutive := x.consecutive + 1 }) = y
  have hyj : y.injectors[j]
      = { s.injectors[j] with output := false, timer := none, consecutive := s.injectors[j].consecutive + 1 } := by
    rw [← hy, State.modifyInjector_get_self]; rfl
  have hyb : y.injectors[j].binding = some b := by rw [hyj]; exact hb
  have hfault : (y.discardOwed j).modifyInjector j (fun x => { x with state := .fault }) = s.faulted j b := by
    rw [State.discardOwed, State.modifyInjector_modifyInjector, State.modifyBound_of_binding hyb, hyj, ← hy, State.faulted]
    have hcomm (f : ComponentResult → ComponentResult) (g : Injector → Injector) (x : State) :
        (x.modifyInjector j g).modifyResult b f = (x.modifyResult b f).modifyInjector j g := rfl
    rw [hcomm, State.modifyInjector_modifyInjector]
    exact congrArg (State.modifyInjector j _) (State.modifyResult_modifyResult s b
      (fun r => { r with missed := r.missed + 1 }) (fun r => { r with skipped := r.skipped + s.injectors[j].owed })
      fun _ => rfl)
  rw [State.injectorFault]
  simp only [hyb, hfault]

theorem CompRecord.modifyResult_find? {f : ComponentResult → ComponentResult} (hf : ∀ r, (f r).position = r.position)
    (p : Nat) (c : CompRecord) : (c.modifyResult p f).additives.find? (fun r => r.position == p)
      = (c.additives.find? fun r => r.position == p).map f := by
  simp only [CompRecord.modifyResult, List.find?_map]
  have hp : ((fun r : ComponentResult => r.position == p) ∘ fun r => if r.position = p then f r else r)
      = fun r => r.position == p := by
    funext r
    simp only [Function.comp]
    split
    · rw [hf]
    · rfl
  rw [hp]
  cases h : c.additives.find? fun r => r.position == p with
  | none => rfl
  | some r =>
    have hr : r.position = p := by simpa using List.find?_some h
    exact congrArg some (if_pos hr)

theorem State.faultComponent_eq {r : ComponentResult} (hc : s.comp? b.compartment = some c)
    (hr : c.additives.find? (fun r => r.position == b.position) = some r) : s.faultComponent b
      = if r.component.mandatory then s.driveClose b.compartment (.halt .additive)
        else s.modifyResult b fun r => { r with markOut := true } := by
  simp only [State.faultComponent, hc, Option.bind_some, hr]

/-- What the fault of a component does at its compartment is nothing, a drive to close, or a mark. -/
theorem State.faultComponent_cases (b : Binding) (s : State) : s.faultComponent b = s
    ∨ s.faultComponent b = s.driveClose b.compartment (.halt .additive)
    ∨ s.faultComponent b = s.modifyResult b fun r => { r with markOut := true } := by
  unfold State.faultComponent
  split
  · exact .inl rfl
  · split
    · exact .inr (.inl rfl)
    · exact .inr (.inr rfl)

/-- The fault of a component leaves meters and pumps, and tells; an injector without a stroke it leaves. -/
theorem State.faultComponent_keeps (b : Binding) (s : State) : (s.faultComponent b).meters = s.meters
    ∧ (s.faultComponent b).pumps = s.pumps ∧ s.Tells (s.faultComponent b)
    ∧ ∀ j : Fin 8, s.injectors[j].state ≠ .stroking → (s.faultComponent b).injectors[j] = s.injectors[j] := by
  obtain h | h | h := s.faultComponent_cases b <;> rw [h]
  · exact ⟨rfl, rfl, .refl s, fun _ _ => rfl⟩
  · obtain ⟨hpumps, -, -, -, -, hapart⟩ := State.of_still (State.driveClose_still s b.compartment (.halt .additive))
    refine ⟨(State.of_apart hapart).1, hpumps, State.tells_driveClose s _ _, fun j hj => ?_⟩
    obtain h | h := State.driveClose_injector_cases (s := s) (r := .halt .additive) b.compartment j
    · exact h
    · rw [h, Injector.flowStopped_of_not_stroking hj]
  · exact ⟨rfl, rfl, .of_ports rfl, fun _ _ => rfl⟩

/-- With no stroke in flight at a component but what an injector in FAULT left, the flow that stops skips nothing there. -/
theorem State.skipOwed_find? {p n : Nat} {rs : List ComponentResult} {r : ComponentResult}
    (h : ∀ i : Fin 8, s.injectors[i].state = .stroking → s.injectors[i].binding ≠ some ⟨n, p⟩)
    (hr : rs.find? (fun r => r.position == p) = some r) : (State.skipOwed n rs s).find? (fun r => r.position == p) = some r := by
  rw [← countedAt_skipOwed]
  simp only [countedAt, List.find?_map]
  have hp : ((fun r : ComponentResult => r.position == p) ∘ fun r : ComponentResult =>
      r.count (boundSum eights (fun _ => 0) s.injectors ⟨n, r.position⟩)
        (boundSum eights Injector.cutSkipped s.injectors ⟨n, r.position⟩)) = fun r => r.position == p := rfl
  have hnone : (eights.filter fun j : Fin 8 => s.injectors[j].binding == some ⟨n, p⟩ && s.injectors[j].state == .stroking)
      = [] := List.filter_eq_nil_iff.2 fun j _ hj => by
    rw [Bool.and_eq_true, beq_iff_eq, beq_iff_eq] at hj
    exact h j hj.2 hj.1
  have hpos : r.position = p := by simpa using List.find?_some hr
  rw [hp, hr, Option.map_some, hpos, boundSum_cutSkipped, hnone]
  simp [boundSum, ComponentResult.count]

/-! ### The rows -/

theorem exec_injectorFeedback (hrun : s.phase = .running) (on : Bool) :
    exec (.injectorFeedback j on) s = .next (s.injectorFeedback j on).startWrite := by
  have hrow : exec (.injectorFeedback j on) s = execInjectorFeedback j on s := rfl
  simp only [hrow, execInjectorFeedback, hrun]

theorem injectorFeedback_remembered {on : Bool}
    (h : s.injectors[j].state ≠ .stroking ∨ on = false ∨ s.injectors[j].feedback = true) : s.injectorFeedback j on
      = { s with injectors := s.injectors.set j { s.injectors[j] with feedback := on } } := by
  have hn : ¬ (on && !s.injectors[j].feedback && s.injectors[j].state == .stroking && s.injectors[j].timer.isSome) = true := by
    simp only [Bool.and_eq_true, beq_iff_eq, Bool.not_eq_true']
    rintro ⟨⟨⟨hon, hf⟩, hs⟩, -⟩
    obtain h | h | h := h
    · exact h hs
    · exact Bool.false_ne_true (h.symm.trans hon)
    · exact Bool.false_ne_true (hf.symm.trans h)
  exact if_neg hn

theorem injectorFeedback_confirms (hs : s.injectors[j].state = .stroking) (hf : s.injectors[j].feedback = false)
    (ht : s.injectors[j].timer.isSome = true) : s.injectorFeedback j true
      = ({ s with injectors := s.injectors.set j { s.injectors[j] with feedback := true } } : State).confirmStroke j := by
  have hc : (true && !s.injectors[j].feedback && s.injectors[j].state == .stroking && s.injectors[j].timer.isSome) = true := by
    rw [hs, hf, ht]; rfl
  exact if_pos hc

theorem exec_feedbackTimerExpiry (hrun : s.phase = .running) (hs : s.injectors[j].state = .stroking)
    (ht : s.injectors[j].timer = some 0) : exec (.feedbackTimerExpiry j) s = .next (s.missStroke j).startWrite :=
  if_pos ⟨by rw [State.timersRun, hrun]; rfl, hs, ht⟩

theorem State.driveClose_has_load (hl : s.load = some l) (n : Nat) (r : CloseReason) : ∃ u, (s.driveClose n r).load = some u := by
  by_cases h : ∃ c, s.comp? n = some c ∧ c.state.isDrivable = true
  · obtain ⟨c, hc, hd⟩ := h
    exact ⟨_, (State.driveClose_load s hc hd).trans (congrArg _ hl)⟩
  · rw [State.driveClose_of_not_drivable s fun c hc => by
      rw [← Bool.not_eq_true]; exact fun hd => h ⟨c, hc, hd⟩]
    exact ⟨l, hl⟩

theorem State.faultComponent_has_load (hl : s.load = some l) (b : Binding) : ∃ u, (s.faultComponent b).load = some u := by
  obtain h | h | h := s.faultComponent_cases b <;> rw [h]
  · exact ⟨l, hl⟩
  · exact State.driveClose_has_load hl _ _
  · exact ⟨_, by rw [State.modifyResult_of_load hl]⟩

/-- The counts of a third miss at the component: one stroke missed, the debt skipped. -/
def ComponentResult.faulted (owed : Nat) (r : ComponentResult) : ComponentResult :=
  { r with missed := r.missed + 1, skipped := r.skipped + owed }

theorem ComponentResult.faulted_position (owed : Nat) (r : ComponentResult) : (r.faulted owed).position = r.position := rfl

/-- The state in which the fault takes its effect on the component, its event told. -/
def State.alarmed (j : Fin 8) (b : Binding) (s : State) : State :=
  (s.faulted j b).post .injectorFault .injector j.val (w32 b.compartment)

theorem State.alarmed_load (hl : s.load = some l) : (s.alarmed j b).load
    = some (l.modifyComp b.compartment (CompRecord.modifyResult b.position (ComponentResult.faulted s.injectors[j].owed))) :=
  (congrArg State.load (State.modifyResult_of_load hl b (ComponentResult.faulted s.injectors[j].owed)) :)

theorem State.alarmed_comp? (hc : s.comp? b.compartment = some c) : (s.alarmed j b).comp? b.compartment
    = some (c.modifyResult b.position (ComponentResult.faulted s.injectors[j].owed)) :=
  State.modifyResult_comp? _ hc

theorem State.alarmed_get (i : Fin 8) : (s.alarmed j b).injectors[i] = if i = j then { s.injectors[j] with
    output := false, timer := none, consecutive := s.injectors[j].consecutive + 1, owed := 0, state := .fault }
    else s.injectors[i] := by
  show (s.faulted j b).injectors[i] = _
  rw [State.faulted, State.modifyInjector_get]; rfl

section Component

variable {r : ComponentResult} (hl : s.load = some l) (hc : s.comp? b.compartment = some c)
  (hr : c.additives.find? (fun r => r.position == b.position) = some r)

include hl hc hr

omit hl in
theorem State.alarmed_component : (s.alarmed j b).faultComponent b
    = if r.component.mandatory then (s.alarmed j b).driveClose b.compartment (.halt .additive)
      else (s.alarmed j b).modifyResult b fun r => { r with markOut := true } :=
  State.faultComponent_eq (r := r.faulted s.injectors[j].owed) (State.alarmed_comp? hc)
    ((CompRecord.modifyResult_find? (ComponentResult.faulted_position _) b.position c).trans (congrArg _ hr))

theorem State.alarmed_optional (hm : r.component.mandatory = false) :
    ((s.alarmed j b).faultComponent b).load = some (l.modifyComp b.compartment (CompRecord.modifyResult b.position fun r =>
        { r with missed := r.missed + 1, skipped := r.skipped + s.injectors[j].owed, markOut := true }))
      ∧ ((s.alarmed j b).faultComponent b).arms = s.arms
      ∧ ((s.alarmed j b).faultComponent b).ports = (s.alarmed j b).ports := by
  rw [State.alarmed_component hc hr, hm, if_neg Bool.false_ne_true, State.modifyResult_of_load (State.alarmed_load hl)]
  refine ⟨congrArg some ?_, rfl, rfl⟩
  rw [LoadRecord.modifyComp_modifyComp b.compartment (CompRecord.modifyResult b.position (ComponentResult.faulted _)) _ fun _ => rfl]
  congr 1
  funext c
  exact CompRecord.modifyResult_modifyResult b.position _ _ (ComponentResult.faulted_position _) c

omit hl in
theorem State.alarmed_undrivable (hm : r.component.mandatory = true) (hd : c.state.isDrivable = false) :
    (s.alarmed j b).faultComponent b = s.alarmed j b := by
  rw [State.alarmed_component hc hr, hm, if_pos rfl]
  refine State.driveClose_of_not_drivable _ fun d hd' => ?_
  rw [← Option.some.inj ((State.alarmed_comp? hc).symm.trans hd')]; exact hd

theorem State.alarmed_driven (hm : r.component.mandatory = true) (hd : c.state.isDrivable = true)
    (hs : s.arms[c.line.arm].state.isStaging = true) (hi : ∀ i : Fin 8, i ≠ j → s.injectors[i].binding ≠ some b) :
    ((s.alarmed j b).faultComponent b).arms = s.arms.set c.line.arm { s.arms[c.line.arm] with
        state := .closing, valve := .closed, settleTimer := none, hold := false, zeroRun := 0, learnable := false
        closeTimer := some (s.arms[c.line.arm].config.closeTimeout * 1000) }
      ∧ ∃ c', ((s.alarmed j b).faultComponent b).comp? b.compartment = some c' ∧ c'.state = .closing
        ∧ c'.closeReason = some (.halt .additive) ∧ c'.line = c.line
        ∧ c'.additives.find? (fun r => r.position == b.position) = some (r.faulted s.injectors[j].owed) := by
  have hac := State.alarmed_comp? (j := j) hc
  rw [State.alarmed_component hc hr, hm, if_pos rfl]
  refine ⟨?_, (s.alarmed j b).drivenAt b.compartment (.halt .additive)
    (c.modifyResult b.position (ComponentResult.faulted s.injectors[j].owed)), ?_, rfl, rfl, rfl, ?_⟩
  · rw [State.driveClose_arms _ hac hd]
    exact congrArg (s.arms.set c.line.arm) (Arm.driven_of_staging hs)
  · have hload := State.driveClose_load (s.alarmed j b) (r := .halt .additive) hac hd
    rw [State.alarmed_load hl, Option.map_some] at hload
    refine (State.comp?_of_load _ hload).trans ?_
    rw [LoadRecord.comp?, LoadRecord.reevaluated_comps]
    refine (LoadRecord.modifyComp_comp? (f := (s.alarmed j b).drivenAt b.compartment (.halt .additive)) (fun _ => rfl) _
      b.compartment).trans ?_
    rw [← State.comp?_of_load _ (State.alarmed_load hl), hac, Option.map_some]
    exact congrArg some (if_pos (State.comp?_compartment _ hc))
  · refine State.skipOwed_find? (fun i hst => ?_)
      ((CompRecord.modifyResult_find? (ComponentResult.faulted_position _) b.position c).trans (congrArg _ hr))
    rw [State.alarmed_get] at hst ⊢
    split at hst
    · exact nomatch hst
    · rename_i hij; rw [if_neg hij]; exact hi i hij

end Component

theorem Injector.strokeOver_eq {x y : Injector} {flows : Bool} (ha : y.assign = x.assign) (hw : y.owed = x.owed)
    (ho : y.output = false) (ht : y.timer = none) : y.strokeOver flows
      = if 0 < x.owed ∧ flows = true then
          { y with output := true, state := .stroking, timer := some x.assign.timeout, owed := x.owed - 1 }
        else { y with output := false, state := .armed, timer := none } := by
  rw [Injector.strokeOver, Injector.startStroke, ha, hw]
  refine if_congr Iff.rfl rfl ?_
  rw [← ho, ← ht]

/-- Settles O56: a confirmed and a missed stroke end the same way, and the third miss is the injector's fault. -/
theorem strokesConfirmedAndMissed : Obligations.StrokesConfirmedAndMissed := by
  intro j s hrun x
  refine ⟨fun on h => by
    rw [exec_injectorFeedback hrun, injectorFeedback_remembered h], fun h => if_neg fun ⟨_, hs, ht⟩ => h.elim (fun h => h hs) fun h => h ht, ?_⟩
  intro b l c hl hb hfound hs flows ended at' alarm
  have hc : s.comp? b.compartment = some c := (State.comp?_of_load s hl).trans hfound
  refine ⟨fun hf ht => ?_, fun ht h2 => ?_, fun ht h2 => ?_⟩
  · have hj : (s.injectors.set j { x with feedback := true })[j] = { x with feedback := true } :=
      (vector_get_set ..).trans (if_pos rfl)
    rw [exec_injectorFeedback hrun, injectorFeedback_confirms hs hf ht, State.confirmStroke_eq (l := l) (b := b) (c := c)
      (s := { s with injectors := s.injectors.set j { x with feedback := true } }) hl ((congrArg Injector.binding hj).trans hb) hc]
    simp only [hj, Vector.set_set]
    have hover := Injector.strokeOver_eq (x := x) (flows := flows) (y := { x with
      feedback := true, output := false, timer := none, consecutive := 0
      total := satAdd (2 ^ 64 - 1) x.total s.cal.stroke[j] }) rfl rfl rfl rfl
    exact congrArg (fun y => Host.Outcome.next (State.startWrite { s with
      load := some (l.modifyComp b.compartment _), injectors := s.injectors.set j y })) hover
  · rw [exec_feedbackTimerExpiry hrun hs ht, State.missStroke_early hl hb hc h2]
    have hover := Injector.strokeOver_eq (x := x) (flows := flows) (y := { x with
      output := false, timer := none, consecutive := x.consecutive + 1 }) rfl rfl rfl rfl
    exact congrArg (fun y => Host.Outcome.next (State.startWrite { s with
      load := some (l.modifyComp b.compartment _), injectors := s.injectors.set j y })) hover
  · obtain ⟨hmeters, hpumps, htells, hinj⟩ := (s.alarmed j b).faultComponent_keeps b
    obtain ⟨u, hu⟩ := State.faultComponent_has_load (State.alarmed_load (j := j) (b := b) hl) b
    have hj := State.alarmed_get (s := s) (j := j) (b := b) j
    rw [if_pos rfl] at hj
    refine ⟨((s.alarmed j b).faultComponent b).startWrite, u, ?_, hu, ?_, fun p hp => ?_, hmeters, hpumps, fun r hr => ⟨?_, ?_, ?_⟩⟩
    · rw [exec_feedbackTimerExpiry hrun hs ht, State.missStroke_third hb h2]; rfl
    · exact (hinj j (by rw [hj]; nofun)).trans hj
    · refine (htells p).subset ?_
      cases p <;> exact PortState.mem_offer hp
    · intro hm
      obtain ⟨hload, harms, hports⟩ := State.alarmed_optional (j := j) hl hc hr hm
      exact ⟨Option.some.inj (hu.symm.trans hload), harms, hports⟩
    · intro hm hd
      have heq := State.alarmed_undrivable (j := j) hc hr hm hd
      rw [heq] at hu ⊢
      exact ⟨Option.some.inj (hu.symm.trans (State.alarmed_load hl)), rfl, rfl⟩
    · intro hm hd hst hi
      obtain ⟨harms, c', hc', hcs, hcr, hcl, hca⟩ := State.alarmed_driven hl hc hr hm hd hst hi
      exact ⟨c', _, (State.comp?_of_load _ hu).symm.trans hc', hcs, hcr, hcl, hca, rfl, harms⟩

end Sys2Proof.Machine
end

section
/-! PROOFS. The pump's feedback and timers: a pump comes to run and starts the settle timers, fails and drives, or stops (O55). -/

namespace Sys2Proof.Machine

variable {s t : State} {r : CloseReason} {n m : Nat}

/-! ### What a drive leaves at other compartments -/

theorem State.driveClose_comp?_of_ne (h : m ≠ n) (r : CloseReason) (t : State) : (t.driveClose n r).comp? m = t.comp? m := by
  by_cases hd : ∃ c, t.comp? n = some c ∧ c.state.isDrivable = true
  · obtain ⟨c, hc, hd⟩ := hd
    obtain ⟨l, hl, -⟩ := State.comp?_eq_some.1 hc
    have hload := State.driveClose_load t (r := r) hc hd
    rw [hl, Option.map_some] at hload
    rw [State.comp?_of_load _ hload, State.comp?_of_load _ hl, LoadRecord.comp?, LoadRecord.reevaluated_comps]
    refine (LoadRecord.modifyComp_comp? (f := t.drivenAt n r) (fun _ => rfl) l m).trans ?_
    cases hm : l.comp? m with
    | none => rfl
    | some d => exact congrArg some (if_neg (by rw [LoadRecord.comp?_compartment hm]; exact h))
  · rw [State.driveClose_of_not_drivable t fun c hc => by
      rw [← Bool.not_eq_true]; exact fun hx => hd ⟨c, hc, hx⟩]

theorem State.driveClose_comp?_self {c : CompRecord} (hc : t.comp? n = some c) (hd : c.state.isDrivable = true)
    (r : CloseReason) : (t.driveClose n r).comp? n = some (t.drivenAt n r c) := by
  obtain ⟨l, hl, hlc⟩ := State.comp?_eq_some.1 hc
  have hload := State.driveClose_load t (r := r) hc hd
  rw [hl, Option.map_some] at hload
  rw [State.comp?_of_load _ hload, LoadRecord.comp?, LoadRecord.reevaluated_comps]
  refine (LoadRecord.modifyComp_comp? (f := t.drivenAt n r) (fun _ => rfl) l n).trans ?_
  rw [hlc, Option.map_some, if_pos (t.comp?_compartment hc)]

/-- A drive keeps the line of every compartment. -/
theorem State.driveClose_lines (n m : Nat) (r : CloseReason) (t : State) :
    ((t.driveClose n r).comp? m).map CompRecord.line = (t.comp? m).map CompRecord.line := by
  by_cases hm : m = n
  · subst hm
    cases hc : t.comp? m with
    | none => rw [State.driveClose_of_not_drivable t (r := r) fun c h => (nomatch hc.symm.trans h), hc]
    | some c =>
      cases hd : c.state.isDrivable with
      | true => rw [State.driveClose_comp?_self hc hd]; rfl
      | false => rw [State.driveClose_of_not_drivable t fun d h => Option.some.inj (hc.symm.trans h) ▸ hd, hc]
  · rw [State.driveClose_comp?_of_ne hm]

/-- A drive leaves an arm, or drives the arm of its compartment. -/
theorem State.driveClose_arm_cases (n : Nat) (r : CloseReason) (a : Fin 4) (t : State) :
    (t.driveClose n r).arms[a] = t.arms[a]
      ∨ (t.driveClose n r).arms[a] = t.arms[a].driven ∧ ∃ c, t.comp? n = some c ∧ c.line.arm = a := by
  by_cases hd : ∃ c, t.comp? n = some c ∧ c.state.isDrivable = true
  · obtain ⟨c, hc, hd⟩ := hd
    rw [State.driveClose_arms t hc hd, vector_get_set]
    split
    · rename_i h; subst h; exact .inr ⟨rfl, c, hc, rfl⟩
    · exact .inl rfl
  · exact .inl (by rw [State.driveClose_of_not_drivable t fun c hc => by
      rw [← Bool.not_eq_true]; exact fun hx => hd ⟨c, hc, hx⟩])

theorem State.driveClose_products (n : Nat) (r : CloseReason) (t : State) : (t.driveClose n r).products = t.products :=
  (State.of_apart (State.driveClose_apart t n r)).2.2.2.2.2.2.2

/-- A drive that reaches its compartment drives that compartment's arm. -/
theorem State.driveClose_drives {a : Fin 4} {c : CompRecord} (hc : t.comp? n = some c) (hd : c.state.isDrivable = true)
    (ha : c.line.arm = a) (r : CloseReason) : (t.driveClose n r).arms[a] = t.arms[a].driven := by
  subst ha
  rw [State.driveClose_arms t hc hd, vector_get_set, if_pos rfl]

/-! ### The drives of a pump's failure (R92) -/

/-- One arm of a failing pump: where it stages on the pump, the compartment that it serves is driven. -/
def State.failArm (p : Fin 4) (t : State) (b : Fin 4) : State :=
  if t.arms[b].state.isStaging && t.armPump b == some p then
    match t.arms[b].served with
    | none => t
    | some n => t.driveClose n (.halt .pump)
  else t

/-- A pump in FAILED (R92). -/
def Pump.failing (k : FailKind) (x : Pump) : Pump :=
  { x with state := .failed, run := false, timer := none, failKind := some k }

/-- The state of a pump's failure before its drives: the pump in FAILED, the failure told. -/
def State.failureTold (p : Fin 4) (k : FailKind) (s : State) : State :=
  (s.modifyPump p (Pump.failing k)).post .pumpFail .pump p.val (w32 k.number)

theorem State.failPump_eq (p : Fin 4) (k : FailKind) (s : State) :
    s.failPump p k = fours.foldl (State.failArm p) (s.failureTold p k) := rfl

theorem State.failArm_cases (p b : Fin 4) (t : State) : State.failArm p t b = t
    ∨ ∃ n, t.arms[b].served = some n ∧ State.failArm p t b = t.driveClose n (.halt .pump) := by
  unfold State.failArm
  split
  · split
    · exact .inl rfl
    · rename_i n hn; exact .inr ⟨n, hn, rfl⟩
  · exact .inl rfl

theorem State.failArm_drives {p b : Fin 4} {c : CompRecord} (hst : t.arms[b].state.isStaging = true)
    (hn : t.arms[b].served = some n) (hc : t.comp? n = some c) (hp : t.products[c.line.product].pump = some p) :
    State.failArm p t b = t.driveClose n (.halt .pump) := by
  have hpump : t.armPump b = some p := by simp only [State.armPump, hn, hc, Option.bind_some, hp]
  have hcond : (t.arms[b].state.isStaging && t.armPump b == some p) = true := by
    rw [hst, hpump]; simp
  rw [State.failArm, if_pos hcond]
  simp only [hn]

theorem State.failArm_still (p b : Fin 4) (t : State) : (State.failArm p t b).still = t.still := by
  obtain h | ⟨n, -, h⟩ := t.failArm_cases p b <;> rw [h]
  exact State.driveClose_still t n _

theorem State.tells_failArm (p b : Fin 4) (t : State) : t.Tells (State.failArm p t b) := by
  obtain h | ⟨n, -, h⟩ := t.failArm_cases p b <;> rw [h]
  · exact .refl t
  · exact State.tells_driveClose t n _

section Failing

variable {p a : Fin 4} {c : CompRecord}

/-- On the way of a pump's failure: arm `a` is driven, or it waits as it was with its compartment still to be driven. -/
def State.ArmToDrive (s : State) (c : CompRecord) (a : Fin 4) (t : State) : Prop :=
  t.arms[a] = s.arms[a].driven
    ∨ (t.arms[a] = s.arms[a] ∧ t.products = s.products
      ∧ ∃ d, t.comp? c.line.compartment = some d ∧ d.state.isDrivable = true ∧ d.line = c.line)

theorem State.ArmToDrive.driveClose (ha : c.line.arm = a) (h : s.ArmToDrive c a t) (n : Nat) (r : CloseReason) :
    s.ArmToDrive c a (t.driveClose n r) := by
  obtain h | ⟨harm, hprod, d, hd, hdr, hdl⟩ := h
  · left
    obtain hk | ⟨hk, -⟩ := t.driveClose_arm_cases n r a <;> rw [hk, h]
    exact Arm.driven_driven _
  · obtain hk | ⟨hk, -⟩ := t.driveClose_arm_cases n r a
    · by_cases hn : c.line.compartment = n
      · subst hn
        left
        rw [State.driveClose_drives hd hdr ((congrArg OrderLine.arm hdl).trans ha), harm]
      · refine .inr ⟨hk.trans harm, (t.driveClose_products n r).trans hprod, d, ?_, hdr, hdl⟩
        rw [State.driveClose_comp?_of_ne hn, hd]
    · exact .inl (hk.trans (by rw [harm]))

/-- The failure of its pump drives a staging arm, whatever was driven before it. -/
theorem State.failArms_drive (ha : c.line.arm = a) (hserved : s.arms[a].served = some c.line.compartment)
    (hstaging : s.arms[a].state.isStaging = true) (hpump : s.products[c.line.product].pump = some p) (as : List (Fin 4))
    (h : s.ArmToDrive c a t) :
    s.ArmToDrive c a (as.foldl (State.failArm p) t) ∧ (a ∈ as → (as.foldl (State.failArm p) t).arms[a] = s.arms[a].driven) := by
  induction as generalizing t with
  | nil => exact ⟨h, fun hm => nomatch hm⟩
  | cons b as ih =>
    have hstep : s.ArmToDrive c a (State.failArm p t b) := by
      obtain hb | ⟨n, -, hb⟩ := t.failArm_cases p b <;> rw [hb]
      · exact h
      · exact h.driveClose ha n _
    obtain ⟨hlast, hin⟩ := ih hstep
    refine ⟨hlast, fun hm => ?_⟩
    obtain rfl | hm := List.mem_cons.1 hm
    · have hdriven : (State.failArm p t a).arms[a] = s.arms[a].driven := by
        obtain hd | ⟨harm, hprod, d, hd, hdr, hdl⟩ := h
        · obtain hd' | ⟨harm', -⟩ := hstep
          · exact hd'
          · obtain hb | ⟨n, -, hb⟩ := t.failArm_cases p a
            · rw [hb]; exact hd
            · rw [hb]
              obtain hk | ⟨hk, -⟩ := t.driveClose_arm_cases n (.halt .pump) a <;> rw [hk, hd]
              exact Arm.driven_driven _
        · rw [State.failArm_drives (by rw [harm]; exact hstaging) (by rw [harm]; exact hserved) hd
            (by simp only [hprod, hdl, hpump]), State.driveClose_drives hd hdr ((congrArg OrderLine.arm hdl).trans ha), harm]
      have rest (as : List (Fin 4)) (t : State) (ht : t.arms[a] = s.arms[a].driven) :
          (as.foldl (State.failArm p) t).arms[a] = s.arms[a].driven := by
        induction as generalizing t with
        | nil => exact ht
        | cons b as ih =>
          refine ih _ ?_
          obtain hb | ⟨n, -, hb⟩ := t.failArm_cases p b <;> rw [hb]
          · exact ht
          · obtain hk | ⟨hk, -⟩ := t.driveClose_arm_cases n (.halt .pump) a <;> rw [hk, ht]
            exact Arm.driven_driven _
      exact rest as _ hdriven
    · exact hin hm

/-- On the way of a pump's failure: the compartment of arm `a` waits as it was, with its arm and its injectors, or it has been
driven once; lines, products and the arms' compartments are those of `s`. -/
structure State.CompToDrive (s : State) (c : CompRecord) (a : Fin 4) (t : State) : Prop where
  served : ∀ b : Fin 4, t.arms[b].served = s.arms[b].served
  lines : ∀ m : Nat, (t.comp? m).map CompRecord.line = (s.comp? m).map CompRecord.line
  products : t.products = s.products
  bound : ∀ j : Fin 8, t.injectors[j].boundTo c.line.compartment = s.injectors[j].boundTo c.line.compartment
  comp : (t.comp? c.line.compartment = some c ∧ t.arms[a] = s.arms[a]
      ∧ ∀ j : Fin 8, s.injectors[j].boundTo c.line.compartment = true → t.injectors[j] = s.injectors[j])
    ∨ t.comp? c.line.compartment = some (s.drivenComp (.halt .pump) c)

theorem State.driveClose_boundTo (n m : Nat) (r : CloseReason) (j : Fin 8) (t : State) :
    (t.driveClose n r).injectors[j].boundTo m = t.injectors[j].boundTo m := by
  obtain h | h := State.driveClose_injector_cases (s := t) (r := r) n j <;> rw [h]
  exact Injector.flowStopped_boundTo _ m

theorem State.driveClose_injector_of_not_bound {j : Fin 8} (h : t.injectors[j].boundTo n = false) (r : CloseReason) :
    (t.driveClose n r).injectors[j] = t.injectors[j] := by
  by_cases hd : ∃ c, t.comp? n = some c ∧ c.state.isDrivable = true
  · obtain ⟨c, hc, hd⟩ := hd
    rw [State.driveClose_injectors t hc hd, h]; rfl
  · rw [State.driveClose_of_not_drivable t fun c hc => by
      rw [← Bool.not_eq_true]; exact fun hx => hd ⟨c, hc, hx⟩]

theorem Injector.boundTo_unique {x : Injector} (h : x.boundTo n = true) (hm : m ≠ n) : x.boundTo m = false := by
  obtain ⟨p, hp⟩ := Injector.boundTo_iff.1 h
  rw [Injector.boundTo_of_binding hp, beq_eq_false_iff_ne]
  exact hm.symm

/-- A drive at another compartment, whose line names another arm, leaves the compartment to drive. -/
theorem State.CompToDrive.other (h : s.CompToDrive c a t) (hn : c.line.compartment ≠ n)
    (hline : ∀ d, s.comp? n = some d → d.line.arm ≠ a) (r : CloseReason) : s.CompToDrive c a (t.driveClose n r) where
  served b := (State.driveClose_served n r t b).trans (h.served b)
  lines m := (t.driveClose_lines n m r).trans (h.lines m)
  products := (t.driveClose_products n r).trans h.products
  bound j := (t.driveClose_boundTo n _ r j).trans (h.bound j)
  comp := by
    rw [State.driveClose_comp?_of_ne hn]
    refine h.comp.imp_left fun ⟨hc, harm, hinj⟩ => ⟨hc, ?_, fun j hj => ?_⟩
    · obtain hk | ⟨-, d, hd, hda⟩ := t.driveClose_arm_cases n r a
      · exact hk.trans harm
      · have hl := h.lines n
        rw [hd] at hl
        obtain ⟨d', hd', he⟩ := Option.map_eq_some_iff.1 hl.symm
        exact absurd ((congrArg OrderLine.arm he).trans hda) (hline d' hd')
    · rw [State.driveClose_injector_of_not_bound (Injector.boundTo_unique ((h.bound j).trans hj) hn.symm), hinj j hj]

/-- A compartment that no drive reaches stays through every drive. -/
theorem State.driveClose_keeps_undrivable {d : CompRecord} (hd : t.comp? m = some d) (hs : d.state.isDrivable = false) (n : Nat)
    (r : CloseReason) : (t.driveClose n r).comp? m = some d := by
  by_cases hn : m = n
  · subst hn
    rw [State.driveClose_of_not_drivable t fun e he => Option.some.inj (hd.symm.trans he) ▸ hs, hd]
  · rw [State.driveClose_comp?_of_ne hn, hd]

/-- The drive of the compartment itself makes of it what it makes in the state before the failure. -/
theorem State.CompToDrive.own (h : s.CompToDrive c a t)
    (hserved : s.arms[a].served = some c.line.compartment) (hstaging : s.arms[a].state.isStaging = true)
    (hpump : s.products[c.line.product].pump = some p) (hd : c.state.isDrivable = true) :
    (State.failArm p t a).comp? c.line.compartment = some (s.drivenComp (.halt .pump) c) := by
  obtain ⟨hc, harm, hinj⟩ | hdriven := h.comp
  · rw [State.failArm_drives (by rw [harm]; exact hstaging) (by rw [harm]; exact hserved) hc (by simp only [h.products, hpump]),
      State.driveClose_comp?_self hc hd]
    simp only [State.drivenAt, State.drivenComp, State.skipOwed_of_bound hinj h.bound]
  · obtain hb | ⟨n, -, hb⟩ := t.failArm_cases p a <;> rw [hb]
    · exact hdriven
    · exact State.driveClose_keeps_undrivable hdriven rfl n _

/-- Where each arm serves compartments of its own line alone, a pump's failure drives a staging arm's compartment once. -/
theorem State.failArms_drive_comp {l : LoadRecord} (hl : s.load = some l) (hs : s.comp? c.line.compartment = some c)
    (ha : c.line.arm = a) (hserved : s.arms[a].served = some c.line.compartment)
    (hstaging : s.arms[a].state.isStaging = true) (hpump : s.products[c.line.product].pump = some p)
    (hd : c.state.isDrivable = true)
    (hown : ∀ (b : Fin 4) (x : CompRecord), x ∈ l.comps → s.arms[b].served = some x.line.compartment → x.line.arm = b)
    (as : List (Fin 4)) (hn : as.Nodup) (hm : a ∈ as) (h : s.CompToDrive c a t) :
    (as.foldl (State.failArm p) t).comp? c.line.compartment = some (s.drivenComp (.halt .pump) c) := by
  have hmem {n : Nat} {d : CompRecord} (hd : s.comp? n = some d) : d ∈ l.comps :=
    List.mem_of_find?_eq_some ((State.comp?_of_load s hl).symm.trans hd)
  have rest (as : List (Fin 4)) (t : State)
      (ht : t.comp? c.line.compartment = some (s.drivenComp (.halt .pump) c)) :
      (as.foldl (State.failArm p) t).comp? c.line.compartment = some (s.drivenComp (.halt .pump) c) := by
    induction as generalizing t with
    | nil => exact ht
    | cons b as ih =>
      refine ih _ ?_
      obtain hb | ⟨n, -, hb⟩ := t.failArm_cases p b <;> rw [hb]
      · exact ht
      · exact State.driveClose_keeps_undrivable ht rfl n _
  induction as generalizing t with
  | nil => exact nomatch hm
  | cons b as ih =>
    obtain ⟨hb, hn⟩ := List.nodup_cons.1 hn
    by_cases hba : b = a
    · subst hba
      exact rest as _ (h.own hserved hstaging hpump hd)
    · refine ih hn ((List.mem_cons.1 hm).resolve_left (Ne.symm hba)) ?_
      obtain hf | ⟨n, hbn, hf⟩ := t.failArm_cases p b <;> rw [hf]
      · exact h
      · have hsn : s.arms[b].served = some n := (h.served b).symm.trans hbn
        refine h.other (fun hcn => hba ?_) (fun d hd hda => hba ?_) _
        · exact (hown b c (hmem hs) (by rw [hsn, hcn])).symm.trans ha
        · exact (hown b d (hmem hd) (by rw [hsn, s.comp?_compartment hd])).symm.trans hda

end Failing

/-! ### The failure of a pump (R92) -/

theorem State.failPump_still (p : Fin 4) (k : FailKind) (s : State) :
    (s.failPump p k).still = (s.modifyPump p (Pump.failing k)).still :=
  foldl_keeps State.still _ (fun t b => State.failArm_still p b t) fours (s.failureTold p k)

theorem State.failPump_pump (p : Fin 4) (k : FailKind) (q : Fin 4) (s : State) :
    (s.failPump p k).pumps[q] = if q = p then s.pumps[p].failing k else s.pumps[q] := by
  rw [State.pumps_of_still (State.failPump_still p k s)]; exact State.modifyPump_get ..

/-- The failure is told (R92). -/
theorem State.failPump_told {q : Port} (p : Fin 4) (k : FailKind) (hq : (s.ports.get q).events.length < 16) :
    ⟨.pumpFail, .pump, p.val, w32 k.number, s.clock.second⟩ ∈ ((s.failPump p k).ports.get q).events := by
  refine (State.Tells.foldl (fun t b => State.tells_failArm p b t) fours
    (s.failureTold p k) q).subset ?_
  cases q <;> exact PortState.mem_offer hq

theorem State.failPump_arm {p a : Fin 4} {l : LoadRecord} {c : CompRecord} (hl : s.load = some l)
    (hc : l.comps.find? (fun x => x.line.compartment == c.line.compartment) = some c)
    (hserved : s.arms[a].served = some c.line.compartment) (ha : c.line.arm = a)
    (hpump : s.products[c.line.product].pump = some p) (hstaging : s.arms[a].state.isStaging = true)
    (hd : c.state.isDrivable = true) (k : FailKind) : (s.failPump p k).arms[a] = s.arms[a].driven :=
  (State.failArms_drive (t := s.failureTold p k) ha hserved hstaging hpump fours
    (.inr ⟨rfl, rfl, c, (State.comp?_of_load s hl).trans hc, hd, rfl⟩)).2 (mem_fours a)

theorem State.failPump_comp {p a : Fin 4} {l : LoadRecord} {c : CompRecord} (hl : s.load = some l)
    (hc : l.comps.find? (fun x => x.line.compartment == c.line.compartment) = some c)
    (hserved : s.arms[a].served = some c.line.compartment) (ha : c.line.arm = a)
    (hpump : s.products[c.line.product].pump = some p) (hstaging : s.arms[a].state.isStaging = true)
    (hd : c.state.isDrivable = true)
    (hown : ∀ (b : Fin 4) (x : CompRecord), x ∈ l.comps → s.arms[b].served = some x.line.compartment → x.line.arm = b)
    (k : FailKind) : (s.failPump p k).comp? c.line.compartment = some (s.drivenComp (.halt .pump) c) := by
  have hs : s.comp? c.line.compartment = some c := (State.comp?_of_load s hl).trans hc
  exact State.failArms_drive_comp (t := s.failureTold p k) hl hs ha hserved hstaging hpump hd hown fours (by decide) (mem_fours a)
    ⟨fun _ => rfl, fun _ => rfl, rfl, fun _ => rfl, .inl ⟨hs, rfl, fun _ _ => rfl⟩⟩

theorem FailKind.number_eq (k : FailKind) : k.number = if k = .start then 0 else 1 := by cases k <;> rfl

/-! ### The settle timers of a pump that comes to run (R73) -/

/-- An arm waits in PRIMING on a pump. -/
def State.waitsOn (p a : Fin 4) (s : State) : Prop :=
  s.arms[a].state = .priming ∧ s.armPump a = some p ∧ s.arms[a].settleTimer = none

/-- One arm of a pump that comes to run: where it waits, its settle timer starts. -/
def State.settleArm (p : Fin 4) (t : State) (b : Fin 4) : State :=
  if t.arms[b].state = .priming ∧ t.armPump b = some p ∧ t.arms[b].settleTimer = none then
    t.startSettle b t.pumps[p].config.settle
  else t

theorem State.startSettles_eq (p : Fin 4) (s : State) : s.startSettles p = fours.foldl (State.settleArm p) s := rfl

/-- With no arm that demands the pump, no settle timer starts. -/
theorem State.startSettles_idle {p : Fin 4} (h : s.demandCount p = 0) : s.startSettles p = s := by
  have hno (a : Fin 4) : ¬ s.waitsOn p a := by
    rintro ⟨hst, hp, -⟩
    have hnil := List.length_eq_zero_iff.1 h
    refine List.filter_eq_nil_iff.1 hnil a (mem_fours a) ?_
    rw [hst, hp]; simp [ArmState.isDemanding]
  have each (as : List (Fin 4)) : as.foldl (State.settleArm p) s = s := by
    induction as with
    | nil => rfl
    | cons a as ih =>
      have hstep : State.settleArm p s a = s := if_neg (hno a)
      rw [List.foldl_cons, hstep, ih]
  exact each fours

theorem State.settleArm_positive {p : Fin 4} (hk : 0 < t.pumps[p].config.settle) (b : Fin 4) :
    State.settleArm p t b = t ∧ ¬ t.waitsOn p b
      ∨ State.settleArm p t b
        = (t.modifyArm b fun x => { x with settleTimer := some (t.pumps[p].config.settle * 1000) }) ∧ t.waitsOn p b := by
  by_cases hw : t.waitsOn p b
  · exact .inr ⟨(if_pos hw).trans (if_neg (by omega)), hw⟩
  · exact .inl ⟨if_neg hw, hw⟩

/-- A positive settle time starts the timer of every arm that waits. -/
theorem State.startSettles_arm {p a : Fin 4} (hk : 0 < s.pumps[p].config.settle) (hw : s.waitsOn p a) :
    (s.startSettles p).arms[a] = { s.arms[a] with settleTimer := some (s.pumps[p].config.settle * 1000) } := by
  have each (as : List (Fin 4)) (t : State) (hp : t.pumps = s.pumps) (hl : t.load = s.load) (hpr : t.products = s.products)
      (h : t.arms[a] = s.arms[a] ∧ a ∈ as
        ∨ t.arms[a] = { s.arms[a] with settleTimer := some (s.pumps[p].config.settle * 1000) }) :
      (as.foldl (State.settleArm p) t).arms[a]
        = { s.arms[a] with settleTimer := some (s.pumps[p].config.settle * 1000) } := by
    induction as generalizing t with
    | nil => exact h.elim (fun h => nomatch h.2) id
    | cons b as ih =>
      obtain ⟨hb, hnot⟩ | ⟨hb, hwb⟩ := State.settleArm_positive (t := t) (by rw [hp]; exact hk) b
      · rw [List.foldl_cons, hb]
        refine ih t hp hl hpr (h.imp_left fun ⟨harm, hm⟩ => ⟨harm, (List.mem_cons.1 hm).resolve_left fun hab => hnot ?_⟩)
        subst hab
        have hpump : t.armPump a = s.armPump a := by simp only [State.armPump, State.comp?, harm, hl, hpr]
        rw [State.waitsOn, harm, hpump]; exact hw
      · rw [List.foldl_cons, hb]
        refine ih _ hp hl hpr ?_
        rw [State.modifyArm_get, hp]
        by_cases hab : a = b
        · subst hab
          obtain ⟨harm, -⟩ | harm := h
          · right; rw [if_pos rfl, harm]
          · obtain ⟨-, -, hnone⟩ := hwb
            rw [harm] at hnone; exact nomatch hnone
        · rw [if_neg hab]
          exact h.imp_left fun ⟨harm, hm⟩ => ⟨harm, (List.mem_cons.1 hm).resolve_left hab⟩
  exact each fours s rfl rfl rfl (.inl ⟨rfl, mem_fours a⟩)

/-! ### The rows -/

theorem exec_pumpFeedback {p : Fin 4} (hrun : s.phase = .running) (on : Bool) :
    exec (.pumpFeedback p on) s = .next (s.pumpFeedback p on).startWrite := by
  have hrow : exec (.pumpFeedback p on) s = execPumpFeedback p on s := rfl
  simp only [hrow, execPumpFeedback, hrun]

theorem State.modifyPump_modifyPump (p : Fin 4) (f g : Pump → Pump) (s : State) :
    (s.modifyPump p f).modifyPump p g = s.modifyPump p (g ∘ f) := by
  simp [State.modifyPump]

theorem Pump.toRunning_of_demand {x : Pump} (h : 0 < x.demand) : x.toRunning = { x with state := .running, timer := none } :=
  if_neg (Nat.pos_iff_ne_zero.1 h)

theorem Pump.toRunning_of_no_demand {x : Pump} (h : x.demand = 0) : x.toRunning
    = if x.config.runOn = 0 then { x with state := .stopped, run := false, timer := none }
      else { x with state := .runOn, timer := some (x.config.runOn * 1000) } := by
  rw [Pump.toRunning]
  refine (if_pos h).trans ?_
  rw [Pump.startRunOn]; rfl

theorem State.modifyPump_pumpRunning_pumps (p : Fin 4) (f : Pump → Pump) (s : State) :
    ((s.modifyPump p f).pumpRunning p).pumps = s.pumps.set p (f s.pumps[p]).toRunning := by
  rw [State.pumpRunning_pumps, State.modifyPump_get_self, State.modifyPump, Vector.set_set]

theorem State.modifyPump_pumpRunning_meters (p : Fin 4) (f : Pump → Pump) (s : State) :
    ((s.modifyPump p f).pumpRunning p).meters = s.meters := by
  have h := State.pumpRunning_offPumps (s.modifyPump p f) p
  rw [State.modifyPump_offPumps] at h
  obtain ⟨-, -, -, -, hapart⟩ := State.of_offPumps h
  exact (State.of_apart hapart).1

theorem State.modifyPump_waitsOn (p : Fin 4) (f : Pump → Pump) (q a : Fin 4) (s : State) :
    (s.modifyPump p f).waitsOn q a ↔ s.waitsOn q a := Iff.rfl

theorem State.pumpRunning_arms (p : Fin 4) (s : State) : (s.pumpRunning p).arms
    = ((s.modifyPump p fun x => { x with state := .running, timer := none }).startSettles p).arms := by
  rw [State.pumpRunning, State.modifyPump_arms]

/-- A pump that comes to run starts the settle timer of an arm that waits on it (R73). -/
theorem State.modifyPump_pumpRunning_arm {p a : Fin 4} (f : Pump → Pump) (hf : (f s.pumps[p]).config = s.pumps[p].config)
    (hk : 0 < s.pumps[p].config.settle) (hw : s.waitsOn p a) : ((s.modifyPump p f).pumpRunning p).arms[a]
      = { s.arms[a] with settleTimer := some (s.pumps[p].config.settle * 1000) } := by
  have hpump : ((s.modifyPump p f).modifyPump p fun x => { x with state := .running, timer := none }).pumps[p].config
      = s.pumps[p].config := by
    rw [State.modifyPump_get_self, State.modifyPump_get_self]; exact hf
  have hwait := (State.modifyPump_waitsOn p (fun x => { x with state := .running, timer := none }) p a (s.modifyPump p f)).2
    ((State.modifyPump_waitsOn p f p a s).2 hw)
  have h := State.startSettles_arm (by rw [hpump]; exact hk) hwait
  rw [hpump] at h
  rw [State.pumpRunning_arms]
  exact h

/-- With nothing that demands it, a pump that comes to run changes alone. -/
theorem State.modifyPump_pumpRunning_idle {p : Fin 4} (f : Pump → Pump) (h : s.demandCount p = 0) :
    (s.modifyPump p f).pumpRunning p = { s with pumps := s.pumps.set p (f s.pumps[p]).toRunning } := by
  have hset := State.startSettles_idle (s := (s.modifyPump p f).modifyPump p fun x => { x with state := .running, timer := none })
    (p := p) h
  rw [State.pumpRunning, hset, State.modifyPump_modifyPump, State.modifyPump_modifyPump]
  rfl

/-- Settles O55: feedback and timers on a pump in each of its states. -/
theorem pumpsStartFailAndStop : Obligations.PumpsStartFailAndStop := by
  intro p s hrun failed
  have fails (s' : State) (k : FailKind) (hp : ∀ q : Fin 4, q ≠ p → s'.pumps[q] = s.pumps[q]) (ha : s'.arms = s.arms)
      (hl : s'.load = s.load) (hpr : s'.products = s.products) (hm : s'.meters = s.meters) (hpo : s'.ports = s.ports)
      (hcl : s'.clock = s.clock) (hi : s'.injectors = s.injectors) : failed k (s'.failPump p k).startWrite := by
    have hpump (q : Fin 4) := State.failPump_pump p k q s'
    have hmeters : (s'.failPump p k).meters = s.meters :=
      (State.of_apart (State.of_still (State.failPump_still p k s')).2.2.2.2.2).1.trans hm
    have htold (q : Port) (hq : (s.ports.get q).events.length < 16) := State.failPump_told (s := s') (q := q) p k
      (by rw [hpo]; exact hq)
    have harm (a : Fin 4) (l : LoadRecord) (c : CompRecord) (hload : s.load = some l) hc (hserved : s.arms[a].served = some _) hca
        (hpump : s.products[c.line.product].pump = some p) (hstaging : s.arms[a].state.isStaging = true) hd :=
      State.failPump_arm (s := s') (a := a) (l := l) (c := c) (hl.trans hload) hc (by rw [ha]; exact hserved) hca
        (by rw [hpr]; exact hpump) (by rw [ha]; exact hstaging) hd k
    have hcomp (a : Fin 4) (l : LoadRecord) (c : CompRecord) (hload : s.load = some l) hc (hserved : s.arms[a].served = some _) hca
        (hpump : s.products[c.line.product].pump = some p) (hstaging : s.arms[a].state.isStaging = true) hd
        (hown : ∀ (b : Fin 4) (x : CompRecord), x ∈ l.comps → s.arms[b].served = some x.line.compartment → x.line.arm = b) :=
      State.failPump_comp (s := s') (a := a) (l := l) (c := c) (hl.trans hload) hc (by rw [ha]; exact hserved) hca
        (by rw [hpr]; exact hpump) (by rw [ha]; exact hstaging) hd (by rw [ha]; exact hown) k
    generalize s'.failPump p k = t at *
    have hself := hpump p
    rw [if_pos rfl] at hself
    refine ⟨congrArg Pump.state hself, congrArg Pump.run hself, congrArg Pump.timer hself, congrArg Pump.failKind hself,
      fun q hq => (hpump q).trans ((if_neg hq).trans (hp q hq)), hmeters, fun q hq => ?_,
      fun a l c hload hc hserved hca hpump hstaging hd => ?_⟩
    · have h := htold q hq
      rw [FailKind.number_eq, hcl] at h
      exact h
    · have harm := harm a l c hload hc hserved hca hpump hstaging hd
      rw [ha, Arm.driven_of_staging hstaging] at harm
      refine ⟨congrArg Arm.state harm, congrArg Arm.valve harm, congrArg Arm.settleTimer harm, fun hown => ?_⟩
      obtain ⟨u, hu, hfound⟩ := State.comp?_eq_some.1 (hcomp a l c hload hc hserved hca hpump hstaging hd hown)
      refine ⟨u, hu, hfound.trans (congrArg some ?_)⟩
      simp only [State.drivenComp, State.skipOwed_congr s hi]
  refine ⟨fun hst hd => ?_, fun hst hd hcount => ?_, fun hst => ?_, fun on hst => ?_, fun hst ht => ?_, fun ht => ⟨?_, ?_⟩,
    fun hst ht => ?_⟩
  · have hfeed : s.pumpFeedback p true = (s.modifyPump p fun x => { x with feedback := true }).pumpRunning p := by
      unfold State.pumpFeedback; simp only [hst]
    refine ⟨(s.pumpFeedback p true).startWrite, exec_pumpFeedback hrun true, ?_, ?_, fun a l c hl hc hserved hpump hprim hset hpos =>
      ?_⟩
    · rw [State.startWrite_pumps, hfeed]
      exact (State.modifyPump_pumpRunning_pumps p _ s).trans (congrArg (s.pumps.set p) (Pump.toRunning_of_demand hd))
    · rw [State.startWrite_meters, hfeed]
      exact State.modifyPump_pumpRunning_meters p _ s
    · rw [State.startWrite_arms, hfeed]
      have hcomp : s.comp? c.line.compartment = some c := (State.comp?_of_load s hl).trans hc
      exact State.modifyPump_pumpRunning_arm _ rfl hpos
        ⟨hprim, by simp only [State.armPump, hserved, hcomp, Option.bind_some, hpump], hset⟩
  · have hfeed : s.pumpFeedback p true = (s.modifyPump p fun x => { x with feedback := true }).pumpRunning p := by
      unfold State.pumpFeedback; simp only [hst]
    rw [exec_pumpFeedback hrun, hfeed, State.modifyPump_pumpRunning_idle _ hcount]
    exact congrArg (fun y => Host.Outcome.next (State.startWrite { s with pumps := s.pumps.set p y }))
      (Pump.toRunning_of_no_demand (x := { s.pumps[p] with feedback := true }) hd)
  · have hfeed : s.pumpFeedback p false = (s.modifyPump p fun x => { x with feedback := false }).failPump p .lost := by
      unfold State.pumpFeedback; obtain hst | hst := hst <;> simp only [hst]
    refine ⟨(s.pumpFeedback p false).startWrite, exec_pumpFeedback hrun false, ?_⟩
    refine ⟨?_, ?_⟩
    · rw [hfeed]
      exact fails (s.modifyPump p fun x => { x with feedback := false }) .lost
        (fun q hq => (State.modifyPump_get ..).trans (if_neg hq)) rfl rfl rfl rfl rfl rfl rfl
    · rw [State.startWrite_pumps, hfeed]
      have h := State.failPump_pump p .lost p (s.modifyPump p fun x => { x with feedback := false })
      rw [if_pos rfl, State.modifyPump_get_self] at h
      exact congrArg Pump.feedback h
  · have hfeed : s.pumpFeedback p on = s.modifyPump p fun x => { x with feedback := on } := by
      unfold State.pumpFeedback; obtain hst | hst := hst <;> simp only [hst]
    rw [exec_pumpFeedback hrun, hfeed]; rfl
  · refine ⟨(s.failPump p .start).startWrite, if_pos ⟨?_, hst, ht⟩, fails s .start (fun _ _ => rfl) rfl rfl rfl rfl rfl rfl rfl⟩
    rw [State.timersRun, hrun]; rfl
  · exact if_neg fun ⟨_, _, h⟩ => ht h
  · exact if_neg fun ⟨_, _, h⟩ => ht h
  · refine if_pos ⟨?_, hst, ht⟩
    rw [State.timersRun, hrun]; rfl

end Sys2Proof.Machine
end

section
/-! PROOFS. A compartment that is DONE, and the load that enters CLOSING once every compartment is. -/

namespace Sys2Proof.Machine

variable {s t : State} {l : LoadRecord} {n m : Nat} {c : CompRecord} {f : CompRecord → CompRecord}

/-! ### What the changes of a load leave alone -/

theorem State.evalLoad_eq (s : State) : s.evalLoad = { s with load := s.evalLoad.load, ports := s.evalLoad.ports } := by
  unfold State.evalLoad; (repeat' split) <;> rfl

theorem State.evalComps_eq (s : State) : s.evalComps = { s with load := s.evalComps.load, ports := s.evalComps.ports } := by
  unfold State.evalComps
  split
  · rfl
  · exact s.evalLoad_eq

theorem State.compChanged_eq (n : Nat) (s : State) : s.compChanged n = { s with
    load := (s.compChanged n).load, ports := (s.compChanged n).ports, queue := (s.compChanged n).queue
    backlog := (s.compChanged n).backlog, imageOwed := (s.compChanged n).imageOwed } := by
  unfold State.compChanged
  split
  · rfl
  · rw [State.imagePoint_eq, State.evalComps_eq]; rfl

theorem State.callCheckpoint_eq (s : State) : s.callCheckpoint = { s with
    queue := s.callCheckpoint.queue, checkpointOwed := s.callCheckpoint.checkpointOwed } := by
  unfold State.callCheckpoint State.mapWaiting; (repeat' split) <;> rfl

theorem State.postCause_eq (e : EventCode) (k : Cause) (s : State) :
    s.postCause e k = { s with ports := (s.postCause e k).ports } := by
  unfold State.postCause; split <;> rfl

theorem State.removeCause_eq (k : Cause) (s : State) : s.removeCause k = { s with
    load := (s.removeCause k).load, ports := (s.removeCause k).ports, queue := (s.removeCause k).queue
    backlog := (s.removeCause k).backlog, imageOwed := (s.removeCause k).imageOwed } := by
  unfold State.removeCause
  (repeat' split)
  · rfl
  · rw [State.evalLoad_eq, State.imagePoint_eq, State.postCause_eq]; rfl
  · rfl

theorem State.enterClosing_eq (s : State) : s.enterClosing = { s with
    load := s.enterClosing.load, ports := s.enterClosing.ports, queue := s.enterClosing.queue
    backlog := s.enterClosing.backlog, imageOwed := s.enterClosing.imageOwed, safety := s.safety.endLoad } := by
  unfold State.enterClosing
  rw [State.removeCause_eq, State.imagePoint_eq]; rfl

/-! ### The entry into CLOSING (R17, R119) -/

/-- The load record in CLOSING, without the cause PERMISSIVE. -/
def LoadRecord.entered (l : LoadRecord) : LoadRecord :=
  { l with state := .closing, causes := l.causes.put false .permissive }

theorem State.enterClosing_load (hl : s.load = some l) : s.enterClosing.load = some l.entered := by
  have h1 : ((s.modifyLoad fun l => { l with state := .closing }).post .loadState .none 0
      (w32 LoadState.closing.number)).imagePoint.load = some { l with state := .closing } := by
    rw [State.imagePoint_load]
    show s.load.map _ = _
    rw [hl]; rfl
  show (State.removeCause .permissive _).load = _
  unfold State.removeCause
  simp only [h1]
  split
  · rename_i h
    have h2 : ((((s.modifyLoad fun l => { l with state := .closing }).post .loadState .none 0
        (w32 LoadState.closing.number)).imagePoint.modifyLoad fun l => { l with causes := l.causes.put false .permissive }).postCause
          .causeCleared .permissive).imagePoint.load = some l.entered := by
      rw [State.imagePoint_load, postCause_load]
      show Option.map _ (State.imagePoint _).load = _
      rw [h1]; rfl
    rw [State.evalLoad_load_eq _ h2, LoadRecord.evaluated_of_closing rfl]; rfl
  · rename_i h
    rw [h1]
    have hc : l.causes.permissive = false := by simpa [CauseSet.has] using h
    have hput : l.causes.put false .permissive = l.causes := by
      show { l.causes with permissive := false } = l.causes
      rw [← hc]
    rw [LoadRecord.entered, hput]

/-! ### Every compartment DONE -/

theorem State.closeIfDone_of_waiting (hl : s.load = some l) (h : ∃ c ∈ l.comps, c.state ≠ .done) : s.closeIfDone = s := by
  have hall : ¬ (l.comps.all fun c => c.state == .done) = true := by
    obtain ⟨c, hc, hs⟩ := h
    rw [List.all_eq_true]
    exact fun hall => hs (beq_iff_eq.1 (hall c hc))
  simp only [State.closeIfDone, hl]
  exact if_neg hall

theorem State.closeIfDone_of_done (hl : s.load = some l) (h : ∀ c ∈ l.comps, c.state = .done) : s.closeIfDone
    = if l.closeTime.isSome then (if l.state = .closing then s else s.enterClosing)
      else (if l.state = .closing then s else s.enterClosing).handOff := by
  have hall : (l.comps.all fun c => c.state == .done) = true :=
    List.all_eq_true.2 fun c hc => beq_iff_eq.2 (h c hc)
  simp only [State.closeIfDone, hl]
  exact if_pos hall

/-- Once every compartment is DONE the load stands in CLOSING with a close time, its compartments as they were. -/
theorem State.closeIfDone_closes (hl : s.load = some l) (h : ∀ c ∈ l.comps, c.state = .done) :
    ∃ u, s.closeIfDone.load = some u ∧ u.state = .closing ∧ u.closeTime.isSome = true ∧ u.comps = l.comps := by
  rw [State.closeIfDone_of_done hl h]
  by_cases hc : l.state = .closing
  · rw [if_pos hc]
    split
    · rename_i ht; exact ⟨l, hl, hc, ht, rfl⟩
    · exact ⟨_, State.handOff_load hl, hc, rfl, rfl⟩
  · rw [if_neg hc]
    split
    · rename_i ht; exact ⟨_, State.enterClosing_load hl, rfl, ht, rfl⟩
    · exact ⟨_, State.handOff_load (State.enterClosing_load hl), rfl, rfl, rfl⟩

/-- The load record after `closeIfDone`: closed once every compartment is DONE, and as it was before. -/
theorem State.closeIfDone_load (hl : s.load = some l) : ∃ u, s.closeIfDone.load = some u ∧ u.comps = l.comps
    ∧ ((∀ c ∈ l.comps, c.state = .done) → u.state = .closing ∧ u.closeTime.isSome = true)
    ∧ ((∃ c ∈ l.comps, c.state ≠ .done) → u = l) := by
  by_cases h : ∀ c ∈ l.comps, c.state = .done
  · obtain ⟨u, hu, hs, ht, hc⟩ := State.closeIfDone_closes hl h
    exact ⟨u, hu, hc, fun _ => ⟨hs, ht⟩, fun ⟨c, hc, hn⟩ => absurd (h c hc) hn⟩
  · push Not at h
    exact ⟨l, by rw [State.closeIfDone_of_waiting hl h]; exact hl, rfl,
      fun hall => let ⟨c, hc, hn⟩ := h; absurd (hall c hc) hn, fun _ => rfl⟩

theorem State.closeIfDone_comp? (m : Nat) (s : State) : s.closeIfDone.comp? m = s.comp? m := by
  cases hl : s.load with
  | none =>
    have h : s.closeIfDone = s := by simp only [State.closeIfDone, hl]
    rw [h]
  | some l =>
    obtain ⟨u, hu, hcomps, -⟩ := State.closeIfDone_load hl
    rw [State.comp?_of_load _ hu, State.comp?_of_load _ hl, LoadRecord.comp?, hcomps]; rfl

/-- What the close of a load leaves alone. -/
theorem State.closeIfDone_eq (s : State) : s.closeIfDone = { s with
    load := s.closeIfDone.load, ports := s.closeIfDone.ports, queue := s.closeIfDone.queue
    backlog := s.closeIfDone.backlog, imageOwed := s.closeIfDone.imageOwed, safety := s.closeIfDone.safety
    permits := s.closeIfDone.permits, chargeOwed := s.closeIfDone.chargeOwed, slots := s.closeIfDone.slots } := by
  unfold State.closeIfDone
  split
  · rfl
  · dsimp only
    (repeat' split)
    · rfl
    · rw [State.enterClosing_eq]
    · rw [State.handOff_eq]
    · rw [State.handOff_eq, State.enterClosing_eq]
    · rfl

theorem State.closeIfDone_injectors (s : State) : s.closeIfDone.injectors = s.injectors := by rw [State.closeIfDone_eq]

/-! ### A compartment that is DONE (R112, R113) -/

/-- A compartment at DONE, its record changed by `f`: its injectors' strokes and debts counted, its results judged. -/
def State.doneAt (n : Nat) (f : CompRecord → CompRecord) (s : State) (c : CompRecord) : CompRecord :=
  { f c with state := .done, additives := (s.countReleased n (f c).additives).map (·.judged (f c).gross) }

/-- The state in which a compartment's DONE is posted. -/
def State.atDone (n : Nat) (f : CompRecord → CompRecord) (s : State) : State :=
  { s.modifyComp n (s.doneAt n f) with
    injectors := (s.mapInjectors fun x => if x.boundTo n then x.released else x).injectors }

theorem State.compDone_eq (hf : ∀ c, (f c).line.compartment = c.line.compartment) (s : State) :
    s.compDone n f = ((s.atDone n f).compChanged n).callCheckpoint := by
  have hdone : ∀ c, ({ f c with state := .done } : CompRecord).line.compartment = c.line.compartment := hf
  rw [State.compDone, State.releaseInjectors_eq]
  congr 2
  have h1 := State.modifyComp_modifyComp s n (fun c => { f c with state := .done })
    (fun c : CompRecord => { c with additives := s.countReleased n c.additives }) hdone
  have h2 := State.modifyComp_modifyComp s n ((fun c : CompRecord => { c with additives := s.countReleased n c.additives })
    ∘ fun c : CompRecord => { f c with state := .done }) CompRecord.judged hdone
  show ({ ((s.modifyComp n fun c => { f c with state := .done }).modifyComp n fun c =>
      { c with additives := s.countReleased n c.additives }).modifyComp n CompRecord.judged with
    injectors := (s.mapInjectors fun x => if x.boundTo n then x.released else x).injectors } : State) = _
  rw [h1, h2]; rfl

section Done

variable (hf : ∀ c, (f c).line.compartment = c.line.compartment) (hc : s.comp? n = some c)

theorem State.doneAt_compartment (d : CompRecord) :
    (s.doneAt n f d).line.compartment = (f d).line.compartment := rfl

include hf

theorem State.atDone_comp? (hc : s.comp? n = some c) : (s.atDone n f).comp? n = some (s.doneAt n f c) := by
  have h := State.modifyComp_comp? s (n := n) (f := s.doneAt n f) hf n
  rw [hc, Option.map_some, if_pos (s.comp?_compartment hc)] at h
  exact h

theorem State.compDone_injectors :
    (s.compDone n f).injectors = (s.mapInjectors fun x => if x.boundTo n then x.released else x).injectors := by
  rw [State.compDone_eq hf, State.callCheckpoint_injectors, State.compChanged_injectors]; rfl

theorem State.injectorsAtDone_compDone : s.InjectorsAtDone n (s.compDone n f) :=
  State.injectorsAtDone_of (State.compDone_injectors hf)

include hc

theorem State.compDone_load : (s.compDone n f).load = s.load.map fun l => (l.modifyComp n (s.doneAt n f)).reevaluated := by
  rw [State.compDone_eq hf, State.callCheckpoint_load, State.compChanged_load _ (State.atDone_comp? hf hc)]
  exact Option.map_map ..

theorem State.compDone_comp?_self : (s.compDone n f).comp? n = some (s.doneAt n f c) := by
  obtain ⟨l, hl, hlc⟩ := State.comp?_eq_some.1 hc
  have hload := State.compDone_load hf hc
  rw [hl, Option.map_some] at hload
  rw [State.comp?_of_load _ hload, LoadRecord.comp?, LoadRecord.reevaluated_comps]
  refine (LoadRecord.modifyComp_comp? (f := s.doneAt n f) hf l n).trans ?_
  rw [hlc, Option.map_some, if_pos (s.comp?_compartment hc)]

end Done

/-- What the DONE of a compartment leaves alone. -/
theorem State.compDone_eq_frame (hf : ∀ c, (f c).line.compartment = c.line.compartment) (s : State) : s.compDone n f = { s with
    load := (s.compDone n f).load, ports := (s.compDone n f).ports, queue := (s.compDone n f).queue
    backlog := (s.compDone n f).backlog, imageOwed := (s.compDone n f).imageOwed
    checkpointOwed := (s.compDone n f).checkpointOwed, injectors := (s.compDone n f).injectors } := by
  rw [State.compDone_eq hf, State.callCheckpoint_eq, State.compChanged_eq]; rfl

theorem State.compDone_still (hf : ∀ c, (f c).line.compartment = c.line.compartment) (s : State) :
    (s.compDone n f).still = s.still := by
  rw [State.compDone_eq hf, State.callCheckpoint_still, State.compChanged_still]; rfl

theorem State.tells_compDone (hf : ∀ c, (f c).line.compartment = c.line.compartment) (s : State) : s.Tells (s.compDone n f) := by
  rw [State.compDone_eq hf]
  exact (State.tells_compChanged (s.atDone n f) n).trans (.of_ports (State.callCheckpoint_ports _))

/-- The results of a compartment at DONE, in the terms of R112 and R113. -/
theorem State.resultsAtDone_doneAt (hf : (f c).additives = c.additives) (hg : (f c).gross = c.gross)
    (hn : c.line.compartment = n) : s.ResultsAtDone c (s.doneAt n f c) := by
  subst hn
  have hlist : (s.doneAt c.line.compartment f c).additives
      = c.additives.map fun r => (r.count (boundSum eights Injector.cutMissed s.injectors ⟨c.line.compartment, r.position⟩)
          (boundSum eights Injector.owed s.injectors ⟨c.line.compartment, r.position⟩)).judged c.gross := by
    show (List.map _ (countedAt _ _ _ _ (f c).additives)) = _
    rw [hf, hg, countedAt, List.map_map]; rfl
  refine ⟨by rw [hlist, List.length_map], fun k r hr => ⟨(r.count (boundSum eights Injector.cutMissed s.injectors
    ⟨c.line.compartment, r.position⟩) (boundSum eights Injector.owed s.injectors ⟨c.line.compartment, r.position⟩)).judged c.gross,
    by rw [hlist, List.getElem?_map, hr]; rfl, ?_⟩⟩
  have h := ComponentResult.judgedTo_count c.gross (boundSum eights Injector.cutMissed s.injectors ⟨c.line.compartment, r.position⟩)
    (boundSum eights Injector.owed s.injectors ⟨c.line.compartment, r.position⟩) r
  rw [boundSum_cutMissed] at h ⊢
  exact h

end Sys2Proof.Machine
end

section
/-! PROOFS. ORDER-AMEND on a queued order and on every compartment state of the open load (O27). -/

namespace Sys2Proof.Machine

variable {s : State} {l : LoadRecord} {c : CompRecord} {number compartment preset : Nat}

theorem ownOrderAmend_out_of_range (h : preset < 1 ∨ 50000 < preset) :
    ownOrderAmend number compartment preset s = refuse .badArgument s := if_pos h

section InRange

variable (hlow : 1 ≤ preset) (hhigh : preset ≤ 50000)

include hlow hhigh

theorem ownOrderAmend_queued {o : Order} (ho : (s.orders.find? fun o => o.number == number) = some o) :
    ownOrderAmend number compartment preset s
      = if o.lines.any fun l => l.compartment == compartment then
          reply .ok .none
            { s with orders := s.orders.map fun x => if x.number = number then x.amended compartment preset else x }
        else refuse .notFound s := by
  rw [ownOrderAmend, if_neg (by omega)]
  simp only [ho]

theorem ownOrderAmend_unknown (ho : ∀ o ∈ s.orders, o.number ≠ number)
    (hl : ∀ l, s.load = some l → l.number ≠ number) : ownOrderAmend number compartment preset s = refuse .notFound s := by
  have hnone : (s.orders.find? fun o => o.number == number) = none :=
    List.find?_eq_none.2 fun o hmem => by rw [beq_iff_eq]; exact ho o hmem
  have hload : s.loadNumber? ≠ some number := fun h => by
    obtain ⟨l, hl', hn⟩ := Option.map_eq_some_iff.1 h
    exact hl l hl' hn
  rw [ownOrderAmend, if_neg (by omega)]
  simp only [hnone]
  exact if_neg hload

theorem ownOrderAmend_no_line (ho : ∀ o ∈ s.orders, o.number ≠ number) (hc : s.comp? compartment = none) :
    ownOrderAmend number compartment preset s = refuse .notFound s := by
  have hnone : (s.orders.find? fun o => o.number == number) = none :=
    List.find?_eq_none.2 fun o hmem => by rw [beq_iff_eq]; exact ho o hmem
  rw [ownOrderAmend, if_neg (by omega)]
  simp only [hnone, hc]
  exact ite_self _

theorem ownOrderAmend_open (ho : ∀ o ∈ s.orders, o.number ≠ number) (hl : s.load = some l) (hn : l.number = number)
    (hc : s.comp? compartment = some c) : ownOrderAmend number compartment preset s = s.amendLoad c preset := by
  have hnone : (s.orders.find? fun o => o.number == number) = none :=
    List.find?_eq_none.2 fun o hmem => by rw [beq_iff_eq]; exact ho o hmem
  have hload : s.loadNumber? = some number := by rw [State.loadNumber?, hl, ← hn]; rfl
  rw [ownOrderAmend, if_neg (by omega)]
  simp only [hnone, hc]
  exact if_pos hload

end InRange

/-! ### The open load (R9) -/

/-- The preset of a compartment replaced, an image point. -/
def State.presetReplaced (n preset : Nat) (s : State) : State := (s.modifyComp n (CompRecord.withPreset preset)).imagePoint

theorem State.amendLoad_pending (h : c.state = .pending) : s.amendLoad c preset
    = reply .ok .none (s.presetReplaced c.line.compartment preset) := by
  unfold State.amendLoad; simp only [h]; rfl

theorem State.amendLoad_above (h : c.state = .starting ∨ c.state = .lowStart ∨ c.state = .full ∨ c.state = .slowdown
      ∨ c.state = .halted) (ha : c.delivered + s.arms[c.line.arm].config.ant < preset * 1000) :
    s.amendLoad c preset = reply .ok .none (s.presetReplaced c.line.compartment preset) := by
  unfold State.amendLoad
  obtain h | h | h | h | h := h <;> simp only [h, ha, decide_true, if_true] <;> rfl

theorem State.amendLoad_started (h : c.state = .starting ∨ c.state = .lowStart ∨ c.state = .full ∨ c.state = .slowdown)
    (ha : preset * 1000 ≤ c.delivered + s.arms[c.line.arm].config.ant) : s.amendLoad c preset
      = reply .clamped (.amendJudged c.delivered s.arms[c.line.arm].config.ant)
        ((s.modifyComp c.line.compartment (CompRecord.clampedTo preset)).driveClose c.line.compartment .amend) := by
  unfold State.amendLoad
  obtain h | h | h | h := h <;>
    simp only [h, Nat.not_lt.2 ha, decide_false, Bool.false_eq_true, if_false]

theorem State.amendLoad_halted (h : c.state = .halted)
    (ha : preset * 1000 ≤ c.delivered + s.arms[c.line.arm].config.ant) : s.amendLoad c preset
      = reply .clamped (.amendJudged c.delivered s.arms[c.line.arm].config.ant)
        (s.compDone c.line.compartment (CompRecord.clampedTo preset)).closeIfDone := by
  unfold State.amendLoad
  simp only [h, Nat.not_lt.2 ha, decide_false, Bool.false_eq_true, if_false]

theorem State.amendLoad_late (h : c.state = .closing ∨ c.state = .done) : s.amendLoad c preset = refuse .state s := by
  unfold State.amendLoad
  obtain h | h := h <;> simp only [h]

theorem CompRecord.clampedTo_compartment (preset : Nat) (c : CompRecord) :
    (c.clampedTo preset).line.compartment = c.line.compartment := rfl

/-- A HALTED compartment whose preset falls to what it has is DONE, and closes the load where it was the last. -/
theorem State.halted_clamped {t : State} (hl : s.load = some l) (hc : s.comp? compartment = some c)
    (ht : (s.compDone compartment (CompRecord.clampedTo preset)).closeIfDone = t) :
    ∃ u c', t.load = some u ∧ u.comps.find? (fun x => x.line.compartment == compartment) = some c'
      ∧ c' = { c with
          state := .done, line := { c.line with preset }, flags := { c.flags with amended := true }
          additives := c'.additives }
      ∧ s.ResultsAtDone c c' ∧ s.InjectorsAtDone compartment t
      ∧ (∀ x ∈ l.comps, x.line.compartment ≠ compartment → x ∈ u.comps)
      ∧ ((∀ x ∈ l.comps, x.line.compartment ≠ compartment → x.state = .done) → u.state = .closing
        ∧ u.closeTime.isSome = true)
      ∧ ((∃ x ∈ l.comps, x.line.compartment ≠ compartment ∧ x.state ≠ .done) → u.closeTime = l.closeTime)
      ∧ t.meters = s.meters ∧ t.arms = s.arms ∧ t.orders = s.orders := by
  have hload := State.compDone_load (CompRecord.clampedTo_compartment preset) hc
  have hself := State.compDone_comp?_self (CompRecord.clampedTo_compartment preset) hc
  have hinj := State.injectorsAtDone_compDone (s := s) (n := compartment) (CompRecord.clampedTo_compartment preset)
  rw [hl, Option.map_some] at hload
  rw [State.comp?_of_load _ hload] at hself
  obtain ⟨u, hu, hcomps, hdone, hwait⟩ := State.closeIfDone_load hload
  obtain ⟨st, hst⟩ := LoadRecord.reevaluated_with_state (l.modifyComp compartment (s.doneAt compartment (CompRecord.clampedTo preset)))
  rw [LoadRecord.reevaluated_comps] at hcomps hdone hwait
  have hkeep : t.arms = s.arms ∧ t.injectors = (s.compDone compartment (CompRecord.clampedTo preset)).injectors
      ∧ t.apart = s.apart := by
    rw [← ht]
    exact ⟨(State.closeIfDone_arms _).trans (State.compDone_arms ..), State.closeIfDone_injectors _,
      (State.closeIfDone_apart _).trans (State.compDone_apart ..)⟩
  rw [ht] at hu
  obtain ⟨harms, hinjectors, hapart⟩ := hkeep
  obtain ⟨hmeters, -, horders, -⟩ := State.of_apart hapart
  refine ⟨u, s.doneAt compartment (CompRecord.clampedTo preset) c, hu, ?_, rfl,
    State.resultsAtDone_doneAt rfl rfl (s.comp?_compartment hc), ?_, fun x hx hn => ?_, fun h => hdone ?_, fun h => ?_, hmeters,
    harms, horders⟩
  · rw [hcomps, ← LoadRecord.reevaluated_comps]; exact hself
  · intro j; rw [hinjectors]; exact hinj j
  · rw [hcomps]
    exact List.mem_map.2 ⟨x, hx, if_neg hn⟩
  · intro y hy
    obtain ⟨x, hx, rfl⟩ := List.mem_map.1 hy
    split
    · rfl
    · rename_i hn; exact h x hx hn
  · obtain ⟨x, hx, hn, hs⟩ := h
    have hmem : x ∈ (l.modifyComp compartment (s.doneAt compartment (CompRecord.clampedTo preset))).comps :=
      List.mem_map.2 ⟨x, hx, if_neg hn⟩
    rw [hwait ⟨x, hmem, hs⟩, hst]; rfl

/-- Settles O27: the checks of ORDER-AMEND, and a preset taken or clamped in each compartment state. -/
theorem presetAmended : Obligations.PresetAmended := by
  intro g body tail number compartment preset s hrun w refused
  refine ⟨fun h => exec_answers rfl rfl hrun rfl (ownOrderAmend_out_of_range h), fun hlow hhigh => ⟨fun ho hl =>
    exec_answers rfl rfl hrun rfl (ownOrderAmend_unknown (s := s.seen .orderAmend w) hlow hhigh ho hl), fun o ho => ?_, ?_⟩⟩
  · have hown := ownOrderAmend_queued (s := s.seen .orderAmend w) (compartment := compartment) hlow hhigh ho
    refine ⟨fun hn => ?_, fun l hm hlc => ?_⟩
    · refine exec_answers rfl rfl hrun rfl (hown.trans (if_neg ?_))
      rw [List.any_eq_true]
      rintro ⟨l, hm, hlc⟩
      exact hn l hm (beq_iff_eq.1 hlc)
    · refine exec_answers rfl rfl hrun rfl (hown.trans (if_pos ?_))
      rw [List.any_eq_true]
      exact ⟨l, hm, beq_iff_eq.2 hlc⟩
  · intro l hl hnum ho
    refine ⟨fun hn => exec_answers rfl rfl hrun rfl (ownOrderAmend_no_line (s := s.seen .orderAmend w) hlow hhigh ho
      ((State.comp?_of_load _ hl).trans (LoadRecord.comp?_eq_none hn))), ?_⟩
    intro c hfound ant replaced
    have hc : (s.seen .orderAmend w).comp? compartment = some c := (State.comp?_of_load _ hl).trans hfound
    have hcn := State.comp?_compartment _ hc
    have hown := ownOrderAmend_open (preset := preset) (s := s.seen .orderAmend w) hlow hhigh ho hl hnum hc
    subst hcn
    refine ⟨fun hs => ?_, fun hs ha => ?_, fun hs ha => ?_, fun hs ha => ?_, fun hs => ?_⟩
    · exact exec_answers rfl rfl hrun rfl (hown.trans (State.amendLoad_pending hs))
    · exact exec_answers rfl rfl hrun rfl (hown.trans (State.amendLoad_above hs ha))
    · exact exec_answers rfl rfl hrun rfl (hown.trans (State.amendLoad_started hs ha))
    · obtain ⟨u, c', hfacts⟩ := State.halted_clamped (s := s.seen .orderAmend w) (preset := preset) hl hc rfl
      exact ⟨_, u, c', exec_answers rfl rfl hrun rfl (hown.trans (State.amendLoad_halted hs ha)), hfacts⟩
    · exact exec_answers rfl rfl hrun rfl (hown.trans (State.amendLoad_late hs))

end Sys2Proof.Machine
end

section
/-! PROOFS. What the settle timers and the recount of the pumps' demand can do: arms in PRIMING move on, pumps change, and what no
arm in PRIMING serves stays as it was. -/

namespace Sys2Proof.Machine

variable {s t u : State} {l : LoadRecord} {n m : Nat}

theorem State.compChanged_comp? (n m : Nat) (s : State) : (s.compChanged n).comp? m = s.comp? m := by
  cases hc : s.comp? n with
  | none => rw [State.compChanged_of_none s hc]
  | some c =>
    obtain ⟨l, hl, -⟩ := State.comp?_eq_some.1 hc
    have hload := State.compChanged_load s hc
    rw [hl, Option.map_some] at hload
    rw [State.comp?_of_load _ hload, State.comp?_of_load _ hl, LoadRecord.comp?, LoadRecord.reevaluated_comps]; rfl

theorem State.modifyComp_comp?_of_ne {f : CompRecord → CompRecord} (hf : ∀ c, (f c).line.compartment = c.line.compartment)
    (h : m ≠ n) (s : State) : (s.modifyComp n f).comp? m = s.comp? m := by
  rw [State.modifyComp_comp? s hf m]
  cases hc : s.comp? m with
  | none => rfl
  | some c => exact congrArg some (if_neg (by rw [s.comp?_compartment hc]; exact h))

/-- From `s` to `t` pumps have changed and arms in PRIMING have started or ended their settle timers, and nothing else: every other
arm, every compartment that no arm in PRIMING serves, every injector and what lies apart stand as they were. -/
structure State.Settles (s t : State) : Prop where
  arms : ∀ b : Fin 4, s.arms[b].state ≠ .priming → t.arms[b] = s.arms[b]
  served : ∀ b : Fin 4, t.arms[b].served = s.arms[b].served
  priming : ∀ b : Fin 4, t.arms[b].state = .priming → s.arms[b].state = .priming
  comps : ∀ n : Nat, (∀ b : Fin 4, s.arms[b].state = .priming → s.arms[b].served ≠ some n) → t.comp? n = s.comp? n
  load : t.load.isSome = s.load.isSome
  injectors : t.injectors = s.injectors
  offPumps : t.offPumps = s.offPumps
  tells : s.Tells t

theorem State.Settles.refl (s : State) : s.Settles s :=
  ⟨fun _ _ => rfl, fun _ => rfl, fun _ => id, fun _ _ => rfl, rfl, rfl, rfl, .refl s⟩

theorem State.Settles.trans (h : s.Settles t) (h' : t.Settles u) : s.Settles u where
  arms b hb := (h'.arms b fun ht => hb (h.priming b ht)).trans (h.arms b hb)
  served b := (h'.served b).trans (h.served b)
  priming b hb := h.priming b (h'.priming b hb)
  comps n hn := (h'.comps n fun b hb => by rw [h.served b]; exact hn b (h.priming b hb)).trans (h.comps n hn)
  load := h'.load.trans h.load
  injectors := h'.injectors.trans h.injectors
  offPumps := h'.offPumps.trans h.offPumps
  tells := h.tells.trans h'.tells

theorem State.Settles.foldl {α : Type} {f : State → α → State} (hf : ∀ (s : State) (x : α), s.Settles (f s x)) (xs : List α)
    (s : State) : s.Settles (xs.foldl f s) := by
  induction xs generalizing s with
  | nil => exact .refl s
  | cons x xs ih => exact (hf s x).trans (ih _)

theorem State.settles_modifyPump (p : Fin 4) (f : Pump → Pump) (s : State) : s.Settles (s.modifyPump p f) :=
  ⟨fun _ _ => rfl, fun _ => rfl, fun _ => id, fun _ _ => rfl, rfl, rfl, rfl, .of_ports rfl⟩

/-- An arm in PRIMING that keeps its compartment changes alone. -/
theorem State.settles_modifyArm {a : Fin 4} {f : Arm → Arm} (ha : s.arms[a].state = .priming)
    (hf : (f s.arms[a]).served = s.arms[a].served) : s.Settles (s.modifyArm a f) where
  arms b hb := by
    rw [State.modifyArm_get, if_neg]
    rintro rfl; exact hb ha
  served b := by
    rw [State.modifyArm_get]
    split
    · rename_i h; subst h; exact hf
    · rfl
  priming b hb := by
    rw [State.modifyArm_get] at hb
    split at hb
    · rename_i h; subst h; exact ha
    · exact hb
  comps _ _ := rfl
  load := rfl
  injectors := rfl
  offPumps := rfl
  tells := .of_ports rfl

/-- An arm in PRIMING and its compartment move on together. -/
theorem State.settles_stage {a : Fin 4} {g : Arm → Arm} {f : CompRecord → CompRecord} (ha : s.arms[a].state = .priming)
    (hg : (g s.arms[a]).served = s.arms[a].served) (hf : ∀ c, (f c).line.compartment = c.line.compartment)
    (hn : s.arms[a].served = some n) : s.Settles (((s.modifyArm a g).modifyComp n f).compChanged n) where
  arms b hb := by
    rw [State.compChanged_arms, State.modifyComp_arms]
    exact (State.settles_modifyArm ha hg).arms b hb
  served b := by
    rw [State.compChanged_arms, State.modifyComp_arms]
    exact (State.settles_modifyArm ha hg).served b
  priming b hb := by
    rw [State.compChanged_arms, State.modifyComp_arms] at hb
    exact (State.settles_modifyArm ha hg).priming b hb
  comps m hm := by
    have hne : m ≠ n := fun h => hm a ha (h ▸ hn)
    rw [State.compChanged_comp?, State.modifyComp_comp?_of_ne hf hne]; rfl
  load := by
    rw [← Option.isSome_map (f := LoadRecord.causes), State.compChanged_causes, State.modifyComp_causes, Option.isSome_map]; rfl
  injectors := State.compChanged_injectors _ n
  offPumps := State.offPumps_of_still ((State.compChanged_still _ n).trans (State.modifyComp_still ..))
  tells := State.tells_compChanged ((s.modifyArm a g).modifyComp n f) n

theorem State.settles_settleExpired (a : Fin 4) (s : State) : s.Settles (s.settleExpired a) := by
  by_cases ha : s.arms[a].state = .priming
  · rw [State.settleExpired, if_pos ha]
    dsimp only
    split
    · exact State.settles_modifyArm ha rfl
    · rename_i n hn
      exact State.settles_stage ha rfl (fun _ => rfl) hn
  · rw [State.settleExpired, if_neg ha]; exact .refl s

theorem State.settles_startSettle {a : Fin 4} (ha : s.arms[a].state = .priming) (k : Nat) : s.Settles (s.startSettle a k) := by
  unfold State.startSettle
  split
  · exact s.settles_settleExpired a
  · exact State.settles_modifyArm ha rfl

theorem State.settles_startSettles (p : Fin 4) (s : State) : s.Settles (s.startSettles p) :=
  State.Settles.foldl (fun s a => by
    split
    · rename_i h; exact State.settles_startSettle h.1 _
    · exact .refl s) _ _

theorem State.settles_pumpRunning (p : Fin 4) (s : State) : s.Settles (s.pumpRunning p) :=
  ((State.settles_modifyPump p _ s).trans (State.settles_startSettles p _)).trans (State.settles_modifyPump p _ _)

theorem State.settles_startPump (p : Fin 4) (s : State) : s.Settles (s.startPump p) := by
  unfold State.startPump
  dsimp only
  split
  · exact (State.settles_modifyPump p _ s).trans (State.settles_pumpRunning p _)
  · exact State.settles_modifyPump p _ s

theorem State.settles_demandRises (p : Fin 4) (s : State) : s.Settles (s.demandRises p) := by
  unfold State.demandRises
  split
  · split
    · exact .refl s
    · exact s.settles_startPump p
  · exact s.settles_pumpRunning p
  all_goals exact .refl s

theorem State.settles_demandFalls (p : Fin 4) (s : State) : s.Settles (s.demandFalls p) := by
  unfold State.demandFalls
  split
  · exact s.settles_modifyPump p _
  all_goals exact .refl s

theorem State.settles_recountPump (p : Fin 4) (s : State) : s.Settles (s.recountPump p) := by
  have hcount := State.settles_modifyPump p (fun x => { x with demand := s.demandCount p }) s
  unfold State.recountPump
  dsimp only
  split
  · exact hcount.trans (State.settles_demandRises p _)
  · split
    · exact hcount.trans (State.settles_demandFalls p _)
    · exact hcount

/-- The recount of every pump's demand (R89). -/
theorem State.settles_recount (s : State) : s.Settles s.recount := State.Settles.foldl (fun s p => s.settles_recountPump p) _ _

theorem State.tells_removeCause (k : Cause) (s : State) : s.Tells (s.removeCause k) := by
  unfold State.removeCause
  (repeat' split)
  · exact .refl s
  · refine State.Tells.trans ?_ (State.tells_evalLoad _)
    refine State.Tells.trans ?_ (.of_ports (State.imagePoint_ports _))
    unfold State.postCause
    split
    · exact .of_ports rfl
    · exact State.tells_post _ _ _ _ _
  · exact .refl s

theorem State.tells_enterClosing (s : State) : s.Tells s.enterClosing := by
  have hpost := State.tells_post .loadState .none 0 (w32 LoadState.closing.number) (s.modifyLoad fun l => { l with state := .closing })
  exact (hpost.trans (.of_ports (State.imagePoint_ports _))).trans (State.tells_removeCause .permissive _)

theorem State.handOff_ports (s : State) : s.handOff.ports = s.ports := by rw [State.handOff_eq]

theorem State.tells_handOff (s : State) : s.Tells s.handOff := .of_ports s.handOff_ports

theorem State.tells_closeIfDone (s : State) : s.Tells s.closeIfDone := by
  unfold State.closeIfDone
  split
  · exact .refl s
  · dsimp only
    (repeat' split)
    · exact .refl s
    · exact s.tells_enterClosing
    · exact s.tells_handOff
    · exact s.tells_enterClosing.trans (State.tells_handOff _)
    · exact .refl s

end Sys2Proof.Machine
end

section
/-! PROOFS. The settle timer and the close timer of an arm (O54). -/

namespace Sys2Proof.Machine

variable {s : State} {l : LoadRecord} {c : CompRecord} {a : Fin 4} {n : Nat}

/-! ### The settle timer (R74) -/

/-- An arm in LOW with its trim valve open. -/
def Arm.toLow (x : Arm) : Arm := { x with state := .low, valve := .low, settleTimer := none }

theorem State.settleExpired_of_priming (ha : s.arms[a].state = .priming) (hn : s.arms[a].served = some n) :
    s.settleExpired a = ((s.modifyArm a Arm.toLow).modifyComp n fun c => { c with state := .lowStart }).compChanged n := by
  rw [State.settleExpired, if_pos ha]
  simp only [hn]; rfl

theorem State.settleExpired_of_other (ha : s.arms[a].state ≠ .priming) : s.settleExpired a = s := if_neg ha

theorem State.modifyArm_comp? (a : Fin 4) (f : Arm → Arm) (m : Nat) (s : State) : (s.modifyArm a f).comp? m = s.comp? m := rfl

/-- The trim valve opens: arm and compartment move on (R74). -/
theorem State.settleExpired_opens (ha : s.arms[a].state = .priming) (hn : s.arms[a].served = some n)
    (hl : s.load = some l) (hc : s.comp? n = some c) : ∃ u, (s.settleExpired a).load = some u
      ∧ (s.settleExpired a).arms = s.arms.set a { s.arms[a] with state := .low, valve := .low, settleTimer := none }
      ∧ u.comps = l.comps.map (fun x => if x.line.compartment = n then { x with state := .lowStart } else x)
      ∧ u.causes = l.causes := by
  have hcomp : ((s.modifyArm a Arm.toLow).modifyComp n fun c => { c with state := .lowStart }).comp? n
      = some { c with state := .lowStart } := by
    refine (State.modifyComp_comp? (s.modifyArm a Arm.toLow) (f := fun c => { c with state := .lowStart }) (fun _ => rfl) n).trans ?_
    rw [State.modifyArm_comp?, hc, Option.map_some, if_pos (s.comp?_compartment hc)]
  have hload := State.compChanged_load _ hcomp
  have hbase : ((s.modifyArm a Arm.toLow).modifyComp n fun c => { c with state := .lowStart }).load
      = some (l.modifyComp n fun c => { c with state := .lowStart }) := by
    show s.load.map _ = _
    rw [hl]; rfl
  rw [hbase, Option.map_some] at hload
  rw [State.settleExpired_of_priming ha hn]
  refine ⟨_, hload, ?_, LoadRecord.reevaluated_comps _, LoadRecord.reevaluated_causes _⟩
  rw [State.compChanged_arms, State.modifyComp_arms]; rfl

/-! ### The close timer (R82) -/

theorem CompRecord.leaked_compartment (r : Readings) (c : CompRecord) :
    (c.leaked r).line.compartment = c.line.compartment := by
  unfold CompRecord.leaked; dsimp only; split <;> rfl

theorem CompRecord.leaked_keeps (r : Readings) (c : CompRecord) :
    (c.leaked r).additives = c.additives ∧ (c.leaked r).gross = c.gross := by
  unfold CompRecord.leaked; dsimp only; split <;> exact ⟨rfl, rfl⟩

/-- What the leak leaves of a compartment, its results apart. -/
theorem CompRecord.leaked_eq (r : Readings) (c : CompRecord) : c.leaked r = { c with
    closing := some r, flags := { c.flags with valveLeak := true, short := (c.leaked r).flags.short }
    haltCause := (c.leaked r).haltCause } := by
  unfold CompRecord.leaked; dsimp only; split <;> rfl

theorem CompRecord.leaked_of_halt {cause : HaltCause} (r : Readings) {c : CompRecord}
    (h : c.closeReason = some (.halt cause)) : (c.leaked r).flags.short = true ∧ (c.leaked r).haltCause = some cause := by
  simp [CompRecord.leaked, CompRecord.short, h]

theorem CompRecord.leaked_of_stop (r : Readings) {c : CompRecord}
    (h : c.closeReason = some .preset ∨ c.closeReason = some .amend) :
    (c.leaked r).flags.short = c.flags.short ∧ (c.leaked r).haltCause = c.haltCause := by
  obtain h | h := h <;> simp [CompRecord.leaked, CompRecord.closedAt, h]

/-- The state of a leak before the pumps' demand is counted afresh. -/
def State.leaking (a : Fin 4) (n : Nat) (s : State) : State :=
  ((s.post .valveLeak .arm a.val (w32 n)).compDone n (CompRecord.leaked (s.readings a))).modifyArm a Arm.leaked

theorem State.closeExpired_eq (a : Fin 4) (n : Nat) (s : State) : s.closeExpired a n = (s.leaking a n).recount.closeIfDone := by
  rw [State.closeExpired, State.leaking]

theorem State.leaking_arm (a b : Fin 4) (n : Nat) (s : State) :
    (s.leaking a n).arms[b] = if b = a then s.arms[a].leaked else s.arms[b] := by
  rw [State.leaking, State.modifyArm_get, State.compDone_arms]; rfl

theorem State.leaking_comp? (hc : s.comp? n = some c) :
    (s.leaking a n).comp? n = some (s.doneAt n (CompRecord.leaked (s.readings a)) c) := by
  rw [State.leaking, State.modifyArm_comp?]
  exact State.compDone_comp?_self (s := s.post .valveLeak .arm a.val (w32 n)) (CompRecord.leaked_compartment _) hc

theorem State.leaking_injectors (a : Fin 4) (n : Nat) (s : State) : (s.leaking a n).injectors
    = (s.mapInjectors fun x => if x.boundTo n then x.released else x).injectors := by
  rw [State.leaking, State.modifyArm_injectors, State.compDone_injectors (CompRecord.leaked_compartment _)]; rfl

theorem State.tells_leaking (a : Fin 4) (n : Nat) (s : State) : (s.post .valveLeak .arm a.val (w32 n)).Tells (s.leaking a n) := by
  have h := State.tells_compDone (n := n) (CompRecord.leaked_compartment (s.readings a)) (s.post .valveLeak .arm a.val (w32 n))
  rw [State.leaking, State.Tells, State.modifyArm_ports]
  exact h

theorem State.leaking_apart (a : Fin 4) (n : Nat) (s : State) : (s.leaking a n).apart = s.apart := by
  rw [State.leaking, State.modifyArm_apart, State.compDone_apart]; rfl

/-- What a leak leaves: the arm, the compartment, the injectors and the alarm. -/
theorem State.closeExpired_spec {t : State} (hc : s.comp? n = some c) (hother : ∀ b : Fin 4, b ≠ a → s.arms[b].served ≠ some n)
    (ht : s.closeExpired a n = t) : t.arms[a] = s.arms[a].leaked
      ∧ t.comp? n = some (s.doneAt n (CompRecord.leaked (s.readings a)) c) ∧ s.InjectorsAtDone n t ∧ t.apart = s.apart
      ∧ (s.post .valveLeak .arm a.val (w32 n)).Tells t := by
  have hset := State.settles_recount (s.leaking a n)
  have harm := s.leaking_arm a a n
  rw [if_pos rfl] at harm
  have hinj := s.leaking_injectors a n
  have htells := s.tells_leaking a n
  have hapart : (s.leaking a n).recount.closeIfDone.apart = s.apart := by
    rw [State.closeIfDone_apart, State.recount_apart, State.leaking_apart]
  have hcomp := State.leaking_comp? (a := a) hc
  have hserved (b : Fin 4) (hb : (s.leaking a n).arms[b].state = .priming) : (s.leaking a n).arms[b].served ≠ some n := by
    rw [State.leaking_arm] at hb ⊢
    split at hb
    · exact nomatch hb
    · rename_i hba; rw [if_neg hba]; exact hother b hba
  have hclose := State.tells_closeIfDone (s.leaking a n).recount
  have hcarms := State.closeIfDone_arms (s.leaking a n).recount
  have hccomp := State.closeIfDone_comp? n (s.leaking a n).recount
  have hcinj := State.closeIfDone_injectors (s.leaking a n).recount
  rw [← State.closeExpired_eq, ht] at hapart hclose hcarms hccomp hcinj
  generalize (s.leaking a n).recount = r at *
  generalize s.leaking a n = x at *
  refine ⟨?_, ?_, State.injectorsAtDone_of (hcinj.trans (hset.injectors.trans hinj)), hapart,
    htells.trans (hset.tells.trans hclose)⟩
  · rw [hcarms, hset.arms a (by rw [harm]; nofun), harm]
  · rw [hccomp, hset.comps n hserved, hcomp]

theorem exec_closeTimerExpiry (hrun : s.timersRun = true) (ht : s.arms[a].closeTimer = some 0)
    (hst : s.arms[a].state = .closing ∨ s.arms[a].state = .fault) (hn : s.arms[a].served = some n) :
    exec (.closeTimerExpiry a) s = .next (s.closeExpired a n).startWrite := by
  have hfor : s.arms[a].closingFor = some n := by rw [Arm.closingFor, if_pos ⟨ht, hst⟩, hn]
  have hrow : exec (.closeTimerExpiry a) s = execCloseTimerExpiry a s := rfl
  rw [hrow, execCloseTimerExpiry]
  simp only [hfor, hrun, if_true]

theorem exec_closeTimerExpiry_idle (ht : s.arms[a].closeTimer ≠ some 0) : exec (.closeTimerExpiry a) s = .next s := by
  have hfor : s.arms[a].closingFor = none := if_neg fun h => ht h.1
  have hrow : exec (.closeTimerExpiry a) s = execCloseTimerExpiry a s := rfl
  rw [hrow, execCloseTimerExpiry]
  simp only [hfor]

/-- Settles O54: the settle timer's expiry stages arm and compartment, the close timer's ends the close by a leak. -/
theorem armTimersExpire : Obligations.ArmTimersExpire := by
  refine ⟨fun a s => ⟨fun h => if_neg fun hx => h hx.2, exec_closeTimerExpiry_idle⟩, ?_⟩
  intro a c l s hp hl hfound hserved hother
  have hc : s.comp? c.line.compartment = some c := (State.comp?_of_load s hl).trans hfound
  have hrun : s.timersRun = true := by obtain h | h := hp <;> rw [State.timersRun, h] <;> rfl
  refine ⟨fun ht hst => ?_, fun ht hst => ?_⟩
  · obtain ⟨u, hu, harms, hcomps, hcauses⟩ := State.settleExpired_opens hst hserved hl hc
    obtain ⟨hpumps, -, -, -, -, hapart⟩ := State.of_still (State.settleExpired_still s a)
    exact ⟨(s.settleExpired a).startWrite, u, if_pos ⟨hrun, ht⟩, harms, hu, hcomps, hcauses, hpumps,
      (State.of_apart hapart).1, (s.settles_settleExpired a).injectors⟩
  · obtain ⟨harm, hcomp, hinj, hapart, htells⟩ := State.closeExpired_spec hc hother rfl
    have hexec := exec_closeTimerExpiry hrun ht hst hserved
    generalize s.closeExpired a c.line.compartment = t at *
    obtain ⟨u, hu, hucomp⟩ := State.comp?_eq_some.1 hcomp
    obtain ⟨hadd, hgross⟩ := c.leaked_keeps (s.readings a)
    refine ⟨t.startWrite, u, _, hexec, harm, hu, (State.of_apart hapart).1, fun p hpl => (htells p).subset ?_, hucomp, ?_,
      fun cause h => CompRecord.leaked_of_halt _ h, fun h => CompRecord.leaked_of_stop _ h,
      State.resultsAtDone_doneAt hadd hgross rfl, hinj⟩
    · cases p <;> exact PortState.mem_offer hpl
    · exact (congrArg (fun x : CompRecord => { x with
        state := .done, additives := (s.doneAt c.line.compartment (CompRecord.leaked (s.readings a)) c).additives })
        (c.leaked_eq (s.readings a)) :)

end Sys2Proof.Machine
end

section
/-! PROOFS. LOAD-FINISH and LOAD-ABORT: every compartment that waits is DONE, their numbers differing (R17, R18). -/

namespace Sys2Proof.Machine

variable {s t : State} {q : CompRecord → Bool} {l u : LoadRecord} {n : Nat} {c : CompRecord}

/-! ### One compartment that waits -/

/-- A compartment that waits, PENDING or HALTED. -/
def CompState.isIdle (st : CompState) : Bool := st == .pending || st == .halted

/-- How a compartment that waits is marked at DONE. -/
def CompRecord.idleMark (c : CompRecord) : CompRecord → CompRecord :=
  if c.state = .pending then CompRecord.notLoaded else CompRecord.short

/-- A compartment that waits, as the end of its load makes it. -/
def State.finishedComp (s : State) (c : CompRecord) : CompRecord := s.doneAt c.line.compartment c.idleMark c

theorem CompRecord.idleMark_compartment (c d : CompRecord) : (c.idleMark d).line.compartment = d.line.compartment := by
  unfold CompRecord.idleMark; split <;> rfl

theorem CompRecord.idleMark_keeps (c d : CompRecord) : (c.idleMark d).additives = d.additives ∧ (c.idleMark d).gross = d.gross
    ∧ (c.idleMark d).net = d.net ∧ (c.idleMark d).line = d.line ∧ (c.idleMark d).opening = d.opening
    ∧ (c.idleMark d).closing = d.closing ∧ (c.idleMark d).haltCause = d.haltCause := by
  unfold CompRecord.idleMark; split <;> exact ⟨rfl, rfl, rfl, rfl, rfl, rfl, rfl⟩

theorem CompRecord.idleMark_flags (h : c.state.isIdle = true) : (c.idleMark c).flags = { c.flags with
    notLoaded := c.flags.notLoaded || c.state == .pending, short := c.flags.short || c.state == .halted } := by
  have hst : c.state = .pending ∨ c.state = .halted := by simpa [CompState.isIdle] using h
  obtain h | h := hst <;> simp [CompRecord.idleMark, h, CompRecord.notLoaded, CompRecord.short]

/-- The end of the load at the compartments of one number. -/
def State.finishOne (s : State) (n : Nat) : State :=
  match s.comp? n with
  | none => s
  | some c =>
    match c.state with
    | .pending => s.compDone n CompRecord.notLoaded
    | .halted => s.compDone n CompRecord.short
    | .starting | .lowStart | .full | .slowdown | .closing | .done => s

theorem State.finishIdle_eq (s : State) : s.finishIdle = s.compNumbers.foldl State.finishOne s := rfl

theorem State.finishOne_of_idle (hc : s.comp? n = some c) (h : c.state.isIdle = true) :
    s.finishOne n = s.compDone n c.idleMark := by
  have hst : c.state = .pending ∨ c.state = .halted := by simpa [CompState.isIdle] using h
  unfold State.finishOne
  simp only [hc]
  obtain h | h := hst <;> simp [h, CompRecord.idleMark]

theorem State.finishOne_of_other (h : ∀ c, s.comp? n = some c → c.state.isIdle = false) : s.finishOne n = s := by
  unfold State.finishOne
  split
  · rfl
  · rename_i c hc
    have hi := h c hc
    split
    · rename_i hs; rw [hs] at hi; exact nomatch hi
    · rename_i hs; rw [hs] at hi; exact nomatch hi
    all_goals rfl

/-! ### The compartments that have been taken -/

/-- No change of a compartment takes a load into CLOSING or out of it (R12). -/
theorem LoadRecord.reevaluated_closing : l.reevaluated.state = .closing ↔ l.state = .closing := by
  by_cases h : l.state = .closing
  · rw [LoadRecord.reevaluated_of_closing h]
  · refine ⟨fun hr => ?_, fun hl => absurd hl h⟩
    unfold LoadRecord.reevaluated at hr
    split at hr
    · exact hr
    · rw [LoadRecord.evaluated, if_neg h] at hr
      (repeat' split at hr) <;> exact nomatch hr

/-- A figure of the injectors bound to a result depends on these injectors alone. -/
theorem boundSum_of_bound {v w : Vector Injector 8} {b : Binding} (h : ∀ j : Fin 8, v[j].binding = some b → w[j] = v[j])
    (h' : ∀ j : Fin 8, w[j].binding = some b → v[j].binding = some b) (f : Injector → Nat) :
    boundSum eights f w b = boundSum eights f v b := by
  have hp : (eights.filter fun j => w[j].binding == some b) = eights.filter fun j => v[j].binding == some b :=
    List.filter_congr fun j _ => Bool.eq_iff_iff.2 (by
      rw [beq_iff_eq, beq_iff_eq]
      exact ⟨h' j, fun hv => by rw [h j hv]; exact hv⟩)
  unfold boundSum
  rw [hp]
  congr 1
  exact List.map_congr_left fun j hj => by
    rw [h j (beq_iff_eq.1 (List.mem_filter.1 hj).2)]

/-- On the way from `s`, whose load is `l`, to `t`, whose load is `u`, the compartments that `q` picks have gone to DONE, each from
PENDING or HALTED, with their injectors released, and no other compartment or injector has been touched. -/
structure State.FinishedOver (s : State) (q : CompRecord → Bool) (l u : LoadRecord) (t : State) : Prop where
  idle : ∀ c, q c = true → c.state.isIdle = true
  load : t.load = some u
  record : ∃ st, u = { l with state := st, comps := l.comps.map fun c => if q c then s.finishedComp c else c }
  closing : u.state = .closing ↔ l.state = .closing
  injectors : ∀ j : Fin 8,
    ((∃ c ∈ l.comps, q c = true ∧ s.injectors[j].boundTo c.line.compartment = true) →
      t.injectors[j] = s.injectors[j].released)
    ∧ ((∀ c ∈ l.comps, q c = true → s.injectors[j].boundTo c.line.compartment = false) → t.injectors[j] = s.injectors[j])
  tells : s.Tells t
  arms : t.arms = s.arms
  still : t.still = s.still

namespace State.FinishedOver

theorem none (hl : s.load = some l) : s.FinishedOver (fun _ => false) l l s where
  idle _ h := nomatch h
  load := hl
  record := ⟨l.state, by simp⟩
  closing := .rfl
  injectors _ := ⟨fun ⟨_, _, h, _⟩ => (nomatch h), fun _ => rfl⟩
  tells := .refl s
  arms := rfl
  still := rfl

variable (h : s.FinishedOver q l u t)
include h

theorem comps : u.comps = l.comps.map fun c => if q c then s.finishedComp c else c := by
  obtain ⟨st, hu⟩ := h.record; rw [hu]

theorem injector_cases (j : Fin 8) : t.injectors[j] = s.injectors[j].released ∨ t.injectors[j] = s.injectors[j] := by
  by_cases hj : ∃ c ∈ l.comps, q c = true ∧ s.injectors[j].boundTo c.line.compartment = true
  · exact .inl ((h.injectors j).1 hj)
  · refine .inr ((h.injectors j).2 fun c hc hq => ?_)
    by_contra hb
    exact hj ⟨c, hc, hq, by simpa using hb⟩

theorem comp? (n : Nat) : t.comp? n = (l.comp? n).map fun c => if q c then s.finishedComp c else c := by
  rw [State.comp?_of_load t h.load]
  simp only [LoadRecord.comp?, h.comps, List.find?_map]
  congr 2
  funext c
  simp only [Function.comp]
  split
  · have hk : (s.finishedComp c).line.compartment = c.line.compartment := c.idleMark_compartment c
    rw [hk]
  · rfl

/-- The injectors of a compartment not yet taken are as they were. -/
theorem bound_kept (hn : (l.comps.map fun c => c.line.compartment).Nodup) (hc : l.comp? n = some c) (hqc : q c = false)
    {j : Fin 8} (hj : s.injectors[j].boundTo n = true) : t.injectors[j] = s.injectors[j] := by
  have hcn := LoadRecord.comp?_compartment hc
  refine (h.injectors j).2 fun d hdm hqd => ?_
  obtain ⟨p, hp⟩ := Injector.boundTo_iff.1 hj
  rw [Injector.boundTo_of_binding hp, beq_eq_false_iff_ne]
  intro hnd
  rw [List.inj_on_of_nodup_map hn hdm (List.mem_of_find?_eq_some hc) (hnd.symm.trans hcn.symm), hqc] at hqd
  exact nomatch hqd

theorem binding_of {j : Fin 8} {b : Binding} (hj : t.injectors[j].binding = some b) : s.injectors[j].binding = some b := by
  obtain hk | hk := h.injector_cases j
  · rw [hk] at hj; exact nomatch hj
  · rw [hk] at hj; exact hj

/-- A figure of the injectors bound to a compartment not yet taken is as it was. -/
theorem boundSum_kept (hn : (l.comps.map fun c => c.line.compartment).Nodup) (hc : l.comp? n = some c) (hqc : q c = false)
    (f : Injector → Nat) (p : Nat) : boundSum eights f t.injectors ⟨n, p⟩ = boundSum eights f s.injectors ⟨n, p⟩ :=
  boundSum_of_bound (fun _ hj => h.bound_kept hn hc hqc (Injector.boundTo_iff.2 ⟨p, hj⟩)) (fun _ hj => h.binding_of hj) f

/-- What DONE makes of a compartment does not depend on those taken before it. -/
theorem doneAt_eq (hn : (l.comps.map fun c => c.line.compartment).Nodup) (hc : l.comp? n = some c) (hqc : q c = false) :
    t.doneAt n c.idleMark c = s.finishedComp c := by
  have hcn := LoadRecord.comp?_compartment hc
  have hcount (rs : List ComponentResult) : State.countReleased n t rs = State.countReleased n s rs :=
    List.map_congr_left fun r _ => by rw [h.boundSum_kept hn hc hqc, h.boundSum_kept hn hc hqc]
  subst hcn
  rw [State.finishedComp, State.doneAt, State.doneAt, hcount]

theorem modifyComp_record (hn : (l.comps.map fun c => c.line.compartment).Nodup) (hc : l.comp? n = some c) (hqc : q c = false) :
    ∃ st, u.modifyComp n (t.doneAt n c.idleMark)
      = { l with state := st, comps := l.comps.map fun d => if q d || decide (d = c) then s.finishedComp d else d } := by
  have hcn := LoadRecord.comp?_compartment hc
  obtain ⟨su, hu⟩ := h.record
  refine ⟨su, ?_⟩
  rw [hu]
  simp only [LoadRecord.modifyComp, List.map_map, LoadRecord.mk.injEq, true_and, and_true]
  refine List.map_congr_left fun d hdm => ?_
  simp only [Function.comp]
  by_cases hdc : d = c
  · rw [hdc, hqc, if_neg Bool.false_ne_true, if_pos hcn, if_pos (by simp)]
    exact h.doneAt_eq hn hc hqc
  · have hdn : d.line.compartment ≠ n := fun he =>
      hdc (List.inj_on_of_nodup_map hn hdm (List.mem_of_find?_eq_some hc) (he.trans hcn.symm))
    rw [show decide (d = c) = false from decide_eq_false hdc, Bool.or_false]
    have hdn' : (if q d then s.finishedComp d else d).line.compartment ≠ n := by
      split
      · exact fun he => hdn ((CompRecord.idleMark_compartment d d).symm.trans he)
      · exact hdn
    exact if_neg hdn'

/-- One compartment more that waited. -/
theorem take (hn : (l.comps.map fun c => c.line.compartment).Nodup) (hc : l.comp? n = some c) (hqc : q c = false)
    (hi : c.state.isIdle = true) :
    ∃ u', s.FinishedOver (fun d => q d || decide (d = c)) l u' (t.compDone n c.idleMark) := by
  have htc : t.comp? n = some c := by rw [h.comp?, hc, Option.map_some, hqc]; rfl
  have hmem : c ∈ l.comps := List.mem_of_find?_eq_some hc
  have hcn := LoadRecord.comp?_compartment hc
  have hload := State.compDone_load (f := c.idleMark) (c.idleMark_compartment) htc
  rw [h.load, Option.map_some] at hload
  obtain ⟨st, hst⟩ := LoadRecord.reevaluated_with_state (u.modifyComp n (t.doneAt n c.idleMark))
  obtain ⟨su, hu⟩ := h.modifyComp_record hn hc hqc
  have hinj (j : Fin 8) : (t.compDone n c.idleMark).injectors[j]
      = if t.injectors[j].boundTo n then t.injectors[j].released else t.injectors[j] := by
    rw [State.compDone_injectors c.idleMark_compartment]; exact State.mapInjectors_get ..
  refine ⟨_, fun d hd' => ?_, hload, ⟨st, by rw [hst, hu]⟩,
    LoadRecord.reevaluated_closing.trans h.closing, fun j => ?_,
    h.tells.trans (State.tells_compDone c.idleMark_compartment t), (State.compDone_arms ..).trans h.arms,
    (State.compDone_still c.idleMark_compartment t).trans h.still⟩
  case refine_1 =>
    rw [Bool.or_eq_true, decide_eq_true_eq] at hd'
    exact hd'.elim (h.idle d) fun he => he ▸ hi
  case refine_2 =>
    rw [hinj]
    refine ⟨fun ⟨d, hdm, hqd, hdb⟩ => ?_, fun hno => ?_⟩
    · rw [Bool.or_eq_true, decide_eq_true_eq] at hqd
      obtain hqd | rfl := hqd
      · rw [(h.injectors j).1 ⟨d, hdm, hqd, hdb⟩]
        rfl
      · rw [hcn] at hdb
        rw [h.bound_kept hn hc hqc hdb, if_pos hdb]
    · have hb := hno c hmem (by simp)
      rw [hcn] at hb
      have hsame : t.injectors[j] = s.injectors[j] :=
        (h.injectors j).2 fun d hdm hqd => hno d hdm (by rw [hqd]; rfl)
      rw [hsame, hb]; rfl

omit h in
/-- Which compartments were taken is read at those of the load. -/
theorem congr {q' : CompRecord → Bool} (h : s.FinishedOver q l u t) (hd : ∀ c, q' c = true → c.state.isIdle = true)
    (hq : ∀ c ∈ l.comps, q' c = q c) : s.FinishedOver q' l u t where
  idle := hd
  load := h.load
  record := by
    obtain ⟨st, hu⟩ := h.record
    refine ⟨st, hu.trans ?_⟩
    congr 1
    exact List.map_congr_left fun c hc => by rw [hq c hc]
  closing := h.closing
  injectors j := ⟨fun ⟨c, hc, hqc, hb⟩ => (h.injectors j).1 ⟨c, hc, hq c hc ▸ hqc, hb⟩,
    fun hb => (h.injectors j).2 fun c hc hqc => hb c hc ((hq c hc).symm ▸ hqc)⟩
  tells := h.tells
  arms := h.arms
  still := h.still

/-- A compartment that still waits is as it was. -/
theorem comp?_idle (hc : t.comp? n = some c) (hi : c.state.isIdle = true) : l.comp? n = some c ∧ q c = false := by
  rw [h.comp?, Option.map_eq_some_iff] at hc
  obtain ⟨d, hd', rfl⟩ := hc
  cases hq : q d with
  | true => rw [hq, if_pos rfl] at hi; exact nomatch hi
  | false => rw [if_neg Bool.false_ne_true]; exact ⟨hd', hq⟩

/-- One number more, whatever stands there. -/
theorem step (hn : (l.comps.map fun c => c.line.compartment).Nodup) (n : Nat) :
    ∃ u', s.FinishedOver (fun c => q c || (c.state.isIdle && c.line.compartment == n)) l u' (t.finishOne n) := by
  have reached (c : CompRecord) (hc : (q c || (c.state.isIdle && c.line.compartment == n)) = true) :
      c.state.isIdle = true := by
    rw [Bool.or_eq_true, Bool.and_eq_true] at hc
    exact hc.elim (h.idle c) And.left
  by_cases hex : ∃ c, l.comp? n = some c ∧ q c = false ∧ c.state.isIdle = true
  · obtain ⟨c, hc, hqc, hi⟩ := hex
    have htc : t.comp? n = some c := by rw [h.comp?, hc, Option.map_some, hqc]; rfl
    obtain ⟨u', h'⟩ := h.take hn hc hqc hi
    rw [State.finishOne_of_idle htc hi]
    refine ⟨u', h'.congr reached fun d hdm => ?_⟩
    congr 1
    rw [Bool.eq_iff_iff, Bool.and_eq_true, beq_iff_eq, decide_eq_true_eq]
    exact ⟨fun ⟨_, hdn⟩ => List.inj_on_of_nodup_map hn hdm (List.mem_of_find?_eq_some hc)
      (hdn.trans (LoadRecord.comp?_compartment hc).symm), fun he => he ▸ ⟨hi, LoadRecord.comp?_compartment hc⟩⟩
  · have hkeep : t.finishOne n = t := State.finishOne_of_other fun c hc => by
      by_contra hi
      have hi : c.state.isIdle = true := by simpa using hi
      obtain ⟨hlc, hqc⟩ := h.comp?_idle hc hi
      exact hex ⟨c, hlc, hqc, hi⟩
    rw [hkeep]
    refine ⟨u, h.congr reached fun c hc => ?_⟩
    cases hqc : q c with
    | true => rfl
    | false =>
      rw [Bool.false_or, Bool.and_eq_false_imp]
      intro hi
      rw [beq_eq_false_iff_ne]
      exact fun hcn => hex ⟨c, LoadRecord.comp?_of_mem hn hc hcn, hqc, hi⟩

end State.FinishedOver

theorem State.finishedOver_foldl (hn : (l.comps.map fun c => c.line.compartment).Nodup) (ns : List Nat)
    (h : s.FinishedOver q l u t) :
    ∃ u', s.FinishedOver (fun c => q c || (c.state.isIdle && decide (c.line.compartment ∈ ns))) l u'
      (ns.foldl State.finishOne t) := by
  induction ns generalizing q u t with
  | nil =>
    refine ⟨u, h.congr (fun c hc => ?_) fun c _ => ?_⟩
    · simp only [List.not_mem_nil, decide_false, Bool.and_false, Bool.or_false] at hc; exact h.idle c hc
    · simp
  | cons n ns ih =>
    obtain ⟨u', h'⟩ := h.step hn n
    obtain ⟨v, h''⟩ := ih h'
    have same (c : CompRecord) : (q c || (c.state.isIdle && decide (c.line.compartment ∈ n :: ns)))
        = ((q c || (c.state.isIdle && c.line.compartment == n))
          || (c.state.isIdle && decide (c.line.compartment ∈ ns))) := by
      simp only [Bool.or_assoc, ← Bool.and_or_distrib_left, List.mem_cons, Bool.decide_or]; rfl
    exact ⟨v, h''.congr (fun c hc => h''.idle c (same c ▸ hc)) fun c _ => same c⟩

/-- Every compartment that waits is DONE (R17, R18). -/
theorem State.finishIdle_over (hl : s.load = some l) (hn : (l.comps.map fun c => c.line.compartment).Nodup) :
    ∃ u, s.FinishedOver (fun c => c.state.isIdle) l u s.finishIdle := by
  obtain ⟨u, h⟩ := State.finishedOver_foldl hn s.compNumbers (State.FinishedOver.none hl)
  refine ⟨u, h.congr (fun _ => id) fun c hc => ?_⟩
  have hmem : c.line.compartment ∈ s.compNumbers := by
    simp only [State.compNumbers, hl]; exact List.mem_map_of_mem hc
  simp [hmem]

end Sys2Proof.Machine
end

section
/-! PROOFS. The write queue through the close of a load that finds it empty: one image, refreshed, and at most a checkpoint behind
it (R11, R137, R19). -/

namespace Sys2Proof.Machine

variable {s t : State} {l : LoadRecord} {T : Totals} {n : Nat} {f : CompRecord → CompRecord}

/-- A queue of one image and at most one checkpoint of the totals `T`. -/
def ImageFirst (T : Totals) (x : LoadRecord) (q : List Record) : Prop := q = [.image x] ∨ q = [.image x, .checkpoint T]

/-- Nothing is being written and nothing is owed, and the queue is empty or one of image and checkpoint. -/
structure State.Quiet (T : Totals) (t : State) : Prop where
  writing : t.writing = false
  backlog : t.backlog = []
  phase : t.phase = .running
  charge : t.chargeOwed = none
  checkpoint : t.checkpointOwed = false
  totals : t.totals = T
  open_ : ∀ l, t.load = some l → l.closeTime = none
  queue : t.queue = [] ∨ t.imageOwed = false ∧ ∃ x, ImageFirst T x t.queue

/-- The queue holds the image of `l` itself, and it is not owed. -/
def State.Imaged (T : Totals) (l : LoadRecord) (t : State) : Prop := t.imageOwed = false ∧ ImageFirst T l t.queue

theorem ImageFirst.length {x : LoadRecord} {q : List Record} (h : ImageFirst T x q) : q.length ≤ 2 := by
  obtain rfl | rfl := h <;> simp

theorem ImageFirst.mem {x : LoadRecord} {q : List Record} (h : ImageFirst T x q) :
    .image x ∈ q ∧ ∀ r ∈ q, r = .image x ∨ r = .checkpoint T := by
  obtain rfl | rfl := h <;> simp

theorem ImageFirst.refresh {x : LoadRecord} {q : List Record} (h : ImageFirst T x q) (u : LoadRecord) :
    ImageFirst T u (q.map (Record.refreshImage u)) := by
  obtain rfl | rfl := h
  · exact .inl rfl
  · exact .inr rfl

theorem State.refreshImages_quiet {x : LoadRecord} (hw : s.writing = false) (hb : s.backlog = []) (h : ImageFirst T x s.queue)
    (u : LoadRecord) : ImageFirst T u (s.refreshImages u).queue ∧ (s.refreshImages u).backlog = []
      ∧ (s.refreshImages u).imageOwed = s.imageOwed := by
  have hm : s.mapWaiting (List.map (Record.refreshImage u)) = { s with queue := s.queue.map (Record.refreshImage u) } := by
    rw [State.mapWaiting, hw]; rfl
  rw [State.refreshImages, hm, hb]
  exact ⟨h.refresh u, rfl, rfl⟩

theorem State.imageWaits_of_first {x : LoadRecord} (hw : s.writing = false) (h : ImageFirst T x s.queue) :
    s.imageWaits = true := by
  have hwait : s.waiting = s.queue := by rw [State.waiting, hw]; rfl
  rw [State.imageWaits, hwait]
  obtain h | h := h <;> rw [h] <;> rfl

/-- An image point puts the record into the queue as it stands (R11). -/
theorem State.Quiet.imagePoint (h : s.Quiet T) (hl : s.load = some l) : s.imagePoint.Quiet T ∧ s.imagePoint.Imaged T l := by
  have hframe := s.imagePoint_eq
  have hphase : s.phase ≠ .powerDown := by rw [h.phase]; decide
  have key : s.imagePoint.backlog = [] ∧ s.imagePoint.Imaged T l := by
    obtain hq | ⟨ho, x, hx⟩ := h.queue
    · have hlen : s.queue.length < 8 := by rw [hq]; exact Nat.zero_lt_succ 7
      have hnone : ∀ r ∈ s.queue, r.isImage = false := by rw [hq]; exact fun r hr => absurd hr List.not_mem_nil
      have hback : ∀ r ∈ s.backlog, r.isImage = false := by rw [h.backlog]; exact fun r hr => absurd hr List.not_mem_nil
      have hpoint : s.imagePoint = { s.enqueue (.image l) with imageOwed := false } := by
        rw [State.imagePoint_of_none hl hphase (h.open_ l hl) hnone hback, State.queueImage,
          if_pos (State.hasPlace_of hlen hphase)]
      have hqueue : s.queue ++ [Record.image l] = [.image l] := by rw [hq]; rfl
      rw [hpoint]
      exact ⟨h.backlog, rfl, .inl hqueue⟩
    · have hpoint : s.imagePoint = s.refreshImages l := by
        simp only [State.imagePoint, hl]
        rw [if_neg hphase, if_pos (State.imageWaits_of_first h.writing hx)]
      obtain ⟨hqueue, hback, howed⟩ := State.refreshImages_quiet h.writing h.backlog hx l
      rw [hpoint]
      exact ⟨hback, howed.trans ho, hqueue⟩
  refine ⟨⟨?_, key.1, ?_, ?_, ?_, ?_, ?_, .inr ⟨key.2.1, l, key.2.2⟩⟩, key.2⟩
  · rw [hframe]; exact h.writing
  · rw [hframe]; exact h.phase
  · rw [hframe]; exact h.charge
  · rw [hframe]; exact h.checkpoint
  · rw [hframe]; exact h.totals
  · rw [hframe]; exact h.open_

/-- A call for a checkpoint behind the image (R137). -/
theorem State.Quiet.callCheckpoint (h : s.Quiet T) (hi : s.Imaged T l) :
    s.callCheckpoint.Quiet T ∧ s.callCheckpoint.Imaged T l := by
  have hphase : s.phase ≠ .powerDown := by rw [h.phase]; decide
  have hwait : s.waiting = s.queue := by rw [State.waiting, h.writing]; rfl
  obtain ⟨ho, hq | hq⟩ := hi
  · have hlen : s.queue.length < 8 := by rw [hq]; exact Nat.le_of_ble_eq_true rfl
    have hplace : s.hasPlace = true := State.hasPlace_of hlen hphase
    have hcall : s.callCheckpoint = s.enqueue (.checkpoint s.totals) := by
      rw [State.callCheckpoint, if_neg hphase, hwait, hq, if_neg (show ¬ [Record.image l].any Record.isCheckpoint = true from Bool.false_ne_true), h.checkpoint, if_neg Bool.false_ne_true,
        if_pos hplace]
    have hqueue : (s.enqueue (.checkpoint s.totals)).queue = [.image l, .checkpoint T] := by
      show s.queue ++ _ = _
      rw [hq, h.totals]; rfl
    rw [hcall]
    exact ⟨⟨h.writing, h.backlog, h.phase, h.charge, h.checkpoint, h.totals, h.open_, .inr ⟨ho, l, .inr hqueue⟩⟩, ho,
      .inr hqueue⟩
  · have hany : s.waiting.any Record.isCheckpoint = true := by rw [hwait, hq]; rfl
    have hmap : s.queue.map (Record.refreshCheckpoint s.totals) = s.queue := by rw [hq, h.totals]; rfl
    have hcall : s.callCheckpoint = s := by
      rw [State.callCheckpoint, if_neg hphase, if_pos hany, State.mapWaiting, if_neg (by rw [h.writing]; exact Bool.false_ne_true), hmap]
    rw [hcall]
    exact ⟨h, ho, .inr hq⟩

theorem State.totals_congr (hm : t.meters = s.meters) (hi : ∀ j : Fin 8, t.injectors[j].total = s.injectors[j].total) :
    t.totals = s.totals := by
  have h0 : t.injectors[0].total = s.injectors[0].total := hi 0
  have h1 : t.injectors[1].total = s.injectors[1].total := hi 1
  have h2 : t.injectors[2].total = s.injectors[2].total := hi 2
  have h3 : t.injectors[3].total = s.injectors[3].total := hi 3
  have h4 : t.injectors[4].total = s.injectors[4].total := hi 4
  have h5 : t.injectors[5].total = s.injectors[5].total := hi 5
  have h6 : t.injectors[6].total = s.injectors[6].total := hi 6
  have h7 : t.injectors[7].total = s.injectors[7].total := hi 7
  simp only [State.totals, hm, h0, h1, h2, h3, h4, h5, h6, h7]

/-- A state that differs from a quiet one in load record, ports and injectors is quiet, its totals the same. -/
theorem State.Quiet.of_eq (h : s.Quiet T) (he : t = { s with load := t.load, ports := t.ports, injectors := t.injectors })
    (hl : ∀ l, t.load = some l → l.closeTime = none) (hi : ∀ j : Fin 8, t.injectors[j].total = s.injectors[j].total) :
    t.Quiet T where
  writing := by rw [he]; exact h.writing
  backlog := by rw [he]; exact h.backlog
  phase := by rw [he]; exact h.phase
  charge := by rw [he]; exact h.charge
  checkpoint := by rw [he]; exact h.checkpoint
  totals := (State.totals_congr (by rw [he]) hi).trans h.totals
  open_ := hl
  queue := by rw [he]; exact h.queue

/-! ### The close of a load -/

variable {c : CompRecord}

theorem Injector.released_total (x : Injector) : x.released.total = x.total := rfl

theorem State.Quiet.atDone (h : s.Quiet T) (f : CompRecord → CompRecord) : (s.atDone n f).Quiet T := by
  refine h.of_eq rfl (fun l hl => ?_) fun j => ?_
  · obtain ⟨l', hl', rfl⟩ := Option.map_eq_some_iff.1 (show s.load.map _ = some l from hl)
    exact h.open_ l' hl'
  · have hj : (s.atDone n f).injectors[j] = if s.injectors[j].boundTo n then s.injectors[j].released else s.injectors[j] :=
      State.mapInjectors_get s (fun x => if x.boundTo n then x.released else x) j
    rw [hj]; split <;> rfl

theorem State.Quiet.post (h : s.Quiet T) (code : EventCode) (object : ObjectKind) (id : Nat) (value : BitVec 32) :
    (s.post code object id value).Quiet T := h.of_eq rfl h.open_ fun _ => rfl

theorem State.Quiet.evalLoad (h : s.Quiet T) : s.evalLoad.Quiet T := by
  refine h.of_eq (by rw [State.evalLoad_eq]) (fun u hu => ?_) fun j => by rw [State.evalLoad_eq]
  obtain hl | ⟨l, hl⟩ := Option.eq_none_or_eq_some s.load
  · rw [show s.evalLoad = s by simp only [State.evalLoad, hl]] at hu; exact h.open_ u hu
  · rw [State.evalLoad_load_eq s hl] at hu
    obtain rfl := Option.some.inj hu
    exact h.open_ l hl

theorem State.Quiet.evalComps (h : s.Quiet T) : s.evalComps.Quiet T := by
  unfold State.evalComps
  split
  · exact h
  · exact h.evalLoad

/-- A compartment that is DONE leaves the queue with the load's image, and a checkpoint behind it. -/
theorem State.Quiet.compDone (h : s.Quiet T) (hf : ∀ c, (f c).line.compartment = c.line.compartment)
    (hc : s.comp? n = some c) : (s.compDone n f).Quiet T := by
  have hat := State.atDone_comp? hf hc
  obtain ⟨l, hl, -⟩ := State.comp?_eq_some.1 hat
  have hev := ((h.atDone (n := n) f).post .compartmentState .compartment n (w32 (s.doneAt n f c).state.number)).evalComps
  have hload := State.evalComps_load_map (s := (s.atDone n f).post .compartmentState .compartment n
    (w32 (s.doneAt n f c).state.number))
  rw [show ((s.atDone n f).post .compartmentState .compartment n (w32 (s.doneAt n f c).state.number)).load = some l from hl,
    Option.map_some] at hload
  obtain ⟨hq, hi⟩ := hev.imagePoint hload
  rw [State.compDone_eq hf, State.compChanged]
  simp only [hat]
  exact (hq.callCheckpoint hi).1

theorem State.Quiet.finishOne (h : s.Quiet T) (n : Nat) : (s.finishOne n).Quiet T := by
  by_cases hi : ∃ c, s.comp? n = some c ∧ c.state.isIdle = true
  · obtain ⟨c, hc, hi⟩ := hi
    rw [State.finishOne_of_idle hc hi]
    exact h.compDone c.idleMark_compartment hc
  · rw [State.finishOne_of_other fun c hc => Bool.eq_false_iff.2 fun hn => hi ⟨c, hc, hn⟩]
    exact h

theorem State.Quiet.finishIdle (h : s.Quiet T) : s.finishIdle.Quiet T := by
  rw [State.finishIdle_eq]
  exact List.foldlRecOn _ _ h fun t ht n _ => ht.finishOne n

theorem State.Quiet.modifyLoad (h : s.Quiet T) {g : LoadRecord → LoadRecord} (hg : ∀ l, (g l).closeTime = l.closeTime) :
    (s.modifyLoad g).Quiet T := by
  refine h.of_eq rfl (fun l hl => ?_) fun _ => rfl
  obtain ⟨l', hl', rfl⟩ := Option.map_eq_some_iff.1 (show s.load.map g = some l from hl)
  rw [hg]; exact h.open_ l' hl'

theorem State.Quiet.postCause (h : s.Quiet T) (e : EventCode) (k : Cause) : (s.postCause e k).Quiet T :=
  h.of_eq (by rw [State.postCause_eq]) (by rw [State.postCause_eq]; exact h.open_) fun j => by rw [State.postCause_eq]

/-- The removal of a cause leaves an image queued, and one image alone. -/
theorem State.Quiet.removeCause (h : s.Quiet T) (hi : s.Imaged T l) (k : Cause) :
    (s.removeCause k).Quiet T ∧ ∃ x, (s.removeCause k).Imaged T x := by
  unfold State.removeCause
  split
  · exact ⟨h, l, hi⟩
  · rename_i l' hl'
    split
    · have hp := (h.modifyLoad (g := fun l => { l with causes := l.causes.put false k }) fun _ => rfl).postCause .causeCleared k
      have hload : ((s.modifyLoad fun l => { l with causes := l.causes.put false k }).postCause .causeCleared k).load
          = some { l' with causes := l'.causes.put false k } := by
        rw [postCause_load]
        show s.load.map _ = _
        rw [hl']; rfl
      obtain ⟨hq, hx⟩ := hp.imagePoint hload
      refine ⟨hq.evalLoad, { l' with causes := l'.causes.put false k }, ?_⟩
      rw [State.evalLoad_eq]
      exact hx
    · exact ⟨h, l, hi⟩

theorem State.Quiet.enterClosing (h : s.Quiet T) (hl : s.load = some l) :
    s.enterClosing.Quiet T ∧ ∃ x, s.enterClosing.Imaged T x := by
  have hp := (h.modifyLoad (g := fun l => { l with state := .closing }) fun _ => rfl).post .loadState .none 0
    (w32 LoadState.closing.number)
  have hload : ((s.modifyLoad fun l => { l with state := .closing }).post .loadState .none 0
      (w32 LoadState.closing.number)).load = some { l with state := .closing } := by
    show s.load.map _ = _
    rw [hl]; rfl
  obtain ⟨hq, hi⟩ := hp.imagePoint hload
  obtain ⟨hq, x, hi⟩ := hq.removeCause hi .permissive
  refine ⟨⟨hq.writing, hq.backlog, hq.phase, hq.charge, hq.checkpoint, hq.totals, hq.open_, hq.queue⟩, x, hi⟩

/-- Where nothing waits and nothing is owed, the close puts image, charge and commit into the queue, in that order, with at most a
checkpoint behind the image (R19, R155). -/
theorem State.Quiet.handOff (h : s.Quiet T) {x u : LoadRecord} (hi : s.Imaged T x) (hl : s.load = some l)
    (hu : l.closedAt s.closeTimeNow = u) :
    (∃ q, s.handOff.queue = q ++ (s.chargeRecords u ++ [.commit l.slot (u.note s.products) (s.serial + 1)]) ∧ ImageFirst T u q)
      ∧ s.handOff.slots[l.slot].state = .committing := by
  have hphase : s.phase ≠ .powerDown := by rw [h.phase]; decide
  have hw : ({ s with load := some u } : State).imageWaits = true :=
    State.imageWaits_of_first (s := { s with load := some u }) h.writing hi.2
  obtain ⟨hq, -, ho⟩ := State.refreshImages_quiet (s := { s with load := some u }) h.writing h.backlog hi.2 u
  have hhand : ({ s with load := some u } : State).imageHandOff = ({ s with load := some u } : State).refreshImages u := by
    simp only [State.imageHandOff]
    rw [if_neg hphase, if_pos hw]
  have hp : (({ s with load := some u } : State).refreshImages u).phase ≠ .powerDown := by
    rw [← hhand, State.imageHandOff_eq]; exact hphase
  obtain ⟨hqueue, hst⟩ := State.handOff_queue hl hu hhand (ho.trans hi.1) (hq.length.trans (Nat.le_of_ble_eq_true rfl)) hp h.charge
  exact ⟨⟨_, by rw [hqueue, List.append_assoc], hq⟩, hst⟩

end Sys2Proof.Machine
end

section
/-! PROOFS. LOAD-FINISH: its refusals, and the close of a load whose compartments wait or are DONE (R17, R19, R40, R149). -/

namespace Sys2Proof.Machine

variable {s t : State} {l u v : LoadRecord} {c : CompRecord}

theorem ownLoadFinish_refused (h : s.load = none ∨ ∃ l, s.load = some l ∧ (l.state = .closing ∨ ∃ c ∈ l.comps, c.state.isActive = true)) :
    ownLoadFinish s = refuse .state s := by
  unfold ownLoadFinish
  obtain h | ⟨l, hl, h⟩ := h
  · simp only [h]
  · simp only [hl]
    exact if_pos (by rw [List.any_eq_true]; exact h)

/-- A compartment of a load that can be finished waits or is DONE. -/
def CompState.isOver (st : CompState) : Bool := st.isIdle || st == .done

theorem ownLoadFinish_taken (hl : s.load = some l) (hs : l.state ≠ .closing)
    (hc : ∀ c ∈ l.comps, c.state = .pending ∨ c.state = .halted ∨ c.state = .done) :
    ownLoadFinish s = reply .accepted .none s.finishIdle.closeIfDone := by
  simp only [ownLoadFinish, hl]
  refine if_neg ?_
  rw [List.any_eq_true]
  rintro (h | ⟨c, hm, ha⟩)
  · exact hs h
  · obtain h | h | h := hc c hm <;> rw [h] at ha <;> exact nomatch ha

/-! ### The note (R149 to R154) -/

theorem noteLines_eq_map_zipIdx (products : Vector ProductEntry 16) (k : Nat) (cs : List CompRecord) :
    noteLines products (k + 1) cs = (cs.zipIdx k).map fun x => x.1.noteLine products (x.2 + 1) := by
  induction cs generalizing k with
  | nil => rfl
  | cons c cs ih => rw [noteLines, ih, List.zipIdx_cons]; rfl

/-- The status of the note of a load whose compartments are all DONE (R151). -/
theorem LoadRecord.noteStatus_of_done (h : ∀ c ∈ u.comps, c.state = .done) : u.noteStatus
    = if u.totalGross = 0 then .void
      else if u.comps.all (fun c => !c.flags.notLoaded && !c.flags.short) then .complete else .short := by
  have hall : (u.comps.all fun c => c.state == .done && !c.flags.notLoaded && !c.flags.short)
      = u.comps.all fun c => !c.flags.notLoaded && !c.flags.short :=
    Bool.eq_iff_iff.2 (by
      rw [List.all_eq_true, List.all_eq_true]
      exact forall₂_congr fun c hc => by rw [h c hc]; simp)
  rw [LoadRecord.noteStatus, hall]

/-- The note of a load whose compartments are all DONE, written out (R149 to R154). -/
theorem LoadRecord.note_of_done (h : ∀ c ∈ u.comps, c.state = .done) (products : Vector ProductEntry 16) : u.note products =
    { header := ⟨if (u.comps.map CompRecord.gross).sum = 0 then .void
          else if u.comps.all (fun c => !c.flags.notLoaded && !c.flags.short) then .complete else .short,
        u.number, u.card, u.carrier, u.openTime, u.closeTime.bind CloseTime.stamp?, u.cecAtOpen, u.totalsUncertain,
        u.comps.length + u.noteAdditives.length + 2⟩
      comps := u.comps.zipIdx.map fun x => x.1.noteLine products (x.2 + 1)
      additives := u.noteAdditives
      trailer := ⟨(u.comps.map CompRecord.gross).sum, (u.comps.map CompRecord.net).sum,
        u.comps.length + u.noteAdditives.length + 2⟩ } := by
  have hlines : u.lineCount = u.comps.length + u.noteAdditives.length + 2 := by rw [LoadRecord.lineCount]; omega
  rw [LoadRecord.note, LoadRecord.noteStatus_of_done h, hlines, noteLines_eq_map_zipIdx]; rfl

/-! ### The compartments of a load that is finished -/

theorem CompState.isIdle_iff {st : CompState} : st.isIdle = true ↔ st = .pending ∨ st = .halted := by
  simp [CompState.isIdle]

namespace State.FinishedOver

variable (h : s.FinishedOver (fun c => c.state.isIdle) l v t)
include h

/-- A compartment of the load, once those that wait are DONE. -/
theorem mem_iff (hu : u.comps = v.comps) {d : CompRecord} :
    d ∈ u.comps ↔ ∃ c ∈ l.comps, (if c.state.isIdle then s.finishedComp c else c) = d := by
  rw [hu, h.comps, List.mem_map]

theorem map_eq (hu : u.comps = v.comps) {β : Type} (f g : CompRecord → β) (hi : ∀ c, c.state.isIdle = true → f (s.finishedComp c) = g c)
    (hn : ∀ c, c.state.isIdle = false → f c = g c) : u.comps.map f = l.comps.map g := by
  rw [hu, h.comps, List.map_map]
  refine List.map_congr_left fun c _ => ?_
  simp only [Function.comp]
  split
  · rename_i hc; exact hi c hc
  · rename_i hc; exact hn c (by simpa using hc)

theorem all_done (hu : u.comps = v.comps) (hc : ∀ c ∈ l.comps, c.state = .pending ∨ c.state = .halted ∨ c.state = .done) :
    ∀ c ∈ u.comps, c.state = .done := by
  intro d hd
  obtain ⟨c, hm, rfl⟩ := (h.mem_iff hu).1 hd
  split
  · rfl
  · rename_i hi
    rw [CompState.isIdle_iff] at hi
    have := hc c hm
    tauto

theorem idle_mem (hu : u.comps = v.comps) (hm : c ∈ l.comps) (hi : c.state.isIdle = true) : s.finishedComp c ∈ u.comps :=
  (h.mem_iff hu).2 ⟨c, hm, if_pos hi⟩

theorem other_mem (hu : u.comps = v.comps) (hm : c ∈ l.comps) (hi : c.state.isIdle = false) : c ∈ u.comps :=
  (h.mem_iff hu).2 ⟨c, hm, if_neg (by rw [hi]; exact Bool.false_ne_true)⟩

theorem released (hc : ∀ c ∈ l.comps, c.state = .pending ∨ c.state = .halted ∨ c.state = .done) (hm : c ∈ l.comps)
    (hd : c.state ≠ .done) {j : Fin 8} {p : Nat} (hj : s.injectors[j].binding = some ⟨c.line.compartment, p⟩) :
    s.injectors[j].ReleasedTo t.injectors[j] := by
  have hi : c.state.isIdle = true := CompState.isIdle_iff.2 (by have := hc c hm; tauto)
  rw [(h.injectors j).1 ⟨c, hm, hi, Injector.boundTo_iff.2 ⟨p, hj⟩⟩]
  exact Injector.releasedTo_released _

theorem unbound_kept {j : Fin 8}
    (hj : ∀ p : Nat, ∀ c ∈ l.comps, c.state ≠ .done → s.injectors[j].binding ≠ some ⟨c.line.compartment, p⟩) :
    t.injectors[j] = s.injectors[j] := by
  refine (h.injectors j).2 fun c hm hi => Bool.eq_false_iff.2 fun hb => ?_
  obtain ⟨p, hp⟩ := Injector.boundTo_iff.1 hb
  exact hj p c hm (fun hd => by rw [hd] at hi; exact nomatch hi) hp

end State.FinishedOver

/-! ### The load record and the rest of the state -/

theorem State.closeTimeNow_congr (h : t.clock = s.clock) : t.closeTimeNow = s.closeTimeNow := by
  rw [State.closeTimeNow, h]; rfl

/-- The state in which a load whose compartments are all DONE enters CLOSING, seen from the one before (R17). -/
structure State.ClosesFrom (s : State) (l v : LoadRecord) (e : State) : Prop where
  load : e.load = some v.entered
  record : ∃ st cs, v = { l with state := st, comps := cs }
  slots : e.slots = s.slots
  permits : e.permits = s.permits
  charge : e.chargeOwed = s.chargeOwed
  pumps : e.pumps = s.pumps
  safety : e.safety = s.safety.endLoad
  apart : e.apart = s.apart

theorem State.FinishedOver.closesFrom (h : s.FinishedOver (fun c => c.state.isIdle) l v t) :
    s.ClosesFrom l v t.enterClosing := by
  obtain ⟨hpumps, hslots, hsafety, hpermits, hcharge, hapart⟩ := State.of_still h.still
  have hf := State.enterClosing_eq t
  refine ⟨State.enterClosing_load h.load, ?_, ?_, ?_, ?_, ?_, ?_, (State.enterClosing_apart _).trans hapart⟩
  · obtain ⟨st, hv⟩ := h.record; exact ⟨st, _, hv⟩
  · rw [hf]; exact hslots
  · rw [hf]; exact hpermits
  · rw [hf]; exact hcharge
  · rw [hf]; exact hpumps
  · rw [hf, hsafety]

/-- The close of a load all of whose compartments are DONE (R17, R19). -/
theorem State.FinishedOver.closes (h : s.FinishedOver (fun c => c.state.isIdle) l v t) (hs : l.state ≠ .closing)
    (hc : ∀ c ∈ l.comps, c.state = .pending ∨ c.state = .halted ∨ c.state = .done) :
    t.closeIfDone = if l.closeTime.isSome then t.enterClosing else t.enterClosing.handOff := by
  have hv : v.closeTime = l.closeTime := by obtain ⟨st, hv⟩ := h.record; rw [hv]
  rw [State.closeIfDone_of_done h.load (h.all_done rfl hc), if_neg fun he => hs (h.closing.1 he), hv]

section HandOff

variable {e : State} {r : PermitEntry} (h : s.ClosesFrom l v e)
include h

theorem State.ClosesFrom.keeps : e.clock = s.clock ∧ e.products = s.products ∧ e.serial = s.serial ∧ e.meters = s.meters := by
  have hser := congrArg State.serial h.apart
  obtain ⟨hmeters, -, -, -, hclock, -, -, hproducts⟩ := State.of_apart h.apart
  exact ⟨hclock, hproducts, hser, hmeters⟩

theorem State.ClosesFrom.handOff_load : e.handOff.load = some (v.entered.closedAt s.closeTimeNow) := by
  rw [State.handOff_load h.load, State.closeTimeNow_congr h.keeps.1]

theorem State.ClosesFrom.slot : v.entered.slot = l.slot := by obtain ⟨st, cs, rfl⟩ := h.record; rfl

theorem State.ClosesFrom.card : v.entered.card = l.card := by obtain ⟨st, cs, rfl⟩ := h.record; rfl

theorem State.ClosesFrom.handOff_slots :
    e.handOff.slots[l.slot].note = some ((v.entered.closedAt s.closeTimeNow).note s.products)
      ∧ (e.handOff.slots[l.slot].state = .composing ∨ e.handOff.slots[l.slot].state = .committing)
      ∧ ∀ i : Fin 8, i ≠ l.slot → e.handOff.slots[i] = s.slots[i] := by
  obtain ⟨hclock, hproducts, -⟩ := h.keeps
  have hslots := State.handOff_slots h.load
  rw [State.closeTimeNow_congr hclock, hproducts, h.slots] at hslots
  obtain ⟨st, cs, rfl⟩ := h.record
  exact hslots

theorem State.ClosesFrom.permit? (k : Nat) : e.permit? k = s.permit? k := State.permit?_of_permits h.permits k

theorem State.ClosesFrom.handOff_permits_of_idle (hi : ∀ r ∈ s.permits, r.content.card = l.card → r.inUse = false) :
    e.handOff.permits = s.permits := by
  refine (State.handOff_permits_of_idle h.load fun r hr => ?_).trans h.permits
  rw [h.permit?, h.card] at hr
  exact hi r (List.mem_of_find?_eq_some hr) (by simpa using List.find?_some hr)

theorem State.ClosesFrom.handOff_permits_of_inUse (hr : s.permit? l.card = some r) (hu : r.inUse = true) :
    e.handOff.permits = withPermit l.card (r.charged (v.entered.closedAt s.closeTimeNow).totalGross) s.permits := by
  have hp := State.handOff_permits_of_inUse (e := r) h.load (by rw [h.permit?, h.card]; exact hr) hu
  rw [h.permits, h.card] at hp
  exact hp

/-- Where nothing waited, image, charge and commit stand in the queue, in that order. -/
theorem State.ClosesFrom.handOff_queue {x : LoadRecord} (hq : e.Quiet s.totals) (hx : e.Imaged s.totals x)
    (hr : s.permit? l.card = some r) (hu : r.inUse = true) :
    e.handOff.slots[l.slot].state = .committing
      ∧ ∃ q, e.handOff.queue = q ++ [.permit l.card (r.charged (v.entered.closedAt s.closeTimeNow).totalGross) false,
          .commit l.slot ((v.entered.closedAt s.closeTimeNow).note s.products) (s.serial + 1)]
        ∧ ImageFirst s.totals (v.entered.closedAt s.closeTimeNow) q := by
  obtain ⟨hclock, hproducts, hserial, -⟩ := h.keeps
  obtain ⟨⟨q, hque, hfirst⟩, hst⟩ := hq.handOff hx h.load rfl
  rw [State.chargeRecords_of_inUse (l := v.entered.closedAt e.closeTimeNow) (e := r)
    (by rw [h.permit?]; exact (congrArg s.permit? h.card).trans hr) hu, State.closeTimeNow_congr hclock, hproducts, hserial] at hque
  rw [State.closeTimeNow_congr hclock] at hfirst
  obtain ⟨st, cs, rfl⟩ := h.record
  exact ⟨hst, q, hque, hfirst⟩

end HandOff

/-- What the close leaves of a state in which the load has entered CLOSING, hand-off or not. -/
theorem State.ClosesFrom.closed {e : State} (h : s.ClosesFrom l v e) (ht : t = if l.closeTime.isSome then e else e.handOff) :
    ∃ u, t.load = some u ∧ u.state = .closing ∧ u.comps = v.comps ∧ t.injectors = e.injectors ∧ t.arms = e.arms
      ∧ t.meters = s.meters ∧ t.pumps = s.pumps ∧ t.safety = s.safety.endLoad := by
  obtain ⟨-, -, -, hmeters⟩ := h.keeps
  subst ht
  split
  · exact ⟨_, h.load, rfl, rfl, rfl, rfl, hmeters, h.pumps, h.safety⟩
  · refine ⟨_, h.handOff_load, rfl, rfl, ?_⟩
    have hf := e.handOff_eq
    refine ⟨?_, ?_, ?_, ?_, ?_⟩
    · rw [hf]
    · rw [hf]
    · rw [hf]; exact hmeters
    · rw [hf]; exact h.pumps
    · rw [hf]; exact h.safety

/-- The entry of a card after its charge, written out (R40, R41). -/
theorem PermitEntry.charged_eq (gross : Nat) (e : PermitEntry) : e.charged gross = match e.action with
    | .none => some ⟨{ e.content with
        loads := if 0 < gross ∧ e.content.loads ≠ 255 then e.content.loads - 1 else e.content.loads }, false, .none⟩
    | .replace c => some ⟨c, false, .none⟩
    | .delete => none := by
  unfold PermitEntry.charged PermitEntry.settled chargedLoads
  cases e.action <;> rfl

/-- A state with nothing queued or owed is quiet. -/
theorem State.quiet_of_empty (hrun : s.phase = .running) (hl : s.load = some l) (ht : l.closeTime = none) (hq : s.queue = [])
    (hw : s.writing = false) (hb : s.backlog = []) (hc : s.chargeOwed = none) (hk : s.checkpointOwed = false) :
    s.Quiet s.totals :=
  ⟨hw, hb, hrun, hc, hk, rfl, fun u hu => by rw [hl] at hu; cases hu; exact ht, .inl hq⟩

/-- Settles O39: LOAD-FINISH refused, and the close of the load it finds. -/
theorem finishClosesLoad : Obligations.FinishClosesLoad := by
  constructor
  · intro g body tail s hrun w h
    exact exec_answers rfl rfl hrun rfl (ownLoadFinish_refused (s := s.seen .loadFinish w) h)
  intro g body tail l s hrun hl hs hc hn w
  obtain ⟨v, hv⟩ := State.finishIdle_over (s := s.seen .loadFinish w) hl hn
  have hfrom := hv.closesFrom
  have hclose := hv.closes hs hc
  obtain ⟨u, hu, hclosing, hcomps, hinj, harms, hmeters, hpumps, hsafety⟩ := hfrom.closed hclose
  have hinj' : (s.seen .loadFinish w).finishIdle.closeIfDone.injectors = (s.seen .loadFinish w).finishIdle.injectors := by
    rw [hinj, State.enterClosing_eq]
  have harms' : (s.seen .loadFinish w).finishIdle.closeIfDone.arms = s.arms := by
    rw [harms, State.enterClosing_eq]; exact hv.arms
  have hdone := hv.all_done hcomps hc
  refine ⟨_, u, exec_answers rfl rfl hrun rfl (ownLoadFinish_taken (s := s.seen .loadFinish w) hl hs hc), hu, hclosing, hdone,
    ?_, ?_, ?_, fun c hm hi => ?_, fun c hm hd => ?_, fun j p c hm hd hj => ?_, fun j hj => ?_, hmeters, hpumps, harms', hsafety,
    ?_⟩
  · refine hv.map_eq hcomps _ _ (fun c _ => ?_) fun _ _ => rfl
    obtain ⟨-, hgross, hnet, hline, hopen, hclosed, hhalt⟩ := c.idleMark_keeps c
    show ((c.idleMark c).line, (c.idleMark c).gross, (c.idleMark c).net, (c.idleMark c).opening, (c.idleMark c).closing,
      (c.idleMark c).haltCause) = _
    rw [hgross, hnet, hline, hopen, hclosed, hhalt]
  · refine hv.map_eq hcomps _ _ (fun c hi => ?_) fun c hi => ?_
    · show (c.idleMark c).flags.notLoaded = _
      rw [CompRecord.idleMark_flags hi]
    · have hp : (c.state == .pending) = false := (Bool.or_eq_false_iff.1 hi).1
      rw [hp, Bool.or_false]
  · refine hv.map_eq hcomps _ _ (fun c hi => ?_) fun c hi => ?_
    · show (c.idleMark c).flags.short = _
      rw [CompRecord.idleMark_flags hi]
    · have hp : (c.state == .halted) = false := (Bool.or_eq_false_iff.1 hi).2
      rw [hp, Bool.or_false]
  · obtain ⟨hadd, hgross, -, hline, -⟩ := c.idleMark_keeps c
    exact ⟨_, hv.idle_mem hcomps hm (CompState.isIdle_iff.2 hi), hline, State.resultsAtDone_doneAt hadd hgross rfl⟩
  · exact hv.other_mem hcomps hm (by rw [hd]; rfl)
  · rw [hinj']; exact hv.released hc hm hd hj
  · rw [hinj']; exact hv.unbound_kept hj
  intro ht stamp gross additives lines note charged
  have hclose' := hclose.trans (if_neg (by rw [ht]; exact Bool.false_ne_true))
  rw [hclose', hfrom.handOff_load] at hu
  obtain rfl := Option.some.inj hu
  rw [hclose']
  have hvt : v.entered.closeTime = none := by
    obtain ⟨st, cs, hv⟩ := hfrom.record; rw [hv]; exact ht
  have htime : (v.entered.closedAt (s.seen .loadFinish w).closeTimeNow).closeTime = some s.closeTimeNow := by
    rw [LoadRecord.closedAt, hvt]; rfl
  have hstamp : (some s.closeTimeNow).bind CloseTime.stamp? = stamp := by
    show (State.closeTimeNow s).stamp? = if _ then _ else _
    unfold State.closeTimeNow
    split <;> rfl
  have hnote : (v.entered.closedAt (s.seen .loadFinish w).closeTimeNow).note s.products = note := by
    rw [LoadRecord.note_of_done hdone, htime, hstamp]
    obtain ⟨st, cs, rfl⟩ := hfrom.record
    rfl
  have hcharged (e : PermitEntry) :
      e.charged (v.entered.closedAt (s.seen .loadFinish w).closeTimeNow).totalGross = charged e := by
    rw [PermitEntry.charged_eq]; rfl
  obtain ⟨hslot, hstate, hothers⟩ := hfrom.handOff_slots
  refine ⟨htime, hslot.trans (congrArg some hnote), hstate, hothers, hfrom.handOff_permits_of_idle, fun e he hin =>
    ⟨?_, fun hq hw hb hch hck => ?_⟩⟩
  · rw [← hcharged]; exact hfrom.handOff_permits_of_inUse he hin
  · have hquiet := State.quiet_of_empty (s := s.seen .loadFinish w) hrun hl ht hq hw hb hch hck
    obtain ⟨hque, x, hx⟩ := hquiet.finishIdle.enterClosing hv.load
    obtain ⟨hst, q, hqueue, hfirst⟩ := hfrom.handOff_queue hque hx he hin
    rw [hcharged] at hqueue
    exact ⟨hst, q, hnote ▸ hqueue, hfirst.mem⟩

end Sys2Proof.Machine
end

section
/-! PROOFS. LOAD-ABORT: the load in CLOSING at once, its compartments DONE or driven to close (R18). -/

namespace Sys2Proof.Machine

variable {s t : State} {l : LoadRecord} {c : CompRecord}

theorem ownLoadAbort_refused (h : s.load = none ∨ ∃ l, s.load = some l ∧ l.state = .closing) :
    ownLoadAbort s = refuse .state s := by
  unfold ownLoadAbort
  obtain h | ⟨l, hl, h⟩ := h
  · simp only [h]
  · simp only [hl]
    exact if_pos h

theorem ownLoadAbort_taken (hl : s.load = some l) (hs : l.state ≠ .closing) : ownLoadAbort s
    = reply .accepted .none (s.enterClosing.finishIdle.driveAll (.halt .abort)).closeIfDone := by
  simp only [ownLoadAbort, hl]
  exact if_neg hs

theorem CompState.not_isIdle_of_drivable {st : CompState} (h : st.isDrivable = true) : st.isIdle = false := by
  obtain rfl | rfl | rfl | rfl := CompState.isDrivable_iff.1 h <;> rfl

/-- A compartment of an aborted load: DONE if it waited, driven to close if it was staging, and else as it was. -/
def State.abortedComp (s : State) (c : CompRecord) : CompRecord :=
  if c.state.isIdle then s.finishedComp c else if c.state.isDrivable then s.drivenComp (.halt .abort) c else c

theorem State.abortedComp_of_idle (h : c.state.isIdle = true) : s.abortedComp c = s.finishedComp c := if_pos h

theorem State.abortedComp_of_drivable (h : c.state.isDrivable = true) : s.abortedComp c = s.drivenComp (.halt .abort) c := by
  rw [State.abortedComp, if_neg (by rw [CompState.not_isIdle_of_drivable h]; exact Bool.false_ne_true), if_pos h]

theorem State.abortedComp_of_closing (h : c.state = .closing) : s.abortedComp c = c := by
  rw [State.abortedComp, h]; rfl

theorem State.abortedComp_state (c : CompRecord) : (s.abortedComp c).state = .closing ∨ (s.abortedComp c).state = .done := by
  by_cases hi : c.state.isIdle = true
  · rw [State.abortedComp_of_idle hi]; exact .inr rfl
  · by_cases hd : c.state.isDrivable = true
    · rw [State.abortedComp_of_drivable hd]; exact .inl rfl
    · rw [State.abortedComp, if_neg hi, if_neg hd]
      cases h : c.state <;> simp_all [CompState.isIdle, CompState.isDrivable]

theorem State.abortedComp_keeps (c : CompRecord) : (s.abortedComp c).line = c.line ∧ (s.abortedComp c).gross = c.gross
    ∧ (s.abortedComp c).net = c.net := by
  unfold State.abortedComp
  split
  · obtain ⟨-, hgross, hnet, hline, -⟩ := c.idleMark_keeps c
    exact ⟨hline, hgross, hnet⟩
  · split <;> exact ⟨rfl, rfl, rfl⟩

theorem State.finishedComp_congr (h : t.injectors = s.injectors) (c : CompRecord) : t.finishedComp c = s.finishedComp c := by
  have hcount (n : Nat) (rs : List ComponentResult) : State.countReleased n t rs = State.countReleased n s rs := by
    unfold State.countReleased; rw [h]
  rw [State.finishedComp, State.doneAt, hcount]; rfl

/-- What LOAD-ABORT makes of the load's compartments, of their arms and of the injectors that dose those it drives. -/
theorem State.aborted (hl : s.load = some l) (hn : (l.comps.map fun c => c.line.compartment).Nodup)
    (ht : (s.enterClosing.finishIdle.driveAll (.halt .abort)).closeIfDone = t) :
    ∃ u, t.load = some u ∧ u.state = .closing ∧ u.comps = l.comps.map s.abortedComp
      ∧ (∀ c ∈ l.comps, c.state.isDrivable = true → t.arms[c.line.arm] = s.arms[c.line.arm].driven
        ∧ ∀ j : Fin 8, s.injectors[j].boundTo c.line.compartment = true → t.injectors[j] = s.injectors[j].flowStopped)
      ∧ t.meters = s.meters ∧ t.pumps = s.pumps := by
  have hframe := s.enterClosing_eq
  have hel := State.enterClosing_load hl
  have heinj : s.enterClosing.injectors = s.injectors := by rw [hframe]
  have hearms : s.enterClosing.arms = s.arms := by rw [hframe]
  have hepumps : s.enterClosing.pumps = s.pumps := by rw [hframe]
  have hemeters : s.enterClosing.meters = s.meters := by rw [hframe]
  generalize s.enterClosing = e at *
  obtain ⟨v, hv⟩ := State.finishIdle_over hel hn
  generalize e.finishIdle = f at *
  have hvn : (v.comps.map fun c => c.line.compartment).Nodup := by
    have hsame := hv.map_eq rfl (fun c => c.line.compartment) (fun c => c.line.compartment)
      (fun c _ => c.idleMark_compartment c) fun _ _ => rfl
    rw [hsame]; exact hn
  obtain ⟨u, hu⟩ := State.driveAll_over hv.load hvn (.halt .abort)
  generalize f.driveAll (.halt .abort) = g at *
  obtain ⟨u', hu', hcomps, hdone, hwait⟩ := State.closeIfDone_load hu.load
  have hstate : u.state = .closing := hu.closing (hv.closing.2 rfl)
  have bound (c : CompRecord) (hm : c ∈ l.comps) (hd : c.state.isDrivable = true) (j : Fin 8)
      (hj : s.injectors[j].boundTo c.line.compartment = true) : f.injectors[j] = s.injectors[j] := by
    rw [← heinj] at hj ⊢
    exact hv.bound_kept hn (LoadRecord.comp?_of_mem hn hm rfl) (CompState.not_isIdle_of_drivable hd) hj
  have bound' (c : CompRecord) (hm : c ∈ l.comps) (hd : c.state.isDrivable = true) (j : Fin 8) :
      f.injectors[j].boundTo c.line.compartment = s.injectors[j].boundTo c.line.compartment := by
    cases hj : s.injectors[j].boundTo c.line.compartment with
    | true => rw [bound c hm hd j hj]; exact hj
    | false =>
      obtain h | h := hv.injector_cases j
      · rw [h]; rfl
      · rw [h, heinj]; exact hj
  have hcs : u.comps = l.comps.map s.abortedComp := by
    rw [hu.comps, hv.comps, List.map_map]
    refine List.map_congr_left fun c hm => ?_
    simp only [Function.comp]
    by_cases hi : c.state.isIdle = true
    · rw [if_pos hi, State.abortedComp_of_idle hi, State.finishedComp_congr heinj]
      exact if_neg Bool.false_ne_true
    · rw [if_neg hi, State.abortedComp, if_neg hi]
      split
      · rename_i hd
        rw [State.drivenComp, State.skipOwed_of_bound (bound c hm hd) (bound' c hm hd)]; rfl
      · rfl
  have harms : t.arms = g.arms := by rw [← ht, State.closeIfDone_arms]
  have hinj : t.injectors = g.injectors := by rw [← ht, State.closeIfDone_injectors]
  have hpumps : t.pumps = s.pumps := by
    rw [← ht, State.closeIfDone_eq, ← hepumps]
    exact (State.of_still hu.still).1.trans (State.of_still hv.still).1
  have hmeters : t.meters = s.meters := by
    rw [← ht, State.closeIfDone_eq, ← hemeters]
    exact (State.of_apart (State.of_still hu.still).2.2.2.2.2).1.trans (State.of_apart (State.of_still hv.still).2.2.2.2.2).1
  rw [ht] at hu'
  refine ⟨u', hu', ?_, hcomps.trans hcs, fun c hm hd => ⟨?_, fun j hj => ?_⟩, hmeters, hpumps⟩
  · by_cases hall : ∀ c ∈ u.comps, c.state = .done
    · exact (hdone hall).1
    · rw [hwait (by simpa using hall)]; exact hstate
  · rw [harms, (hu.arms _).1 ⟨c, hv.other_mem rfl hm (CompState.not_isIdle_of_drivable hd), hd, rfl⟩, hv.arms, hearms]
  · rw [hinj, (hu.injectors j).1 ⟨c, hv.other_mem rfl hm (CompState.not_isIdle_of_drivable hd), hd, ?_⟩, bound c hm hd j hj]
    rw [bound c hm hd j hj]; exact hj

/-- Settles O40: LOAD-ABORT refused, and the load that it takes into CLOSING. -/
theorem abortClosesLoad : Obligations.AbortClosesLoad := by
  constructor
  · intro g body tail s hrun w h
    exact exec_answers rfl rfl hrun rfl (ownLoadAbort_refused (s := s.seen .loadAbort w) h)
  intro g body tail l s hrun hl hs hn w
  obtain ⟨u, hu, hclosing, hcomps, hdriven, hmeters, hpumps⟩ := State.aborted (s := s.seen .loadAbort w) hl hn rfl
  have mem (c : CompRecord) (hm : c ∈ l.comps) : s.abortedComp c ∈ u.comps := by
    rw [hcomps]; exact List.mem_map_of_mem hm
  refine ⟨_, u, exec_answers rfl rfl hrun rfl (ownLoadAbort_taken (s := s.seen .loadAbort w) hl hs), hu, hclosing,
    fun c hc => ?_, ?_, fun c hm hst => ?_, fun c hm hst => ?_, fun c hm hst => ?_, hmeters, hpumps⟩
  · rw [hcomps] at hc
    obtain ⟨c, -, rfl⟩ := List.mem_map.1 hc
    exact State.abortedComp_state c
  · rw [hcomps, List.map_map]
    refine List.map_congr_left fun c _ => ?_
    obtain ⟨hline, hgross, hnet⟩ := State.abortedComp_keeps (s := s.seen .loadAbort w) c
    simp only [Function.comp, hline, hgross, hnet]
  · have hd := CompState.isDrivable_iff.2 hst
    obtain ⟨harm, hinj⟩ := hdriven c hm hd
    exact ⟨State.abortedComp_of_drivable (s := s) hd ▸ mem c hm, fun _ => harm,
      fun j p hj => hinj j (Injector.boundTo_iff.2 ⟨p, hj⟩)⟩
  · exact ⟨c, State.abortedComp_of_closing (s := s) hst ▸ mem c hm, rfl, hst, rfl, rfl⟩
  · have hi := CompState.isIdle_iff.2 hst
    obtain ⟨-, -, -, hline, -⟩ := c.idleMark_keeps c
    exact ⟨s.finishedComp c, State.abortedComp_of_idle (s := s) hi ▸ mem c hm, hline, rfl, CompRecord.idleMark_flags hi⟩

end Sys2Proof.Machine
end

section
/-! PROOFS. The binding of a recipe's components to IDLE injectors, additives differing, as one update (R100). -/

namespace Sys2Proof.Machine

variable {s t : State} {n recipe p : Nat} {a : Fin 4} {c : Component} {cs : List Component} {j : Fin 8}

theorem State.findInjector_eq_some {additive : Nat} (h : s.findInjector a additive = some j) :
    s.injectors[j].assign.arm = some a ∧ s.injectors[j].assign.additive = additive ∧ s.injectors[j].state = .idle := by
  have hj := List.find?_some h
  simp only [Bool.and_eq_true, beq_iff_eq] at hj
  exact ⟨hj.1.1, hj.1.2, hj.2⟩

/-- An injector of another additive is not the one found, whatever becomes of it. -/
theorem State.findInjector_modifyInjector {additive : Nat} (f : Injector → Injector) (hf : ∀ x, (f x).assign = x.assign)
    (h : s.injectors[j].assign.additive ≠ additive) : (s.modifyInjector j f).findInjector a additive = s.findInjector a additive := by
  unfold State.findInjector
  congr 1
  funext i
  rw [State.modifyInjector_get]
  by_cases hi : i = j
  · subst hi
    have hne : (s.injectors[i].assign.additive == additive) = false := beq_eq_false_iff_ne.2 h
    simp only [if_pos, hf, hne, Bool.and_false, Bool.false_and]
  · rw [if_neg hi]

/-- The result that a component has when it is bound, and the injector and stroke volume that it takes (R100). -/
def State.boundResult (a : Fin 4) (recipe : Nat) (s : State) (x : Component × Nat) : ComponentResult :=
  ComponentResult.initial x.2 recipe x.1 (s.findInjector a x.1.additive) ((s.findInjector a x.1.additive).map fun j => s.cal.stroke[j])

/-- A compartment with further component results. -/
def CompRecord.joined (rs : List ComponentResult) (x : CompRecord) : CompRecord := { x with additives := x.additives ++ rs }

theorem CompRecord.joined_joined (r : ComponentResult) (rs : List ComponentResult) (x : CompRecord) :
    CompRecord.joined rs (x.joined [r]) = x.joined (r :: rs) := by
  simp only [CompRecord.joined, List.append_assoc, List.singleton_append]

/-- A component bound: its result, and its injector where one is found. -/
def State.bindOne (n : Nat) (a : Fin 4) (recipe p : Nat) (c : Component) (s : State) : State :=
  match s.findInjector a c.additive with
  | none => s.modifyComp n (CompRecord.joined [s.boundResult a recipe (c, p)])
  | some j => (s.modifyComp n (CompRecord.joined [s.boundResult a recipe (c, p)])).modifyInjector j
      (Injector.arm n p)

theorem State.bindFrom_cons : State.bindFrom n a recipe p (c :: cs) s
    = State.bindFrom n a recipe (p + 1) cs (s.bindOne n a recipe p c) := by
  rw [State.bindFrom]
  unfold State.bindOne State.boundResult
  dsimp only
  cases h : s.findInjector a c.additive <;> rfl

theorem State.bindOne_load : (s.bindOne n a recipe p c).load
    = s.load.map fun l => l.modifyComp n (CompRecord.joined [s.boundResult a recipe (c, p)]) := by
  unfold State.bindOne; split <;> rfl

theorem State.bindOne_cal : (s.bindOne n a recipe p c).cal = s.cal := by unfold State.bindOne; split <;> rfl

theorem State.bindOne_injector (j : Fin 8) : (s.bindOne n a recipe p c).injectors[j]
    = if s.findInjector a c.additive = some j then s.injectors[j].arm n p else s.injectors[j] := by
  unfold State.bindOne
  split
  · rename_i h; rw [if_neg (by rw [h]; exact nofun)]; rfl
  · rename_i i h
    rw [State.modifyInjector_get, h]
    by_cases hj : j = i
    · subst hj; rw [if_pos rfl, if_pos rfl]; rfl
    · rw [if_neg hj, if_neg fun he => hj (Option.some.inj he).symm]; rfl

/-- The injector of a component of another additive is found as before. -/
theorem State.bindOne_findInjector {additive : Nat} (h : additive ≠ c.additive) :
    (s.bindOne n a recipe p c).findInjector a additive = s.findInjector a additive := by
  unfold State.bindOne
  split
  · rfl
  · rename_i j hj
    exact State.findInjector_modifyInjector (s := s.modifyComp n _) (Injector.arm n p) (fun _ => rfl)
      (by obtain ⟨-, hadd, -⟩ := State.findInjector_eq_some hj; exact hadd.trans_ne h.symm)

theorem State.bindFrom_rest : State.bindFrom n a recipe p cs s
    = { s with load := (State.bindFrom n a recipe p cs s).load, injectors := (State.bindFrom n a recipe p cs s).injectors } := by
  induction cs generalizing p s with
  | nil => rfl
  | cons c cs ih =>
    rw [State.bindFrom_cons, ih, State.bindOne]
    split <;> rfl

section Distinct

variable (hd : (cs.map Component.additive).Nodup)
include hd

theorem State.bindFrom_load : (State.bindFrom n a recipe p cs s).load = s.load.map fun l =>
    l.modifyComp n (CompRecord.joined ((cs.zipIdx p).map (s.boundResult a recipe))) := by
  induction cs generalizing p s with
  | nil =>
    cases hl : s.load with
    | none => simp [State.bindFrom, hl]
    | some l => simp [State.bindFrom, hl, LoadRecord.modifyComp, CompRecord.joined]
  | cons c cs ih =>
    obtain ⟨hc, hcs⟩ := List.nodup_cons.1 hd
    have hsame : (cs.zipIdx (p + 1)).map ((s.bindOne n a recipe p c).boundResult a recipe)
        = (cs.zipIdx (p + 1)).map (s.boundResult a recipe) := List.map_congr_left fun x hx => by
      have hne : x.1.additive ≠ c.additive := fun he => hc (he ▸ List.mem_map_of_mem (List.fst_mem_of_mem_zipIdx hx))
      rw [State.boundResult, State.boundResult, State.bindOne_findInjector hne, State.bindOne_cal]
    rw [State.bindFrom_cons, ih hcs, State.bindOne_load, Option.map_map, hsame, List.zipIdx_cons, List.map_cons]
    congr 1
    funext l
    have htwice := LoadRecord.modifyComp_modifyComp n (CompRecord.joined [s.boundResult a recipe (c, p)])
      (CompRecord.joined ((cs.zipIdx (p + 1)).map (s.boundResult a recipe))) (fun _ => rfl) l
    rw [show CompRecord.joined ((cs.zipIdx (p + 1)).map (s.boundResult a recipe)) ∘
      CompRecord.joined [s.boundResult a recipe (c, p)] = _ from funext fun x => CompRecord.joined_joined _ _ x] at htwice
    exact htwice

theorem State.bindFrom_injector_other (h : ∀ x ∈ cs, s.findInjector a x.additive ≠ some j) :
    (State.bindFrom n a recipe p cs s).injectors[j] = s.injectors[j] := by
  induction cs generalizing p s with
  | nil => rfl
  | cons c cs ih =>
    obtain ⟨hc, hcs⟩ := List.nodup_cons.1 hd
    rw [State.bindFrom_cons, ih hcs (fun x hx => ?_), State.bindOne_injector, if_neg (h c List.mem_cons_self)]
    rw [State.bindOne_findInjector fun he => hc (he ▸ List.mem_map_of_mem hx)]
    exact h x (List.mem_cons_of_mem _ hx)

omit hd in
/-- Components of different additives find different injectors. -/
theorem State.findInjector_ne {x y : Nat} (h : x ≠ y) (hx : s.findInjector a x = some j) : s.findInjector a y ≠ some j := by
  intro hy
  obtain ⟨-, hax, -⟩ := State.findInjector_eq_some hx
  obtain ⟨-, hay, -⟩ := State.findInjector_eq_some hy
  exact h (hax.symm.trans hay)

theorem State.bindFrom_injector_found {x : Component × Nat} (hx : x ∈ cs.zipIdx p) (hj : s.findInjector a x.1.additive = some j) :
    (State.bindFrom n a recipe p cs s).injectors[j] = s.injectors[j].arm n x.2 := by
  induction cs generalizing p s with
  | nil => exact nomatch hx
  | cons c cs ih =>
    obtain ⟨hc, hcs⟩ := List.nodup_cons.1 hd
    have apart (y : Component) (hy : y ∈ cs) : y.additive ≠ c.additive := fun he => hc (he ▸ List.mem_map_of_mem hy)
    rw [State.bindFrom_cons]
    obtain rfl | hx := List.mem_cons.1 (List.zipIdx_cons ▸ hx)
    · rw [State.bindFrom_injector_other hcs fun y hy => ?_, State.bindOne_injector, if_pos hj]
      rw [State.bindOne_findInjector (apart y hy)]
      exact State.findInjector_ne (apart y hy).symm hj
    · have hne := apart x.1 (List.fst_mem_of_mem_zipIdx hx)
      rw [ih hcs hx ((State.bindOne_findInjector hne).trans hj), State.bindOne_injector, if_neg (State.findInjector_ne hne hj)]

end Distinct

end Sys2Proof.Machine
end

section
/-! PROOFS. An arm that takes a compartment: its pump's demand rises by one, no other changes (R73, R89, R90). -/

namespace Sys2Proof.Machine

variable {s t : State} {a p q : Fin 4} {n k : Nat} {l u : LoadRecord}

/-! ### The demand counts -/

/-- The pump of an arm rests on the compartment that it serves and on the order line of that compartment. -/
theorem State.armPump_congr (hs : t.arms[a].served = s.arms[a].served)
    (hc : ∀ m, (t.comp? m).map CompRecord.line = (s.comp? m).map CompRecord.line) (hp : t.products = s.products) :
    t.armPump a = s.armPump a := by
  have hline (r : State) (m : Nat) : ((r.comp? m).bind fun c => r.products[c.line.product].pump)
      = ((r.comp? m).map CompRecord.line).bind fun x => r.products[x.product].pump := by
    cases r.comp? m <;> rfl
  unfold State.armPump
  rw [hs]
  cases s.arms[a].served with
  | none => rfl
  | some m => exact (hline t m).trans ((by rw [hc, hp] : _ = _).trans (hline s m).symm)

/-- From `s` to `t` only pump `p` and the arms' timers and stages have moved: the same arms demand the same pumps. -/
structure State.Demands (p : Fin 4) (s t : State) : Prop where
  demanding : ∀ b : Fin 4, t.arms[b].state.isDemanding = s.arms[b].state.isDemanding
  pump : ∀ b : Fin 4, t.armPump b = s.armPump b
  others : ∀ q : Fin 4, q ≠ p → t.pumps[q] = s.pumps[q]

theorem State.Demands.refl (p : Fin 4) (s : State) : State.Demands p s s := ⟨fun _ => rfl, fun _ => rfl, fun _ _ => rfl⟩

theorem State.Demands.trans {u : State} (h : State.Demands p s t) (h' : State.Demands p t u) : State.Demands p s u :=
  ⟨fun b => (h'.demanding b).trans (h.demanding b), fun b => (h'.pump b).trans (h.pump b),
    fun q hq => (h'.others q hq).trans (h.others q hq)⟩

theorem State.Demands.demandCount (h : State.Demands p s t) (q : Fin 4) : t.demandCount q = s.demandCount q := by
  unfold State.demandCount
  congr 1
  exact List.filter_congr fun b _ => by rw [h.demanding, h.pump]

theorem State.demands_modifyPump (p : Fin 4) (f : Pump → Pump) (s : State) : State.Demands p s (s.modifyPump p f) :=
  ⟨fun _ => rfl, fun _ => rfl, fun q hq => by rw [State.modifyPump_get, if_neg hq]⟩

theorem State.demands_modifyArm (p : Fin 4) {a : Fin 4} {f : Arm → Arm} (s : State)
    (hd : (f s.arms[a]).state.isDemanding = s.arms[a].state.isDemanding) (hs : (f s.arms[a]).served = s.arms[a].served) :
    State.Demands p s (s.modifyArm a f) := by
  refine ⟨fun b => ?_, fun b => State.armPump_congr ?_ (fun _ => rfl) rfl, fun _ _ => rfl⟩
  all_goals
    rw [State.modifyArm_get]
    split
    · rename_i h; subst h; assumption
    · rfl

theorem State.demands_settleExpired (p a : Fin 4) (s : State) : State.Demands p s (s.settleExpired a) := by
  by_cases ha : s.arms[a].state = .priming
  · have harm := State.demands_modifyArm p (f := Arm.toLow) s (by rw [ha]; rfl) rfl
    cases hn : s.arms[a].served with
    | none =>
      have h : s.settleExpired a = s.modifyArm a Arm.toLow := by
        rw [State.settleExpired, if_pos ha]; simp only [hn]; rfl
      rw [h]; exact harm
    | some n =>
      rw [State.settleExpired_of_priming ha hn]
      refine harm.trans ⟨fun b => by rw [State.compChanged_arms, State.modifyComp_arms], fun b => ?_, fun q _ => ?_⟩
      · refine State.armPump_congr (by rw [State.compChanged_arms, State.modifyComp_arms]) (fun m => ?_) ?_
        · rw [State.compChanged_comp?, State.modifyComp_comp? _ (f := fun c => { c with state := .lowStart }) (fun _ => rfl),
            Option.map_map]
          congr 1
          funext c
          simp only [Function.comp]
          split <;> rfl
        · exact (State.of_apart (State.compChanged_apart ..)).2.2.2.2.2.2.2
      · rw [(State.of_still (State.compChanged_still ..)).1]; rfl
  · rw [State.settleExpired_of_other ha]; exact .refl p s

theorem State.demands_startSettle (p a : Fin 4) (k : Nat) (s : State) : State.Demands p s (s.startSettle a k) := by
  unfold State.startSettle
  split
  · exact s.demands_settleExpired p a
  · exact State.demands_modifyArm p s rfl rfl

theorem State.demands_foldl {α : Type} {f : State → α → State} (hf : ∀ s x, State.Demands p s (f s x)) (xs : List α) (s : State) :
    State.Demands p s (xs.foldl f s) := by
  induction xs generalizing s with
  | nil => exact .refl p s
  | cons x xs ih => exact (hf s x).trans (ih _)

theorem State.demands_startSettles (p q : Fin 4) (s : State) : State.Demands p s (s.startSettles q) :=
  State.demands_foldl (fun s a => by
    split
    · exact State.demands_startSettle p a _ s
    · exact .refl p s) _ s

theorem State.demands_pumpRunning (p : Fin 4) (s : State) : State.Demands p s (s.pumpRunning p) :=
  ((State.demands_modifyPump p _ s).trans (State.demands_startSettles p p _)).trans (State.demands_modifyPump p _ _)

theorem State.demands_startPump (p : Fin 4) (s : State) : State.Demands p s (s.startPump p) := by
  unfold State.startPump
  dsimp only
  split
  · exact (State.demands_modifyPump p _ s).trans (State.demands_pumpRunning p _)
  · exact State.demands_modifyPump p _ s

theorem State.demands_recountPump (p : Fin 4) (s : State) : State.Demands p s (s.recountPump p) := by
  have hcount := State.demands_modifyPump p (fun x => { x with demand := s.demandCount p }) s
  have hrise (t : State) : State.Demands p t (t.demandRises p) := by
    unfold State.demandRises
    split
    · split
      · exact .refl p t
      · exact t.demands_startPump p
    · exact t.demands_pumpRunning p
    all_goals exact .refl p t
  have hfall (t : State) : State.Demands p t (t.demandFalls p) := by
    unfold State.demandFalls
    split
    · exact t.demands_modifyPump p _
    all_goals exact .refl p t
  unfold State.recountPump
  dsimp only
  split
  · exact hcount.trans (hrise _)
  · split
    · exact hcount.trans (hfall _)
    · exact hcount

/-! ### The recount, where one pump's demand has changed -/

/-- A pump whose demand stands counts as it did. -/
theorem State.recountPump_of_counted (h : s.pumps[q].demand = s.demandCount q) : s.recountPump q = s := by
  have hsame : (s.modifyPump q fun x => { x with demand := s.demandCount q }) = s := by
    rw [← h]
    exact congrArg (fun v => { s with pumps := v }) (Vector.set_getElem_self q.isLt)
  unfold State.recountPump
  dsimp only
  rw [hsame, if_neg (by omega), if_neg (by omega)]

/-- A fold over the four units that changes something at one of them alone. -/
theorem foldl_fours_one {f : State → Fin 4 → State} (h0 : ∀ q, q ≠ p → f s q = s) (h1 : ∀ q, q ≠ p → f (f s p) q = f s p) :
    fours.foldl f s = f s p := by
  revert h0 h1
  refine forall_four (P := fun p => (∀ q, q ≠ p → f s q = s) → (∀ q, q ≠ p → f (f s p) q = f s p)
    → fours.foldl f s = f s p) ?_ ?_ ?_ ?_ p <;> intro h0 h1 <;> simp [fours, h0, h1]

theorem State.recount_of_counted (h : ∀ q : Fin 4, s.pumps[q].demand = s.demandCount q) : s.recount = s :=
  (foldl_fours_one (p := 0) (fun q _ => State.recountPump_of_counted (h q)) fun q _ => by
    simp only [State.recountPump_of_counted (h 0), State.recountPump_of_counted (h q)]).trans (State.recountPump_of_counted (h 0))

theorem State.recount_one (h : ∀ q : Fin 4, q ≠ p → s.pumps[q].demand = s.demandCount q) : s.recount = s.recountPump p :=
  foldl_fours_one (fun q hq => State.recountPump_of_counted (h q hq)) fun q hq => by
    have hd := State.demands_recountPump p s
    exact State.recountPump_of_counted (by rw [hd.others q hq, hd.demandCount]; exact h q hq)

/-! ### The load with one compartment staging -/

variable {before after : List CompRecord} {c d : CompRecord}

/-- The load in ACTIVE, with `c` at its place among the compartments. -/
def LoadRecord.holding (l : LoadRecord) (before : List CompRecord) (c : CompRecord) (after : List CompRecord) : LoadRecord :=
  { l with state := .active, comps := before ++ c :: after }

theorem modifyComp_split {f : CompRecord → CompRecord} (hb : ∀ x ∈ before, x.line.compartment ≠ n)
    (ha : ∀ x ∈ after, x.line.compartment ≠ n) (hc : c.line.compartment = n) (hl : l.comps = before ++ c :: after) :
    (l.modifyComp n f).comps = before ++ f c :: after := by
  have keep (xs : List CompRecord) (h : ∀ x ∈ xs, x.line.compartment ≠ n) :
      xs.map (fun x => if x.line.compartment = n then f x else x) = xs :=
    (List.map_congr_left fun x hx => if_neg (h x hx)).trans (List.map_id _)
  rw [LoadRecord.modifyComp, hl, List.map_append, List.map_cons, keep before hb, keep after ha, if_pos hc]

/-- A load that is not closing, with no cause and a compartment active, is ACTIVE (R12). -/
theorem LoadRecord.reevaluated_active (hs : l.state ≠ .closing) (he : l.causes.isEmpty = true) (hm : c ∈ l.comps)
    (ha : c.state.isActive = true) : l.reevaluated = { l with state := .active } := by
  have hfin : ¬ l.finishing = true := by
    rw [LoadRecord.finishing, Bool.and_eq_true, List.all_eq_true]
    rintro ⟨-, hall⟩
    rw [beq_iff_eq.1 (hall c hm)] at ha
    exact nomatch ha
  have hany : (l.comps.any fun c => c.state.isActive) = true := List.any_eq_true.2 ⟨c, hm, ha⟩
  rw [LoadRecord.reevaluated, if_neg hfin, LoadRecord.evaluated, if_neg hs, he, Bool.not_true, if_neg Bool.false_ne_true, hany,
    if_pos rfl]

theorem LoadRecord.holding_modifyComp {f : CompRecord → CompRecord} (hb : ∀ x ∈ before, x.line.compartment ≠ n)
    (ha : ∀ x ∈ after, x.line.compartment ≠ n) (hc : c.line.compartment = n) (he : l.causes.isEmpty = true)
    (hf : (f c).state.isActive = true) :
    ((l.holding before c after).modifyComp n f).reevaluated = l.holding before (f c) after := by
  have hcomps : ((l.holding before c after).modifyComp n f).comps = before ++ f c :: after := modifyComp_split hb ha hc rfl
  have hm : f c ∈ ((l.holding before c after).modifyComp n f).comps := by rw [hcomps]; simp
  rw [LoadRecord.reevaluated_active (l := (l.holding before c after).modifyComp n f) (c := f c) nofun he hm hf]
  show ({ l with state := .active, comps := ((l.holding before c after).modifyComp n f).comps } : LoadRecord) = _
  rw [hcomps]; rfl

/-! ### What an arm's taking of a compartment has made of a state -/

/-- On the way from `s`, in which arm `a` is to take a compartment on the pump `pump`, to `t`, the arm has become `x` and the
load holds the compartment as `c`; no other arm and no other pump has moved, nor an injector that does not stroke. -/
structure State.Took (s : State) (a : Fin 4) (pump : Option (Fin 4)) (l : LoadRecord) (x : Arm) (t : State) : Prop where
  arms : t.arms = s.arms.set a x
  load : t.load = some l
  pumps : ∀ q : Fin 4, pump ≠ some q → t.pumps[q] = s.pumps[q]
  injectors : ∀ j : Fin 8, s.injectors[j].state ≠ .stroking → t.injectors[j] = s.injectors[j]
  offPumps : t.offPumps = s.offPumps

section Took

variable {pump : Option (Fin 4)} {x : Arm}

theorem State.took_modifyArm (hl : s.load = some l) (f : Arm → Arm) : s.Took a pump l (f s.arms[a]) (s.modifyArm a f) :=
  ⟨rfl, hl, fun _ _ => rfl, fun _ _ => rfl, rfl⟩

theorem State.Took.modifyPump (h : s.Took a (some p) l x t) (f : Pump → Pump) : s.Took a (some p) l x (t.modifyPump p f) :=
  ⟨h.arms, h.load, fun q hq => by
    rw [State.modifyPump_get, if_neg fun he => hq (congrArg some he.symm)]; exact h.pumps q hq, h.injectors, h.offPumps⟩

theorem State.Took.arm (h : s.Took a pump l x t) : t.arms[a] = x := by rw [h.arms, vector_get_set, if_pos rfl]

/-- A further change of the arm and of its compartment, posted. -/
theorem State.Took.stage {f : CompRecord → CompRecord} {g : Arm → Arm} (h : s.Took a pump (l.holding before c after) x t)
    (hb : ∀ y ∈ before, y.line.compartment ≠ n) (ha : ∀ y ∈ after, y.line.compartment ≠ n) (hc : c.line.compartment = n)
    (he : l.causes.isEmpty = true) (hf : ∀ d, (f d).line.compartment = d.line.compartment) (hact : (f c).state.isActive = true) :
    s.Took a pump (l.holding before (f c) after) (g x) (((t.modifyArm a g).modifyComp n f).compChanged n) := by
  have hcomp : t.comp? n = some c :=
    (State.comp?_of_load t h.load).trans (LoadRecord.comp?_append (l := l.holding before c after) rfl hc hb)
  have hcomp' : ((t.modifyArm a g).modifyComp n f).comp? n = some (f c) := by
    have hm := State.modifyComp_comp? (t.modifyArm a g) (n := n) hf n
    rw [State.modifyArm_comp?, hcomp, Option.map_some, if_pos hc] at hm
    exact hm
  have hload : ((t.modifyArm a g).modifyComp n f).load = some ((l.holding before c after).modifyComp n f) := by
    show t.load.map _ = _
    rw [h.load]; rfl
  refine ⟨?_, ?_, fun q hq => ?_, fun j hj => ?_, ?_⟩
  · rw [State.compChanged_arms, State.modifyComp_arms]
    show t.arms.set a (g t.arms[a]) = _
    rw [h.arm, h.arms, Vector.set_set]
  · rw [State.compChanged_load _ hcomp', hload, Option.map_some, LoadRecord.holding_modifyComp hb ha hc he hact]
  · rw [(State.of_still (State.compChanged_still ..)).1]; exact h.pumps q hq
  · rw [State.compChanged_injectors]; exact h.injectors j hj
  · rw [State.offPumps_of_still (State.compChanged_still ..)]; exact h.offPumps

/-- The settle timer starts, or has run out at once (R73, R74). -/
theorem State.Took.startSettle (h : s.Took a pump (l.holding before c after) x t) (hx : x.state = .priming)
    (hn : x.served = some n) (hb : ∀ y ∈ before, y.line.compartment ≠ n) (ha : ∀ y ∈ after, y.line.compartment ≠ n)
    (hc : c.line.compartment = n) (he : l.causes.isEmpty = true) :
    (k = 0 → s.Took a pump (l.holding before { c with state := .lowStart } after) x.toLow (t.startSettle a k))
      ∧ (0 < k → s.Took a pump (l.holding before c after) { x with settleTimer := some (k * 1000) } (t.startSettle a k)) := by
  refine ⟨fun hk => ?_, fun hk => ?_⟩
  · rw [State.startSettle, if_pos hk, State.settleExpired_of_priming (by rw [h.arm]; exact hx) (by rw [h.arm]; exact hn)]
    exact h.stage (f := fun c => { c with state := .lowStart }) hb ha hc he (fun _ => rfl) rfl
  · rw [State.startSettle, if_neg (by omega)]
    refine ⟨?_, h.load, h.pumps, h.injectors, h.offPumps⟩
    show t.arms.set a { t.arms[a] with settleTimer := some (k * 1000) } = _
    rw [h.arm, h.arms, Vector.set_set]

/-- A FAILED pump has the compartment driven to close (R92). -/
theorem State.Took.driveClose {r : CloseReason} (h : s.Took a pump (l.holding before c after) x t) (hst : c.state.isDrivable = true)
    (hb : ∀ y ∈ before, y.line.compartment ≠ n) (ha : ∀ y ∈ after, y.line.compartment ≠ n) (hc : c.line.compartment = n)
    (hca : c.line.arm = a) (he : l.causes.isEmpty = true) :
    s.Took a pump (l.holding before (t.drivenAt n r c) after) x.driven (t.driveClose n r) := by
  have hcomp : t.comp? n = some c :=
    (State.comp?_of_load t h.load).trans (LoadRecord.comp?_append (l := l.holding before c after) rfl hc hb)
  have hstill := State.driveClose_still t n r
  refine ⟨?_, ?_, fun q hq => ?_, fun j hj => ?_, ?_⟩
  · subst hca
    rw [State.driveClose_arms t hcomp hst, h.arm, h.arms, Vector.set_set]
  · rw [State.driveClose_load t hcomp hst, h.load, Option.map_some]
    exact congrArg some (LoadRecord.holding_modifyComp hb ha hc he rfl)
  · rw [(State.of_still hstill).1]; exact h.pumps q hq
  · have hsame := h.injectors j hj
    rw [State.driveClose_injectors t hcomp hst, hsame]
    split
    · exact Injector.flowStopped_of_not_stroking hj
    · rfl
  · rw [State.offPumps_of_still hstill]; exact h.offPumps

end Took

/-! ### The pump of an arm that takes a compartment -/

theorem fours_filter_one {P Q : Fin 4 → Bool} (h : ∀ b, b ≠ a → P b = Q b) (ha : Q a = false) :
    (fours.filter P).length = (fours.filter Q).length + if P a then 1 else 0 := by
  revert h ha
  refine forall_four (P := fun a => (∀ b, b ≠ a → P b = Q b) → Q a = false
    → (fours.filter P).length = (fours.filter Q).length + if P a then 1 else 0) ?_ ?_ ?_ ?_ a
  all_goals
    intro h ha
    simp only [fours, List.filter_cons, List.filter_nil, ha]
  · rw [h 1 (by decide), h 2 (by decide), h 3 (by decide)]; cases P 0 <;> simp
  · rw [h 0 (by decide), h 2 (by decide), h 3 (by decide)]; cases P 1 <;> cases Q 0 <;> simp
  · rw [h 0 (by decide), h 1 (by decide), h 3 (by decide)]; cases P 2 <;> cases Q 0 <;> cases Q 1 <;> simp
  · rw [h 0 (by decide), h 1 (by decide), h 2 (by decide)]; cases P 3 <;> cases Q 0 <;> cases Q 1 <;> cases Q 2 <;> simp

section Pump

variable {pump : Option (Fin 4)} (hidle : s.arms[a].state = .idle) (hc : s.comp? n = some c)
  (hpump : s.products[c.line.product].pump = pump)
include hidle hc hpump

theorem State.taking_armPump (b : Fin 4) : (s.modifyArm a (Arm.taking n)).armPump b = if b = a then pump else s.armPump b := by
  by_cases hb : b = a
  · subst hb
    have hserved : (s.modifyArm b (Arm.taking n)).arms[b].served = some n := by rw [State.modifyArm_get_self]; rfl
    have hcomp : (s.modifyArm b (Arm.taking n)).comp? n = some c := hc
    rw [State.armPump, if_pos rfl, ← hpump]
    simp only [hserved, hcomp, Option.bind_some]; rfl
  · rw [if_neg hb]
    exact State.armPump_congr (by rw [State.modifyArm_get, if_neg hb]) (fun _ => rfl) rfl

/-- The arm adds one to the demand of its pump (R89). -/
theorem State.taking_demandCount (q : Fin 4) :
    (s.modifyArm a (Arm.taking n)).demandCount q = s.demandCount q + if pump = some q then 1 else 0 := by
  have harm := State.taking_armPump hidle hc hpump
  unfold State.demandCount
  rw [fours_filter_one (a := a) (Q := fun b => s.arms[b].state.isDemanding && s.armPump b == some q)]
  · have hself : (s.modifyArm a (Arm.taking n)).arms[a].state.isDemanding = true := by rw [State.modifyArm_get_self]; rfl
    simp only [hself, harm, if_true, Bool.true_and, beq_iff_eq]
  · intro b hb
    simp only [State.modifyArm_get, if_neg hb, harm]
  · simp only [hidle]; rfl

variable (hcount : ∀ q : Fin 4, s.pumps[q].demand = s.demandCount q)
include hcount

theorem State.taking_recount_none (hp : pump = none) :
    (s.modifyArm a (Arm.taking n)).recount = s.modifyArm a (Arm.taking n) :=
  State.recount_of_counted fun q => by
    rw [State.taking_demandCount hidle hc hpump, hp]; exact hcount q

theorem State.taking_recount_one (hp : pump = some p) :
    (s.modifyArm a (Arm.taking n)).recount = (s.modifyArm a (Arm.taking n)).recountPump p :=
  State.recount_one fun q hq => by
    rw [State.taking_demandCount hidle hc hpump, hp, if_neg fun he => hq (Option.some.inj he).symm]; exact hcount q

/-- A pump that comes to run for the arm starts its settle timer, and no other arm's. -/
theorem State.taking_startSettles (hp : pump = some p) (hd : s.pumps[p].demand = 0) (ht : t.arms = (s.modifyArm a (Arm.taking n)).arms)
    (hl : t.load = s.load) (hpr : t.products = s.products) :
    t.startSettles p = t.startSettle a t.pumps[p].config.settle := by
  have hsame (b : Fin 4) : t.armPump b = if b = a then pump else s.armPump b := by
    rw [← State.taking_armPump hidle hc hpump]
    exact State.armPump_congr (by rw [ht]) (fun m => by rw [State.comp?, hl]; rfl) hpr
  have harm : t.arms[a] = s.arms[a].taking n := by rw [ht, State.modifyArm_get_self]
  have hself : State.settleArm p t a = t.startSettle a t.pumps[p].config.settle :=
    if_pos ⟨by rw [harm]; rfl, by rw [hsame, if_pos rfl]; exact hp, by rw [harm]; rfl⟩
  have other (u : State) (hu : State.Demands p t u) (b : Fin 4) (hb : b ≠ a) : State.settleArm p u b = u := by
    refine if_neg fun ⟨hst, hwait, _⟩ => ?_
    have hdem : s.arms[b].state.isDemanding = true := by
      have h := hu.demanding b
      rw [hst, ht, State.modifyArm_get, if_neg hb] at h
      exact h.symm
    rw [hu.pump, hsame, if_neg hb] at hwait
    have hzero : (fours.filter fun b => s.arms[b].state.isDemanding && s.armPump b == some p) = [] :=
      List.length_eq_zero_iff.1 ((hcount p).symm.trans hd)
    exact List.filter_eq_nil_iff.1 hzero b (mem_fours b) (by rw [hdem, hwait]; simp)
  rw [State.startSettles_eq, ← hself]
  refine foldl_fours_one (other t (.refl p t)) (other _ ?_)
  rw [hself]
  exact State.demands_startSettle p a _ t

end Pump

end Sys2Proof.Machine
end

section
/-! PROOFS. COMPARTMENT-START where no check refuses it: the compartment in STARTING, and what its arm makes of it on each state of
its pump (R15, R73, R90, R92, R94). -/

namespace Sys2Proof.Machine

variable {s t : State} {a p : Fin 4} {n k : Nat} {l : LoadRecord} {before after : List CompRecord} {c : CompRecord}
  {pump : Option (Fin 4)}

/-- A pump with one demand more. -/
def Pump.raised (x : Pump) : Pump := { x with demand := x.demand + 1 }

theorem State.modifyPump_raised (h : s.demandCount p = s.pumps[p].demand + 1) :
    (s.modifyPump p fun x => { x with demand := s.demandCount p }) = s.modifyPump p Pump.raised := by
  rw [h]; rfl

/-- Arm `a`, IDLE, is to take the compartment of number `n`, in STARTING and at its place in an ACTIVE load without a cause, on
the pump of its product; every demand is counted. -/
structure State.CanTake (s : State) (a : Fin 4) (n : Nat) (l : LoadRecord) (before after : List CompRecord) (c : CompRecord)
    (pump : Option (Fin 4)) : Prop where
  idle : s.arms[a].state = .idle
  load : s.load = some (l.holding before c after)
  before_ne : ∀ y ∈ before, y.line.compartment ≠ n
  after_ne : ∀ y ∈ after, y.line.compartment ≠ n
  number : c.line.compartment = n
  arm : c.line.arm = a
  staging : c.state = .starting
  causes : l.causes.isEmpty = true
  pump_eq : s.products[c.line.product].pump = pump
  counted : ∀ q : Fin 4, s.pumps[q].demand = s.demandCount q

/-- Arm and compartment once the settle time `k` has begun: with no time at once in LOW, and else in PRIMING (R73, R74). -/
def State.TookSettling (s : State) (a : Fin 4) (n : Nat) (l : LoadRecord) (before after : List CompRecord) (c : CompRecord)
    (pump : Option (Fin 4)) (k : Nat) (t : State) : Prop :=
  (k = 0 → s.Took a pump (l.holding before { c with state := .lowStart } after) (s.arms[a].taking n).toLow t)
    ∧ (0 < k → s.Took a pump (l.holding before c after) { s.arms[a].taking n with settleTimer := some (k * 1000) } t)

namespace State.CanTake

variable (h : s.CanTake a n l before after c pump)
include h

theorem comp? : s.comp? n = some c :=
  (State.comp?_of_load s h.load).trans (LoadRecord.comp?_append (l := l.holding before c after) rfl h.number h.before_ne)

/-- The arm has taken the compartment, and no pump has counted it yet. -/
theorem took : s.Took a pump (l.holding before c after) (s.arms[a].taking n) (s.modifyArm a (Arm.taking n)) :=
  State.took_modifyArm h.load _

theorem raised_demand (hp : pump = some p) : (s.modifyArm a (Arm.taking n)).demandCount p = s.pumps[p].demand + 1 := by
  rw [State.taking_demandCount h.idle h.comp? h.pump_eq, hp, if_pos rfl, h.counted]

theorem recount_eq (hp : pump = some p) :
    (s.modifyArm a (Arm.taking n)).recount = (s.modifyArm a (Arm.taking n)).recountPump p :=
  State.taking_recount_one h.idle h.comp? h.pump_eq h.counted hp

/-- What settling makes of arm and compartment (R73, R74). -/
theorem settles {u : State} (hu : s.Took a pump (l.holding before c after) (s.arms[a].taking n) u) (k : Nat) :
    s.TookSettling a n l before after c pump k (u.startSettle a k) :=
  hu.startSettle rfl rfl h.before_ne h.after_ne h.number h.causes

/-- With no pump the trim valve opens at once (R73). -/
theorem without_pump (hp : pump = none) : s.Took a pump (l.holding before { c with state := .lowStart } after)
    (s.arms[a].taking n).toLow (s.armTakes a n pump) := by
  have hset := (h.settles h.took 0).1 rfl
  have htakes : s.armTakes a n pump = (s.modifyArm a (Arm.taking n)).startSettle a 0 := by
    rw [hp]
    show (s.modifyArm a (Arm.taking n)).recount.startSettle a 0 = _
    rw [State.taking_recount_none h.idle h.comp? h.pump_eq h.counted hp]
  rw [htakes]; exact hset

section Pump

variable (hp : pump = some p)
include hp

theorem recount_rising (hd : s.pumps[p].demand = 0) : (s.modifyArm a (Arm.taking n)).recount
    = ((s.modifyArm a (Arm.taking n)).modifyPump p Pump.raised).demandRises p := by
  have hsame := State.modifyPump_raised (h.raised_demand hp)
  have hrise : (s.modifyArm a (Arm.taking n)).pumps[p].demand = 0 ∧ 0 < (s.modifyArm a (Arm.taking n)).demandCount p :=
    ⟨hd, by rw [h.raised_demand hp]; omega⟩
  rw [h.recount_eq hp, State.recountPump]
  rw [hsame, if_pos hrise]

/-- A pump whose demand was not 0, one that neither stands nor runs on, and one that an ESD latch keeps STOPPED counts the arm
and does no more (R89, R90, R94). -/
theorem recount_steady (hst : s.pumps[p].demand ≠ 0 ∨ s.pumps[p].state = .starting ∨ s.pumps[p].state = .running
      ∨ s.pumps[p].state = .failed ∨ s.pumps[p].state = .stopped ∧ s.safety.esdLatch = true) :
    (s.modifyArm a (Arm.taking n)).recount = (s.modifyArm a (Arm.taking n)).modifyPump p Pump.raised := by
  by_cases hd : s.pumps[p].demand = 0
  · have hpump : ((s.modifyArm a (Arm.taking n)).modifyPump p Pump.raised).pumps[p].state = s.pumps[p].state := by
      rw [State.modifyPump_get_self]; rfl
    rw [h.recount_rising hp hd]
    unfold State.demandRises
    obtain hst | hst | hst | hst | ⟨hst, hesd⟩ := hst
    · exact absurd hd hst
    all_goals simp only [hpump, hst]
    exact if_pos hesd
  · have hno : ¬ ((s.modifyArm a (Arm.taking n)).pumps[p].demand = 0 ∧ 0 < (s.modifyArm a (Arm.taking n)).demandCount p) :=
      fun hr => hd hr.1
    have hno' : ¬ (0 < (s.modifyArm a (Arm.taking n)).pumps[p].demand ∧ (s.modifyArm a (Arm.taking n)).demandCount p = 0) := by
      rw [h.raised_demand hp]; omega
    rw [h.recount_eq hp, State.recountPump]
    rw [State.modifyPump_raised (h.raised_demand hp), if_neg hno, if_neg hno']

/-- A pump that runs on comes to run again, and a STOPPED one that no ESD latch keeps is started (R90). -/
theorem recount_runOn (hd : s.pumps[p].demand = 0) (hst : s.pumps[p].state = .runOn) : (s.modifyArm a (Arm.taking n)).recount
    = ((s.modifyArm a (Arm.taking n)).modifyPump p Pump.raised).pumpRunning p := by
  have hpump : ((s.modifyArm a (Arm.taking n)).modifyPump p Pump.raised).pumps[p].state = .runOn := by
    rw [State.modifyPump_get_self]; exact hst
  rw [h.recount_rising hp hd]
  unfold State.demandRises
  simp only [hpump]

theorem recount_stopped (hd : s.pumps[p].demand = 0) (hst : s.pumps[p].state = .stopped) (hesd : s.safety.esdLatch = false) :
    (s.modifyArm a (Arm.taking n)).recount = ((s.modifyArm a (Arm.taking n)).modifyPump p Pump.raised).startPump p := by
  have hpump : ((s.modifyArm a (Arm.taking n)).modifyPump p Pump.raised).pumps[p].state = .stopped := by
    rw [State.modifyPump_get_self]; exact hst
  have hlatch : ¬ ((s.modifyArm a (Arm.taking n)).modifyPump p Pump.raised).safety.esdLatch = true := by
    show ¬ s.safety.esdLatch = true
    rw [hesd]; exact Bool.false_ne_true
  rw [h.recount_rising hp hd]
  unfold State.demandRises
  simp only [hpump]
  exact if_neg hlatch

/-- A pump that comes to run, from a state that differs from the one before in pump `p` alone, settles the arm (R73, R90). -/
theorem pumpRunning_settles (hd : s.pumps[p].demand = 0) {u : State} (hu : s.Took a pump (l.holding before c after) (s.arms[a].taking n) u)
    (hsame : u = { s.modifyArm a (Arm.taking n) with pumps := u.pumps }) (hk : u.pumps[p].config.settle = k) :
    s.TookSettling a n l before after c pump k (u.pumpRunning p) := by
  subst hp
  have hrun := hu.modifyPump fun x => { x with state := .running, timer := none }
  have hset := h.settles hrun k
  have hstart : (u.modifyPump p fun x => { x with state := .running, timer := none }).startSettles p
      = (u.modifyPump p fun x => { x with state := .running, timer := none }).startSettle a k := by
    have hconfig : (u.modifyPump p fun x => { x with state := .running, timer := none }).pumps[p].config.settle = k := by
      rw [State.modifyPump_get_self]; exact hk
    rw [State.taking_startSettles (n := n) h.idle h.comp? h.pump_eq h.counted rfl hd (by rw [hsame]; rfl) (by rw [hsame]; rfl)
      (by rw [hsame]; rfl), hconfig]
  rw [State.pumpRunning, hstart]
  exact ⟨fun h0 => (hset.1 h0).modifyPump _, fun h0 => (hset.2 h0).modifyPump _⟩

theorem took_raised : s.Took a pump (l.holding before c after) (s.arms[a].taking n)
    ((s.modifyArm a (Arm.taking n)).modifyPump p Pump.raised) := by
  subst hp; exact h.took.modifyPump _

theorem armTakes_of_running (hst : s.pumps[p].state = .running) :
    s.armTakes a n pump = ((s.modifyArm a (Arm.taking n)).modifyPump p Pump.raised).startSettle a s.pumps[p].config.settle := by
  rw [← h.recount_steady hp (.inr (.inr (.inl hst))), hp, State.armTakes]
  simp only [hst]

theorem armTakes_of_failed (hst : s.pumps[p].state = .failed) :
    s.armTakes a n pump = ((s.modifyArm a (Arm.taking n)).modifyPump p Pump.raised).driveClose n (.halt .pump) := by
  rw [← h.recount_steady hp (.inr (.inr (.inr (.inl hst)))), hp, State.armTakes]
  simp only [hst]

omit h in
theorem armTakes_of_waiting (hst : s.pumps[p].state = .stopped ∨ s.pumps[p].state = .starting ∨ s.pumps[p].state = .runOn) :
    s.armTakes a n pump = (s.modifyArm a (Arm.taking n)).recount := by
  rw [hp, State.armTakes]
  obtain hst | hst | hst := hst <;> simp only [hst]

/-- On a running pump the settle time begins (R73). -/
theorem running (hst : s.pumps[p].state = .running) : (s.armTakes a n pump).pumps[p] = s.pumps[p].raised
    ∧ s.TookSettling a n l before after c pump s.pumps[p].config.settle (s.armTakes a n pump) := by
  rw [h.armTakes_of_running hp hst]
  refine ⟨?_, h.settles (h.took_raised hp) _⟩
  rw [(State.of_still (State.startSettle_still ..)).1, State.modifyPump_get_self]; rfl

/-- A FAILED pump has the compartment driven to close (R92). -/
theorem failed (hst : s.pumps[p].state = .failed) : (s.armTakes a n pump).pumps[p] = s.pumps[p].raised
    ∧ s.Took a pump (l.holding before (s.drivenAt n (.halt .pump) c) after) (s.arms[a].taking n).driven (s.armTakes a n pump) := by
  have hskip : ((s.modifyArm a (Arm.taking n)).modifyPump p Pump.raised).drivenAt n (.halt .pump) c = s.drivenAt n (.halt .pump) c :=
    rfl
  rw [h.armTakes_of_failed hp hst, ← hskip]
  refine ⟨?_, (h.took_raised hp).driveClose (by rw [h.staging]; rfl) h.before_ne h.after_ne h.number h.arm h.causes⟩
  rw [(State.of_still (State.driveClose_still ..)).1, State.modifyPump_get_self]; rfl

/-- A pump that does not come to run leaves the arm in PRIMING, its settle timer stopped (R73). -/
theorem waits (hst : s.pumps[p].state = .starting ∨ s.pumps[p].state = .stopped ∧ s.safety.esdLatch = true
      ∨ (s.pumps[p].state = .stopped ∨ s.pumps[p].state = .runOn) ∧ s.pumps[p].demand ≠ 0) :
    (s.armTakes a n pump).pumps[p] = s.pumps[p].raised
      ∧ s.Took a pump (l.holding before c after) (s.arms[a].taking n) (s.armTakes a n pump) := by
  rw [armTakes_of_waiting hp (by tauto), h.recount_steady hp (by tauto)]
  exact ⟨State.modifyPump_get_self .., h.took_raised hp⟩

/-- A pump that runs on is taken back (R90). -/
theorem runsOn (hst : s.pumps[p].state = .runOn) (hd : s.pumps[p].demand = 0) :
    (s.armTakes a n pump).pumps[p] = { s.pumps[p] with demand := 1, state := .running, timer := none }
      ∧ s.TookSettling a n l before after c pump s.pumps[p].config.settle (s.armTakes a n pump) := by
  have hpump : ((s.modifyArm a (Arm.taking n)).modifyPump p Pump.raised).pumps[p] = s.pumps[p].raised :=
    State.modifyPump_get_self ..
  rw [armTakes_of_waiting hp (by tauto), h.recount_runOn hp hd hst]
  refine ⟨?_, h.pumpRunning_settles hp hd (h.took_raised hp) rfl (by rw [hpump]; rfl)⟩
  rw [State.pumpRunning_pumps, vector_get_set, if_pos rfl, hpump, Pump.toRunning_of_demand (Nat.succ_pos _), Pump.raised, hd]

/-- A STOPPED pump is started, and comes to run at once where its feedback is on (R90). -/
theorem started (hst : s.pumps[p].state = .stopped) (hd : s.pumps[p].demand = 0) (hesd : s.safety.esdLatch = false) :
    (s.pumps[p].feedback = true → (s.armTakes a n pump).pumps[p] = { s.pumps[p] with
        demand := 1, state := .running, run := true, timer := none }
      ∧ s.TookSettling a n l before after c pump s.pumps[p].config.settle (s.armTakes a n pump))
    ∧ (s.pumps[p].feedback = false → (s.armTakes a n pump).pumps[p] = { s.pumps[p] with
        demand := 1, state := .starting, run := true, timer := some (s.pumps[p].config.startTimeout * 1000) }
      ∧ s.Took a pump (l.holding before c after) (s.arms[a].taking n) (s.armTakes a n pump)) := by
  have hpump : ((s.modifyArm a (Arm.taking n)).modifyPump p Pump.raised).pumps[p] = s.pumps[p].raised :=
    State.modifyPump_get_self ..
  have hraise : s.pumps[p].raised = { s.pumps[p] with demand := 1 } := by rw [Pump.raised, hd]
  rw [armTakes_of_waiting hp (by tauto), h.recount_stopped hp hd hst hesd, State.startPump_pumps, vector_get_set, if_pos rfl, hpump,
    hraise]
  unfold State.startPump
  rw [hpump, hraise]
  dsimp only
  refine ⟨fun hf => ?_, fun hf => ?_⟩
  · rw [if_pos hf]
    refine ⟨?_, ?_⟩
    · rw [Pump.started, if_pos hf]; rfl
    · subst hp
      exact h.pumpRunning_settles rfl hd ((h.took_raised rfl).modifyPump _) rfl
        (by rw [State.modifyPump_get_self, hpump]; rfl)
  · rw [if_neg (by rw [hf]; exact Bool.false_ne_true)]
    refine ⟨?_, ?_⟩
    · rw [Pump.started, if_neg (by rw [hf]; exact Bool.false_ne_true)]
    · subst hp
      exact (h.took_raised rfl).modifyPump _

end Pump

end State.CanTake

/-! ### The compartment in STARTING -/

theorem LoadRecord.modifyComp_joined_nil (n : Nat) (l : LoadRecord) : l.modifyComp n (CompRecord.joined []) = l := by
  have hid : (CompRecord.joined []) = fun x => x := by funext x; simp [CompRecord.joined]
  have hmap : l.comps.map (fun c => if c.line.compartment = n then c else c) = l.comps := by simp
  rw [LoadRecord.modifyComp, hid, hmap]

/-- An order line keeps its place where the compartment of another record of the same line stands for it. -/
theorem find?_line_of_split {x y : CompRecord} (h : x.line = y.line) (m : Nat) :
    ((before ++ x :: after).find? fun z => z.line.compartment == m).map CompRecord.line
      = ((before ++ y :: after).find? fun z => z.line.compartment == m).map CompRecord.line := by
  rw [List.find?_append, List.find?_append, List.find?_cons, List.find?_cons, h]
  cases before.find? (fun z => z.line.compartment == m) with
  | some z => rfl
  | none => split <;> simp [h]

/-- The compartment taken into STARTING, its components bound: the arm can take it (R13, R15, R100). -/
theorem State.started_canTake {u : State} {rs : List ComponentResult} (hl : s.load = some l) (hs : l.state ≠ .closing)
    (he : l.causes.isEmpty = true) (hcomps : l.comps = before ++ c :: after) (hcn : c.line.compartment = n) (hca : c.line.arm = a)
    (hb : ∀ y ∈ before, y.line.compartment ≠ n) (ha : ∀ y ∈ after, y.line.compartment ≠ n) (hidle : s.arms[a].state = .idle)
    (hcount : ∀ q : Fin 4, s.pumps[q].demand = s.demandCount q)
    (hu : u = { s with load := some (l.modifyComp n (CompRecord.joined rs)), injectors := u.injectors }) (r : Readings) :
    ((u.modifyComp n (CompRecord.started r)).compChanged n).CanTake a n l before after
      ((c.joined rs).started r) s.products[c.line.product].pump := by
  have hlcomp : l.comp? n = some c := LoadRecord.comp?_append hcomps hcn hb
  have hload : (u.modifyComp n (CompRecord.started r)).load
      = some (l.modifyComp n (CompRecord.started r ∘ CompRecord.joined rs)) := by
    rw [hu]
    exact congrArg some (LoadRecord.modifyComp_modifyComp n (CompRecord.joined rs) (CompRecord.started r) (fun _ => rfl) l)
  have hsplit := modifyComp_split (f := CompRecord.started r ∘ CompRecord.joined rs) hb ha hcn hcomps
  have hcomp : (u.modifyComp n (CompRecord.started r)).comp? n = some ((c.joined rs).started r) := by
    rw [State.comp?_of_load _ hload]
    exact LoadRecord.comp?_append hsplit hcn hb
  have hnew : ((u.modifyComp n (CompRecord.started r)).compChanged n).load
      = some (l.holding before ((c.joined rs).started r) after) := by
    have hm : (c.joined rs).started r ∈ (l.modifyComp n (CompRecord.started r ∘ CompRecord.joined rs)).comps := by
      rw [hsplit]; simp
    rw [State.compChanged_load _ hcomp, hload, Option.map_some, LoadRecord.reevaluated_active
      (l := l.modifyComp n (CompRecord.started r ∘ CompRecord.joined rs)) hs he hm rfl, hsplit]
    rfl
  have hframe := State.compChanged_eq n (u.modifyComp n (CompRecord.started r))
  have harms : ((u.modifyComp n (CompRecord.started r)).compChanged n).arms = s.arms := by rw [hframe, hu]; rfl
  have hpumps : ((u.modifyComp n (CompRecord.started r)).compChanged n).pumps = s.pumps := by rw [hframe, hu]; rfl
  have hproducts : ((u.modifyComp n (CompRecord.started r)).compChanged n).products = s.products := by rw [hframe, hu]; rfl
  refine ⟨by rw [harms]; exact hidle, hnew, hb, ha, hcn, hca, rfl, he, by rw [hproducts]; rfl, fun q => ?_⟩
  have hdemand : ((u.modifyComp n (CompRecord.started r)).compChanged n).demandCount q = s.demandCount q := by
    refine State.Demands.demandCount (p := q) ⟨fun b => by rw [harms], fun b => ?_, fun _ _ => by rw [hpumps]⟩ q
    refine State.armPump_congr (by rw [harms]) (fun m => ?_) hproducts
    rw [State.comp?_of_load _ hnew, State.comp?_of_load _ hl, LoadRecord.comp?, LoadRecord.comp?, hcomps]
    exact find?_line_of_split (x := (c.joined rs).started r) (y := c) rfl m
  rw [hpumps, hdemand]; exact hcount q

end Sys2Proof.Machine
end

section
/-! PROOFS. COMPARTMENT-START where no check refuses it (O35). -/

namespace Sys2Proof.Machine

variable {s t : State} {n : Nat} {l : LoadRecord} {before after : List CompRecord} {c : CompRecord} {cs : List Component}

/-- The components that a start binds: those of the recipe at the first, none later (R100). -/
def State.bindsAt (s : State) (c : CompRecord) : List Component :=
  if c.state = .pending then s.recipeComponents c.line.recipe else []

/-- The state in which a compartment is taken into STARTING, its components bound. -/
def State.boundFor (s : State) (c : CompRecord) : State :=
  if c.state = .pending then
    s.bindFrom c.line.compartment c.line.arm c.line.recipe 1 (s.recipeComponents c.line.recipe)
  else s

/-- The results that a start adds to its compartment. -/
def State.resultsFor (s : State) (c : CompRecord) (cs : List Component) : List ComponentResult :=
  (cs.zipIdx 1).map (s.boundResult c.line.arm c.line.recipe)

section Bound

variable (hcs : s.bindsAt c = cs) (hd : (cs.map Component.additive).Nodup)
include hcs hd

theorem State.boundFor_eq (hl : s.load = some l) : s.boundFor c = { s with
    load := some (l.modifyComp c.line.compartment (CompRecord.joined (s.resultsFor c cs)))
    injectors := (s.boundFor c).injectors } := by
  unfold State.boundFor
  unfold State.bindsAt at hcs
  split at hcs
  · rename_i hp
    subst hcs
    have hload := State.bindFrom_load (s := s) (n := c.line.compartment) (a := c.line.arm) (recipe := c.line.recipe) (p := 1) hd
    rw [hl, Option.map_some] at hload
    rw [if_pos hp, State.bindFrom_rest, hload]; rfl
  · rename_i hp
    subst hcs
    rw [if_neg hp]
    show s = { s with load := some (l.modifyComp _ (CompRecord.joined [])) }
    rw [LoadRecord.modifyComp_joined_nil, ← hl]

theorem State.boundFor_injector_found {x : Component × Nat} {j : Fin 8} (hx : x ∈ cs.zipIdx)
    (hj : s.findInjector c.line.arm x.1.additive = some j) :
    (s.boundFor c).injectors[j] = s.injectors[j].arm c.line.compartment (x.2 + 1) := by
  unfold State.boundFor
  unfold State.bindsAt at hcs
  split at hcs
  · rename_i hp
    subst hcs
    rw [if_pos hp]
    have hmem : (x.1, x.2 + 1) ∈ (s.recipeComponents c.line.recipe).zipIdx 1 := by
      rw [List.zipIdx_succ]
      exact List.mem_map.2 ⟨x, hx, rfl⟩
    exact State.bindFrom_injector_found hd hmem hj
  · subst hcs; exact nomatch hx

theorem State.boundFor_injector_other {j : Fin 8} (h : ∀ x ∈ cs, s.findInjector c.line.arm x.additive ≠ some j) :
    (s.boundFor c).injectors[j] = s.injectors[j] := by
  unfold State.boundFor
  unfold State.bindsAt at hcs
  split at hcs
  · rename_i hp
    subst hcs
    rw [if_pos hp]
    exact State.bindFrom_injector_other hd h
  · rename_i hp
    rw [if_neg hp]

end Bound

/-! ### The start as a whole -/

/-- The state in which the arm takes the compartment. -/
def State.atStart (s : State) (c : CompRecord) : State :=
  ((s.boundFor c).modifyComp c.line.compartment (CompRecord.started (s.readings c.line.arm))).compChanged c.line.compartment

/-- The compartment as the arm takes it. -/
def State.startedComp (s : State) (c : CompRecord) (cs : List Component) : CompRecord :=
  (c.joined (s.resultsFor c cs)).started (s.readings c.line.arm)

theorem State.startComp_eq (c : CompRecord) (s : State) : s.startComp c
    = (s.atStart c).armTakes c.line.arm c.line.compartment s.products[c.line.product].pump := rfl

theorem State.atStart_injectors (c : CompRecord) (s : State) : (s.atStart c).injectors = (s.boundFor c).injectors :=
  State.compChanged_injectors _ _

/-- Where no injector strokes, a close drive skips nothing (R111). -/
theorem State.skipOwed_of_none_stroking (h : ∀ j : Fin 8, s.injectors[j].state ≠ .stroking) (rs : List ComponentResult) :
    State.skipOwed n rs s = rs := by
  refine (List.map_congr_left fun r _ => ?_).trans (List.map_id rs)
  have hnone : (eights.filter fun j => s.injectors[j].binding == some ⟨n, r.position⟩ && s.injectors[j].state == .stroking) = [] :=
    List.filter_eq_nil_iff.2 fun j _ => by
      rw [Bool.and_eq_true, beq_iff_eq, beq_iff_eq]
      exact fun hj => h j hj.2
  simp only [hnone]; rfl

section Ready

variable {i : Fin 16}

theorem State.bindsAt_of_pending (hp : c.state = .pending)
    (hr : c.line.recipe = 0 ∧ cs = [] ∨ ∃ i : Fin 16, c.line.recipe = i.val + 1 ∧ cs = s.recipes[i].components) :
    s.bindsAt c = cs := by
  rw [State.bindsAt, if_pos hp]
  obtain ⟨hr, rfl⟩ | ⟨i, hr, rfl⟩ := hr
  · rw [hr]; rfl
  · rw [hr, State.recipeComponents_succ]

theorem State.lacksInjector_of_found (hp : c.state = .pending) (hcs : s.bindsAt c = cs)
    (hf : ∀ x ∈ cs, x.mandatory = true → s.findInjector c.line.arm x.additive ≠ none) : s.lacksInjector c = false := by
  rw [State.bindsAt, if_pos hp] at hcs
  rw [State.lacksInjector, if_pos hp, hcs, List.any_eq_false]
  intro x hx hb
  rw [Bool.and_eq_true, Option.isNone_iff_eq_none] at hb
  exact hf x hx hb.1 hb.2

theorem State.lacksInjector_of_no_fault (hp : c.state = .halted) (hf : ∀ r ∈ c.additives, ∀ j : Fin 8, r.component.mandatory = true →
    r.injector = some j → s.injectors[j].state ≠ .fault) : s.lacksInjector c = false := by
  rw [State.lacksInjector, if_neg (by rw [hp]; exact nofun), List.any_eq_false]
  intro r hr hb
  rw [Bool.and_eq_true, Option.any_eq_true] at hb
  obtain ⟨hm, j, hj, hst⟩ := hb
  exact hf r hr j hm hj (beq_iff_eq.1 hst)

end Ready

/-- What a start leaves of the rest, whatever its pump does. -/
theorem State.CanTake.outcome {a : Fin 4} {pump : Option (Fin 4)} (h : s.CanTake a n l before after c pump) :
    ∃ x d, s.Took a pump (l.holding before d after) x (s.armTakes a n pump) := by
  have settled {k : Nat} (hs : s.TookSettling a n l before after c pump k (s.armTakes a n pump)) :
      ∃ x d, s.Took a pump (l.holding before d after) x (s.armTakes a n pump) := by
    by_cases hk : k = 0
    · exact ⟨_, _, hs.1 hk⟩
    · exact ⟨_, _, hs.2 (Nat.pos_of_ne_zero hk)⟩
  cases hp : pump with
  | none => subst hp; exact ⟨_, _, h.without_pump rfl⟩
  | some p =>
    rw [hp] at settled
    subst hp
    cases hst : s.pumps[p].state with
    | running => exact settled (h.running rfl hst).2
    | failed => exact ⟨_, _, (h.failed rfl hst).2⟩
    | starting => exact ⟨_, _, (h.waits rfl (.inl hst)).2⟩
    | runOn =>
      by_cases hd : s.pumps[p].demand = 0
      · exact settled (h.runsOn rfl hst hd).2
      · exact ⟨_, _, (h.waits rfl (.inr (.inr ⟨.inr hst, hd⟩))).2⟩
    | stopped =>
      by_cases hd : s.pumps[p].demand = 0
      · cases hesd : s.safety.esdLatch with
        | true => exact ⟨_, _, (h.waits rfl (.inr (.inl ⟨hst, hesd⟩))).2⟩
        | false =>
          obtain ⟨hon, hoff⟩ := h.started rfl hst hd hesd
          cases hf : s.pumps[p].feedback with
          | true => exact settled (hon hf).2
          | false => exact ⟨_, _, (hoff hf).2⟩
      · exact ⟨_, _, (h.waits rfl (.inr (.inr ⟨.inl hst, hd⟩))).2⟩

/-! ### The injectors, and the results that they are bound for -/

section Started

variable (hcs : s.bindsAt c = cs) (hd : (cs.map Component.additive).Nodup)
include hcs hd

/-- An injector that does not stroke before the start does not stroke in it. -/
theorem State.atStart_not_stroking {j : Fin 8} (hj : s.injectors[j].state ≠ .stroking) :
    (s.atStart c).injectors[j].state ≠ .stroking := by
  rw [State.atStart_injectors]
  by_cases hf : ∃ x ∈ cs, s.findInjector c.line.arm x.additive = some j
  · obtain ⟨x, hx, hf⟩ := hf
    obtain ⟨⟨y, k⟩, hk, rfl⟩ := List.mem_map.1 (show x ∈ cs.zipIdx.map Prod.fst by rw [List.zipIdx_map_fst]; exact hx)
    rw [State.boundFor_injector_found hcs hd hk hf]
    exact nofun
  · rw [State.boundFor_injector_other hcs hd fun x hx he => hf ⟨x, hx, he⟩]
    exact hj

theorem State.atStart_rest (hl : s.load = some l) : (s.atStart c).arms = s.arms ∧ (s.atStart c).pumps = s.pumps
    ∧ (s.atStart c).meters = s.meters ∧ (s.atStart c).safety = s.safety := by
  have hframe := State.compChanged_eq c.line.compartment
    ((s.boundFor c).modifyComp c.line.compartment (CompRecord.started (s.readings c.line.arm)))
  have hbase := State.boundFor_eq hcs hd hl
  rw [State.atStart, hframe, hbase]
  exact ⟨rfl, rfl, rfl, rfl⟩

end Started

theorem Arm.driven_taking (x : Arm) : (x.taking n).driven = { x.taking n with
    state := .closing, closeTimer := some (x.config.closeTimeout * 1000) } := Arm.driven_of_staging rfl

theorem State.startedComp_additives : (s.startedComp c cs).additives = c.additives ++ cs.zipIdx.map fun x =>
    s.boundResult c.line.arm c.line.recipe (x.1, x.2 + 1) := by
  show c.additives ++ (cs.zipIdx 1).map _ = _
  rw [List.zipIdx_succ, List.map_map]; rfl

/-- Settles O35: the compartment in STARTING, and what the arm makes of it on each state of its pump. -/
theorem compartmentStarts : Obligations.CompartmentStarts := by
  intro g body tail c cs before after l s hrun hl hs he hcomps hnodup hbefore hblocked hidle hcount hdist n a w found hready started
    taking
  rw [hcomps, List.map_append, List.map_cons, List.nodup_append, List.nodup_cons] at hnodup
  obtain ⟨-, ⟨hafter, -⟩, hapart⟩ := hnodup
  have hb : ∀ y ∈ before, y.line.compartment ≠ n := fun y hy =>
    hapart _ (List.mem_map_of_mem hy) _ List.mem_cons_self
  have ha : ∀ y ∈ after, y.line.compartment ≠ n := fun y hy h =>
    hafter (List.mem_map.2 ⟨y, hy, h⟩)
  have hopen : ¬ earlierOpen n c.line.arm l.comps = true := by
    rw [hcomps, earlierOpen_append rfl hb]
    exact fun ⟨x, hm, hxa, hxd⟩ => hxd (hbefore x hm hxa)
  have taken (hlack : (s.seen .compartmentStart w).lacksInjector c = false) (hst : c.state = .pending ∨ c.state = .halted) :
      ownCompartmentStart n (s.seen .compartmentStart w) = reply .ok .none ((s.seen .compartmentStart w).startComp c) :=
    (ownCompartmentStart_ready (s := s.seen .compartmentStart w) hl hs (LoadRecord.comp?_append hcomps rfl hb) he hst hblocked
      hidle).trans ((if_neg hopen).trans (if_neg (by rw [hlack]; exact Bool.false_ne_true)))
  have hown : ownCompartmentStart n (s.seen .compartmentStart w) = reply .ok .none ((s.seen .compartmentStart w).startComp c)
      ∧ (s.seen .compartmentStart w).bindsAt c = cs := by
    obtain ⟨hp, -, hr, hf⟩ | ⟨hh, hnil, hf⟩ := hready
    · have hbinds := State.bindsAt_of_pending (s := s.seen .compartmentStart w) hp hr
      exact ⟨taken (State.lacksInjector_of_found hp hbinds hf) (.inl hp), hbinds⟩
    · refine ⟨taken (State.lacksInjector_of_no_fault hh hf) (.inr hh), ?_⟩
      rw [hnil]; exact if_neg (by rw [hh]; exact nofun)
  obtain ⟨hown, hbinds⟩ := hown
  have htake : ((s.seen .compartmentStart w).atStart c).CanTake a n l before after ((s.seen .compartmentStart w).startedComp c cs)
      s.products[c.line.product].pump :=
    State.started_canTake (s := s.seen .compartmentStart w) hl hs he hcomps rfl rfl hb ha hidle hcount
      (State.boundFor_eq hbinds hdist hl) ((s.seen .compartmentStart w).readings a)
  have hrest : ((s.seen .compartmentStart w).atStart c).arms = s.arms ∧ ((s.seen .compartmentStart w).atStart c).pumps = s.pumps
      ∧ ((s.seen .compartmentStart w).atStart c).meters = s.meters ∧ ((s.seen .compartmentStart w).atStart c).safety = s.safety :=
    State.atStart_rest (s := s.seen .compartmentStart w) hbinds hdist hl
  have hfound (x : Component × Nat) (j : Fin 8) (hx : x ∈ cs.zipIdx) (hj : found x.1 = some j) :
      ((s.seen .compartmentStart w).atStart c).injectors[j] = s.injectors[j].arm n (x.2 + 1) := by
    rw [State.atStart_injectors]
    exact State.boundFor_injector_found (s := s.seen .compartmentStart w) hbinds hdist hx hj
  have hother (j : Fin 8) (hj : ∀ x ∈ cs, found x ≠ some j) :
      ((s.seen .compartmentStart w).atStart c).injectors[j] = s.injectors[j] := by
    rw [State.atStart_injectors]
    exact State.boundFor_injector_other (s := s.seen .compartmentStart w) hbinds hdist hj
  have hstroke (j : Fin 8) (hj : s.injectors[j].state ≠ .stroking) :
      ((s.seen .compartmentStart w).atStart c).injectors[j].state ≠ .stroking :=
    State.atStart_not_stroking (s := s.seen .compartmentStart w) hbinds hdist hj
  have hstarted (st : CompState) :
      before ++ { (s.seen .compartmentStart w).startedComp c cs with state := st } :: after = started st := by
    have hadd := State.startedComp_additives (s := s.seen .compartmentStart w) (c := c) (cs := cs)
    generalize hd : (s.seen .compartmentStart w).startedComp c cs = d at hadd
    have hform : { d with state := st } = { c with
        state := st, closeReason := none, opening := some (c.opening.getD ⟨s.meters[a].gross, s.meters[a].net⟩)
        additives := d.additives } := by rw [← hd]; rfl
    rw [hform, hadd]; rfl
  have hstarting : before ++ (s.seen .compartmentStart w).startedComp c cs :: after = started .starting := hstarted .starting
  have hexec : exec (.compartmentStart w n) s = .next (State.answered w .ok .none
      (((s.seen .compartmentStart w).atStart c).armTakes a n s.products[c.line.product].pump)) :=
    exec_answers rfl rfl hrun rfl hown
  generalize (s.seen .compartmentStart w).atStart c = T at *
  generalize (s.seen .compartmentStart w).startedComp c cs = d at *
  obtain ⟨harms, hpumps, hmeters, hsafety⟩ := hrest
  obtain ⟨x, e, hT⟩ := htake.outcome
  obtain ⟨-, hsafety', -, -, hapart'⟩ := State.of_offPumps hT.offPumps
  have harm : T.arms[a].taking n = taking .priming .closed none := by rw [harms]; rfl
  have took {v : CompRecord} {y : Arm}
      (h : T.Took a s.products[c.line.product].pump (l.holding before v after) y (T.armTakes a n s.products[c.line.product].pump)) :
      (l.holding before e after).comps = before ++ v :: after ∧ (T.armTakes a n s.products[c.line.product].pump).arms[a] = y :=
    ⟨congrArg LoadRecord.comps (Option.some.inj (hT.load.symm.trans h.load)), h.arm⟩
  have settling {k : Nat}
      (h : T.TookSettling a n l before after d s.products[c.line.product].pump k (T.armTakes a n s.products[c.line.product].pump)) :
      (k = 0 → (l.holding before e after).comps = started .lowStart
          ∧ (T.armTakes a n s.products[c.line.product].pump).arms[a] = taking .low .low none)
        ∧ (0 < k → (l.holding before e after).comps = started .starting
          ∧ (T.armTakes a n s.products[c.line.product].pump).arms[a] = taking .priming .closed (some (k * 1000))) := by
    obtain ⟨hnow, hlater⟩ := h
    rw [harm] at hnow hlater
    refine ⟨fun hk => ?_, fun hk => ?_⟩
    · obtain ⟨hcomps, harm⟩ := took (hnow hk)
      exact ⟨hcomps.trans (hstarted .lowStart), harm⟩
    · obtain ⟨hcomps, harm⟩ := took (hlater hk)
      exact ⟨hcomps.trans hstarting, harm⟩
  have waiting (h : T.Took a s.products[c.line.product].pump (l.holding before d after) (T.arms[a].taking n)
      (T.armTakes a n s.products[c.line.product].pump)) : (l.holding before e after).comps = started .starting
        ∧ (T.armTakes a n s.products[c.line.product].pump).arms[a] = taking .priming .closed none := by
    obtain ⟨hcomps, harm'⟩ := took h
    exact ⟨hcomps.trans hstarting, harm'.trans harm⟩
  refine ⟨_, _, hexec, hT.load, rfl, rfl, (State.of_apart hapart').1.trans hmeters, hsafety'.trans hsafety, fun b hb => ?_,
    fun q hq => ?_, fun x j hx hj => ?_, fun j hj hst => ?_, fun hp => ?_, fun p hp => ?_⟩
  · rw [hT.arms, vector_get_set, if_neg hb, harms]
  · rw [hT.pumps q hq, hpumps]
  · have h := hfound x j hx hj
    rw [hT.injectors j (by rw [h]; exact nofun), h]; rfl
  · rw [hT.injectors j (hstroke j hst), hother j hj]
  · obtain ⟨hcomps, harm'⟩ := took (htake.without_pump hp)
    rw [harm] at harm'
    exact ⟨hcomps.trans (hstarted .lowStart), harm'⟩
  · have hrunning := htake.running hp
    have hfailed := htake.failed hp
    have hwaits := htake.waits hp
    have hrunsOn := htake.runsOn hp
    have hstart := htake.started hp
    rw [hpumps] at hrunning hfailed hwaits hrunsOn hstart
    rw [hsafety] at hwaits hstart
    intro y settled
    refine ⟨fun hst => (hrunning hst).imp_right settling, fun hst hd => (hrunsOn hst hd).imp_right settling,
      fun hst hd hf hesd => ((hstart hst hd hesd).1 hf).imp_right settling, fun hst hd hesd => ?_,
      fun hst => (hwaits (.inl hst)).imp_right waiting, fun hst hd hf hesd => ((hstart hst hd hesd).2 hf).imp_right waiting,
      fun hst hno => ?_⟩
    · obtain ⟨hpump, hwait⟩ := hwaits (.inr (.inl ⟨hst, hesd⟩))
      refine ⟨hpump.trans ?_, waiting hwait⟩
      rw [Pump.raised, hd]
    · obtain ⟨hpump, hdrive⟩ := hfailed hst
      obtain ⟨hcomps, harm'⟩ := took hdrive
      refine ⟨hpump, hcomps.trans ?_, harm'.trans ?_⟩
      · rw [← hstarted .closing, State.drivenAt, State.skipOwed_of_none_stroking fun j => hstroke j (hno j)]
        exact (modifyComp_split (l := l.holding before { d with state := .closing } after) (c := { d with state := .closing })
          (f := fun y => { y with closeReason := some (.halt .pump) }) hb ha htake.number rfl).symm
      · rw [Arm.driven_taking, harms]; rfl

end Sys2Proof.Machine
end

section
/-! PROOFS. O57 fails where a second arm serves the compartment: a fault of the closing arm starts the pump of the one that waits,
its settle time of 0 takes the compartment back to LOW_START, and the probe's fault then drives it to close once more (R64, R74, R84,
R90, R111). -/

namespace Sys2Proof.Machine

theorem exec_gateExpiry {m : Fin 4} {s : State} (hp : s.phase = .running ∨ s.phase = .powerDown)
    (hg : s.meters[m].gateTimer = some 0) : exec (.gateExpiry m) s = .next (s.gate m).startWrite := by
  have hrow : exec (.gateExpiry m) s = execGateExpiry m s := rfl
  rw [hrow, execGateExpiry]
  refine if_pos ⟨?_, hg⟩
  obtain hp | hp := hp <;> rw [State.timersRun, hp] <;> rfl

theorem exec_gateExpiry_idle {m : Fin 4} {s : State} (hg : s.meters[m].gateTimer ≠ some 0) :
    exec (.gateExpiry m) s = .next s := if_neg fun h => hg h.2

/-- A compartment in CLOSING on net basis, one component bound to injector I0. -/
def twiceServedComp : CompRecord :=
  { CompRecord.initial ⟨1, 0, 0, 8000, .net, 1⟩ with
    state := .closing
    additives := [⟨1, 1, ⟨0, 1000, 1, false⟩, some 0, some 1000, 0, 0, 0, 0, 0, none, none, .pending, false, false⟩] }

/-- The open load of that compartment alone. -/
def twiceServedLoad : LoadRecord :=
  ⟨.active, 7, none, 40217, none, none, [twiceServedComp], ⟨0, 0⟩, none, 0, 0, {}, false⟩

/-- Arm A0 in CLOSING and arm A1 in PRIMING, both for compartment 1; its pump STOPPED with its feedback on, demand 0 and a settle
time of 0; I0 stroking for it with a stroke owed; the gate of A0 with ten errors, on a probe in temperature fault. -/
def twiceServed : State :=
  let s : State := { State.reset with phase := .running }
  { s with
    load := some twiceServedLoad
    products := s.products.set 0 { s.products[0] with pump := some 0 }
    arms := (s.arms.set 0 { s.arms[0] with state := .closing, served := some 1 }).set 1
      { s.arms[1] with state := .priming, served := some 1 }
    pumps := s.pumps.set 0 { s.pumps[0] with feedback := true, config := { s.pumps[0].config with settle := 0 } }
    meters := s.meters.set 0 { s.meters[0] with forward := 1, errors := 10, gateTimer := some 0 }
    probes := s.probes.set 0 { s.probes[0] with invalidRun := 10 }
    injectors := s.injectors.set 0 { s.injectors[0] with state := .stroking, binding := some ⟨1, 1⟩, owed := 1 } }

/-- The gate takes the owed stroke away. -/
theorem twiceServed_gate_owed : ((twiceServed.gate 0).startWrite.injectors[0]).owed = 0 := by decide +kernel

/-- Refutes O57: its last clause, at an arm in CLOSING whose count has not confirmed no-flow. -/
theorem not_strokePointsReached : ¬ Obligations.StrokePointsReached := by
  intro h
  obtain ⟨t, u, c', hexec, -, -, -, -, hlast⟩ := h.2 0 twiceServedLoad twiceServedComp twiceServed rfl rfl rfl rfl rfl rfl rfl
  obtain ⟨-, hsame⟩ := hlast (.inr ⟨.inl rfl, rfl, .inl (by decide)⟩)
  have ht : t = (twiceServed.gate 0).startWrite :=
    (Host.Outcome.next.inj ((exec_gateExpiry (.inl rfl) rfl).symm.trans hexec)).symm
  have howed := twiceServed_gate_owed
  rw [← ht, hsame] at howed
  exact absurd howed (by decide)

end Sys2Proof.Machine
end

section
/-! PROOFS. What the steps of a gate make of one arm, of the compartment that it serves, and of the injectors. -/

namespace Sys2Proof.Machine

variable {s t u : State} {m : Fin 4} {n k : Nat} {M : Vector Meter 4} {x : Arm} {c : CompRecord} {v : Vector Injector 8}

/-! ### What the recount of the pumps' demand keeps -/

/-- What every change of a pump, every settle timer's start and every settle timer's end keeps, the recount keeps (R89). -/
theorem State.recount_closed {R : State → State → Prop} (hrefl : ∀ s, R s s) (htrans : ∀ s t u, R s t → R t u → R s u)
    (hpump : ∀ s p f, R s (State.modifyPump p f s)) (hsettle : ∀ s a, R s (State.settleExpired a s))
    (htimer : ∀ s a k, R s (State.modifyArm a (fun x => { x with settleTimer := some k }) s)) (s : State) : R s s.recount := by
  have hfold {f : State → Fin 4 → State} (hf : ∀ s a, R s (f s a)) (as : List (Fin 4)) (s : State) : R s (as.foldl f s) := by
    induction as generalizing s with
    | nil => exact hrefl s
    | cons a as ih => exact htrans _ _ _ (hf s a) (ih _)
  have hstart (a : Fin 4) (k : Nat) (s : State) : R s (s.startSettle a k) := by
    unfold State.startSettle
    split
    · exact hsettle s a
    · exact htimer s a _
  have hrun (p : Fin 4) (s : State) : R s (s.pumpRunning p) := by
    refine htrans _ _ _ (htrans _ _ _ (hpump s p _) (hfold (fun t a => ?_) _ _)) (hpump _ p _)
    split
    · exact hstart a _ t
    · exact hrefl t
  have hrise (p : Fin 4) (s : State) : R s (s.demandRises p) := by
    unfold State.demandRises
    split
    · split
      · exact hrefl s
      · unfold State.startPump
        dsimp only
        split
        · exact htrans _ _ _ (hpump s p _) (hrun p _)
        · exact hpump s p _
    · exact hrun p s
    all_goals exact hrefl s
  have hfall (p : Fin 4) (s : State) : R s (s.demandFalls p) := by
    unfold State.demandFalls
    split
    · exact hpump s p _
    all_goals exact hrefl s
  refine hfold (fun t p => ?_) _ _
  unfold State.recountPump
  dsimp only
  split
  · exact htrans _ _ _ (hpump t p _) (hrise p _)
  · split
    · exact htrans _ _ _ (hpump t p _) (hfall p _)
    · exact hpump t p _

/-- Whether the open load is CLOSING. -/
def State.loadCloses (s : State) : Bool := s.load.any fun l => l.state == .closing

/-- On the way from `s` to `t` a gate has left arm `m` as `x`, the compartment of number `n` as `c` and the injectors as `v`, with
the meters `M`; every other arm serves what it served, and the load is CLOSING or not, as it was. -/
structure State.GateAt (s : State) (m : Fin 4) (n : Nat) (M : Vector Meter 4) (x : Arm) (c : CompRecord) (v : Vector Injector 8)
    (t : State) : Prop where
  arm : t.arms[m] = x
  comp : t.comp? n = some c
  injectors : t.injectors = v
  served : ∀ b : Fin 4, b ≠ m → t.arms[b].served = s.arms[b].served
  closing : t.loadCloses = s.loadCloses
  safety : t.safety = s.safety
  apart : t.apart = { s.apart with meters := M }

theorem State.modifyComp_loadCloses (n : Nat) (f : CompRecord → CompRecord) (s : State) :
    (s.modifyComp n f).loadCloses = s.loadCloses := by
  rw [State.loadCloses, State.loadCloses]
  show (s.load.map _).any _ = _
  cases s.load <;> rfl

theorem State.compChanged_loadCloses (n : Nat) (s : State) : (s.compChanged n).loadCloses = s.loadCloses := by
  cases hn : s.comp? n with
  | none => rw [State.compChanged_of_none s hn]
  | some d =>
    obtain ⟨l, hl, -⟩ := State.comp?_eq_some.1 hn
    rw [State.loadCloses, State.loadCloses, State.compChanged_load s hn, hl, Option.map_some, Option.any_some, Option.any_some,
      Bool.eq_iff_iff, beq_iff_eq, beq_iff_eq]
    exact LoadRecord.reevaluated_closing

theorem State.recount_loadCloses (s : State) : s.recount.loadCloses = s.loadCloses :=
  State.recount_closed (R := fun s t => t.loadCloses = s.loadCloses) (fun _ => rfl) (fun _ _ _ h h' => h'.trans h)
    (fun _ _ _ => rfl) (fun s a => by
      by_cases ha : s.arms[a].state = .priming
      · rw [State.settleExpired, if_pos ha]
        dsimp only
        split
        · rfl
        · rw [State.compChanged_loadCloses, State.modifyComp_loadCloses]; rfl
      · rw [State.settleExpired_of_other ha]) (fun _ _ _ => rfl) s

namespace State.GateAt

theorem of_apart (h : s.GateAt m n M x c v t) : t.meters = M ∧ t.probes = s.probes ∧ t.products = s.products ∧ t.cal = s.cal
    ∧ t.clock = s.clock ∧ t.phase = s.phase := by
  have h1 := congrArg State.meters h.apart
  have h2 := congrArg State.probes h.apart
  have h3 := congrArg State.products h.apart
  have h4 := congrArg State.cal h.apart
  have h5 := congrArg State.clock h.apart
  have h6 := congrArg State.phase h.apart
  exact ⟨h1, h2, h3, h4, h5, h6⟩

/-- A change that leaves load record, arms, injectors and safety alone, and no more than the meters of the rest. -/
theorem frame (h : s.GateAt m n M x c v t) {M' : Vector Meter 4} (hl : u.load = t.load) (ha : u.arms = t.arms)
    (hi : u.injectors = t.injectors) (hs : u.safety = t.safety) (hu : u.apart = { t.apart with meters := M' }) :
    s.GateAt m n M' x c v u where
  arm := by rw [ha]; exact h.arm
  comp := by rw [State.comp?, hl]; exact h.comp
  injectors := hi.trans h.injectors
  served b hb := by rw [ha]; exact h.served b hb
  closing := by rw [State.loadCloses, hl]; exact h.closing
  safety := hs.trans h.safety
  apart := by rw [hu, h.apart]

theorem meters_eq (h : s.GateAt m n M x c v t) : { t.apart with meters := M } = t.apart := by rw [h.apart]

theorem post (h : s.GateAt m n M x c v t) (code : EventCode) (kind : ObjectKind) (i : Nat) (w : BitVec 32) :
    s.GateAt m n M x c v (t.post code kind i w) := h.frame rfl rfl rfl rfl h.meters_eq.symm

theorem modifyMeter (h : s.GateAt m n M x c v t) (f : Meter → Meter) :
    s.GateAt m n (M.set m (f M[m])) x c v (t.modifyMeter m f) :=
  h.frame rfl rfl rfl rfl (by
    obtain ⟨hm, -⟩ := h.of_apart
    rw [← hm]; rfl)

/-- The arm changes, and keeps its compartment or drops it. -/
theorem modifyArm (h : s.GateAt m n M x c v t) (f : Arm → Arm) : s.GateAt m n M (f x) c v (t.modifyArm m f) where
  arm := by rw [State.modifyArm_get_self, h.arm]
  comp := h.comp
  injectors := h.injectors
  served b hb := by rw [State.modifyArm_get, if_neg hb]; exact h.served b hb
  closing := h.closing
  safety := h.safety
  apart := h.apart

theorem modifyComp (h : s.GateAt m n M x c v t) {f : CompRecord → CompRecord}
    (hf : ∀ d, (f d).line.compartment = d.line.compartment) : s.GateAt m n M x (f c) v (t.modifyComp n f) where
  arm := h.arm
  comp := by
    have hm := State.modifyComp_comp? t (n := n) hf n
    rw [h.comp, Option.map_some, if_pos (t.comp?_compartment h.comp)] at hm
    exact hm
  injectors := h.injectors
  served := h.served
  closing := (State.modifyComp_loadCloses n f t).trans h.closing
  safety := h.safety
  apart := h.apart

theorem compChanged (h : s.GateAt m n M x c v t) (k : Nat) : s.GateAt m n M x c v (t.compChanged k) where
  arm := by rw [State.compChanged_arms]; exact h.arm
  comp := by rw [State.compChanged_comp?]; exact h.comp
  injectors := by rw [State.compChanged_injectors]; exact h.injectors
  served b hb := by rw [State.compChanged_arms]; exact h.served b hb
  closing := (State.compChanged_loadCloses k t).trans h.closing
  safety := by rw [(State.of_still (State.compChanged_still t k)).2.2.1]; exact h.safety
  apart := by rw [State.compChanged_apart]; exact h.apart

theorem callCheckpoint (h : s.GateAt m n M x c v t) : s.GateAt m n M x c v t.callCheckpoint :=
  h.frame (State.callCheckpoint_load t) (State.callCheckpoint_arms t) (State.callCheckpoint_injectors t)
    (State.of_still (State.callCheckpoint_still t)).2.2.1 (by rw [State.callCheckpoint_apart, h.meters_eq])

/-- A close drive that reaches the compartment. -/
theorem driveClose (h : s.GateAt m n M x c v t) (hd : c.state.isDrivable = true) (r : CloseReason) :
    s.GateAt m n M (if c.line.arm = m then x.driven else x) (t.drivenAt n r c)
      (t.mapInjectors fun y => if y.boundTo n then y.flowStopped else y).injectors (t.driveClose n r) := by
  rw [State.driveClose_eq t h.comp hd]
  refine compChanged ⟨?_, State.atDrive_comp? t h.comp _, rfl, fun b hb => ?_, ?_, h.safety, h.apart⟩ n
  · have ha : (t.atDrive n c.line.arm r).arms[m] = if m = c.line.arm then t.arms[c.line.arm].driven else t.arms[m] := vector_get_set ..
    rw [ha, h.arm]
    by_cases hm : m = c.line.arm
    · subst hm; rw [if_pos rfl, if_pos rfl, h.arm]
    · rw [if_neg hm, if_neg fun he => hm he.symm]
  · have ha : (t.atDrive n c.line.arm r).arms[b] = if b = c.line.arm then t.arms[c.line.arm].driven else t.arms[b] := vector_get_set ..
    rw [ha, ← h.served b hb]
    split
    · rename_i hbc; subst hbc; exact Arm.driven_served _
    · rfl
  · exact (h.modifyComp (f := t.drivenAt n r) fun _ => rfl).closing

theorem driveClose_unreached (h : s.GateAt m n M x c v t) (hd : c.state.isDrivable = false) (r : CloseReason) :
    t.driveClose n r = t :=
  State.driveClose_of_not_drivable t fun d hdc => by
    rw [h.comp] at hdc
    rw [← Option.some.inj hdc]; exact hd

/-- The recount of the pumps' demand leaves an arm that is not in PRIMING alone, and its compartment where no other arm serves it. -/
theorem recount (h : s.GateAt m n M x c v t) (hx : x.state ≠ .priming) (halone : ∀ b : Fin 4, b ≠ m → s.arms[b].served ≠ some n) :
    s.GateAt m n M x c v t.recount := by
  have hset := State.settles_recount t
  have harm : t.arms[m].state ≠ .priming := by rw [h.arm]; exact hx
  have hcomp : t.recount.comp? n = t.comp? n := hset.comps n fun b hb => by
    by_cases hbm : b = m
    · subst hbm; exact absurd hb harm
    · rw [h.served b hbm]; exact halone b hbm
  obtain ⟨-, hsafety, -, -, hapart⟩ := State.of_offPumps hset.offPumps
  refine ⟨(hset.arms m harm).trans h.arm, hcomp.trans h.comp, hset.injectors.trans h.injectors,
    fun b hb => (hset.served b).trans (h.served b hb), t.recount_loadCloses.trans h.closing, hsafety.trans h.safety,
    hapart.trans h.apart⟩

/-- A fault handed to an arm that is already in FAULT changes nothing (R84). -/
theorem armFault_of_fault (h : s.GateAt m n M x c v t) (hx : x.state = .fault) (cause : FaultCause) : t.armFault m cause = t := by
  unfold State.armFault
  rw [h.arm, if_pos hx, ite_self]

end State.GateAt

theorem Arm.faulted_state (cause : FaultCause) (x : Arm) : (x.faulted cause).state = .fault := by
  unfold Arm.faulted
  cases h : x.state <;> simp only [h]

theorem Arm.faulted_driven (cause : FaultCause) (x : Arm) : (x.faulted cause).driven = x.faulted cause :=
  if_neg (by rw [Arm.faulted_state]; exact Bool.false_ne_true)

theorem Arm.faulted_served (cause : FaultCause) (x : Arm) : (x.faulted cause).served = x.served := by
  unfold Arm.faulted; split <;> rfl

namespace State.GateAt

section Fault

variable (h : s.GateAt m n M x c v t) (hp : s.phase ≠ .powerDown) (hx : x.state ≠ .fault) (hserved : x.served = some n)
  (halone : ∀ b : Fin 4, b ≠ m → s.arms[b].served ≠ some n) (cause : FaultCause)
include h hp hx hserved

theorem armFault_eq : t.armFault m cause = ((t.modifyArm m (Arm.faulted cause)).driveClose n (.halt cause.haltCause)).recount := by
  obtain ⟨-, -, -, -, -, hphase⟩ := h.of_apart
  unfold State.armFault
  rw [h.arm, if_neg (by rw [hphase]; exact hp), if_neg hx]
  simp only [hserved]

include halone

/-- An arm that enters FAULT closes the compartment that it serves (R84). -/
theorem armFault (hd : c.state.isDrivable = true) : s.GateAt m n M (x.faulted cause) (t.drivenAt n (.halt cause.haltCause) c)
    (t.mapInjectors fun y => if y.boundTo n then y.flowStopped else y).injectors (t.armFault m cause) := by
  have hdrive := (h.modifyArm (Arm.faulted cause)).driveClose hd (.halt cause.haltCause)
  rw [Arm.faulted_driven, ite_self] at hdrive
  rw [h.armFault_eq hp hx hserved]
  exact hdrive.recount (by rw [Arm.faulted_state]; exact nofun) halone

/-- An arm that enters FAULT leaves a compartment that a drive does not reach to its close (R84). -/
theorem armFault_unreached (hd : c.state.isDrivable = false) : s.GateAt m n M (x.faulted cause) c v (t.armFault m cause) := by
  have harm := h.modifyArm (Arm.faulted cause)
  rw [h.armFault_eq hp hx hserved, harm.driveClose_unreached hd]
  exact harm.recount (by rw [Arm.faulted_state]; exact nofun) halone

end Fault

/-- The compartment that a gate is routed to (R56). -/
theorem routed (h : s.GateAt m n M x c v t) (hserved : x.served = some n) (ha : c.state.isActive = true) :
    t.routed m = some c := State.routed_eq_some.2 ⟨n, by rw [h.arm]; exact hserved, h.comp, ha⟩

/-- A probe in temperature fault closes a compartment on net basis (R64). -/
theorem tempDrive (h : s.GateAt m n M x c v t) (hp : s.phase ≠ .powerDown) (hserved : x.served = some n)
    (hd : c.state.isDrivable = true) (hr : 10 ≤ s.probes[m].invalidRun) (hb : c.line.basis = .net) :
    s.GateAt m n M (if c.line.arm = m then x.driven else x) (t.drivenAt n (.halt .temp) c)
      (t.mapInjectors fun y => if y.boundTo n then y.flowStopped else y).injectors (t.tempDrive m) := by
  obtain ⟨-, hprobes, -, -, -, hphase⟩ := h.of_apart
  have hrun : ¬ (t.phase = .powerDown ∨ t.probes[m].invalidRun < 10) := by
    rw [hphase, hprobes]
    exact not_or.2 ⟨hp, by omega⟩
  rw [State.tempDrive, if_neg hrun]
  simp only [h.routed hserved (CompState.isActive_of_isDrivable hd), hb, if_true, t.comp?_compartment h.comp]
  exact h.driveClose hd (.halt .temp)

/-- A probe that answers, a compartment on gross basis, and one that no drive reaches: no drive (R64). -/
theorem tempDrive_none (h : s.GateAt m n M x c v t)
    (hw : s.probes[m].invalidRun < 10 ∨ c.line.basis = .gross ∨ c.state.isDrivable = false) (hserved : x.served = some n) :
    t.tempDrive m = t := by
  obtain ⟨-, hprobes, -, -, -, -⟩ := h.of_apart
  unfold State.tempDrive
  split
  · rfl
  · rename_i hrun
    split
    · rfl
    · rename_i d hd
      obtain ⟨k, hk, hkd, hact⟩ := State.routed_eq_some.1 hd
      rw [h.arm, hserved] at hk
      obtain rfl := Option.some.inj hk
      rw [h.comp] at hkd
      obtain rfl := Option.some.inj hkd
      split
      · rename_i hnet
        obtain hw | hw | hw := hw
        · rw [← hprobes] at hw; exact absurd (.inr hw) hrun
        · rw [hnet] at hw; exact nomatch hw
        · rw [t.comp?_compartment h.comp]; exact h.driveClose_unreached hw _
      · rfl

end State.GateAt

end Sys2Proof.Machine
end

section
/-! PROOFS. The first steps of a gate: its counts taken, its errors and its debt judged, and the arm that they fault (R45 to R47,
R84). -/

namespace Sys2Proof.Machine

variable {s t u : State} {m : Fin 4} {n : Nat} {M : Vector Meter 4} {x : Arm} {c : CompRecord} {v : Vector Injector 8} {k : Nat}

/-- The meter whose counts a gate has taken (R44). -/
def Meter.taken (y : Meter) : Meter := { y with forward := 0, backward := 0, errors := 0, gateTimer := some 100 }

/-- The reverse debt with a gate's backward pulses (R46). -/
def Meter.owing (y : Meter) : Nat := debtAfterB y.debt y.backward

/-- The meter whose debt a gate has repaid (R46). -/
def Meter.repaid (y : Meter) : Meter := { y.taken with debt := y.owing - min y.owing y.forward }

/-- The debt reaches its limit in this gate (R47). -/
abbrev Meter.limited (y : Meter) : Prop := y.owing = 4095 ∧ y.debt < 4095

/-- A gate fails on its errors (R45). -/
abbrev Meter.failed (y : Meter) : Prop := 10 ≤ y.errors ∧ y.forward + y.backward < y.errors * 100

theorem Meter.gateFails_iff (y : Meter) : gateFails y.forward y.backward y.errors = true ↔ y.failed := by
  simp [gateFails]

/-- The state in which a gate has judged its errors. -/
def State.errorsJudged (m : Fin 4) (s : State) : State :=
  (s.modifyMeter m Meter.taken).judgeGate m s.meters[m].forward s.meters[m].backward s.meters[m].errors

theorem State.errorsJudged_of_failed (hf : s.meters[m].failed) (hx : s.arms[m].state ≠ .fault) : s.errorsJudged m
    = ((s.modifyMeter m Meter.taken).post .pulseFault .arm m.val (w32 s.meters[m].errors)).armFault m .pulseFault :=
  if_pos ⟨s.meters[m].gateFails_iff.2 hf, hx⟩

theorem State.errorsJudged_of_not_failed (h : s.arms[m].state = .fault ∨ ¬ s.meters[m].failed) :
    s.errorsJudged m = s.modifyMeter m Meter.taken := by
  refine if_neg fun ⟨hf, hx⟩ => ?_
  obtain h | h := h
  · exact hx h
  · exact h (s.meters[m].gateFails_iff.1 hf)

/-- The state in which a gate has judged its errors and its debt. -/
def State.repaid (m : Fin 4) (s : State) : State := (s.errorsJudged m).repay m s.meters[m].forward s.meters[m].backward

/-- The figures of a gate at its destination (R48 to R54). -/
def State.gateFigures (m : Fin 4) (alpha : Nat) (s : State) : GateFigures × Nat × Nat × Nat :=
  s.meters[m].gateFigures (s.meters[m].forward - min s.meters[m].owing s.meters[m].forward) s.cal.meterK[m] s.cal.curve[m]
    (gateTemp s.probes[m].held s.cal.offset[m]) alpha

/-- The steps of a gate once its destination is known (R55 to R61). -/
def State.filled (m : Fin 4) (dest : Option CompRecord) (s t : State) : State :=
  (t.modifyMeter m (Meter.gated (s.gateFigures m (s.alphaOf dest)))).route m dest s.meters[m].forward
    (decide (0 < s.meters[m].owing)) (s.gateFigures m (s.alphaOf dest)).1

/-- A gate, where the steps up to the drive of a cold probe leave calibration, probes and products alone. -/
theorem State.gate_eq (ht : (s.repaid m).tempDrive m = t) (hcal : t.cal = s.cal) (hprobes : t.probes = s.probes)
    (hproducts : t.products = s.products) : s.gate m = (s.filled m (t.routed m) t).crossing m s.meters[m].gross := by
  have hfig : s.gateFigures m (s.alphaOf (t.routed m)) = s.meters[m].gateFigures
      (s.meters[m].forward - min s.meters[m].owing s.meters[m].forward) t.cal.meterK[m] t.cal.curve[m]
      (gateTemp t.probes[m].held t.cal.offset[m]) (t.alphaOf (t.routed m)) := by
    have halpha : t.alphaOf (t.routed m) = s.alphaOf (t.routed m) := by
      unfold State.alphaOf; rw [hproducts]
    rw [halpha, hcal, hprobes]; rfl
  rw [State.filled, hfig, ← ht]
  rfl

theorem State.repay_eq (h : s.meters[m].debt = k) (f b : Nat) : s.repay m f b
    = if debtAfterB k b = 4095 ∧ k < 4095 then
        ((s.modifyMeter m fun y => { y with debt := debtAfterB k b - min (debtAfterB k b) f }).post .reverseLimit .arm m.val
          (w32 4095)).armFault m .reverseLimit
      else s.modifyMeter m fun y => { y with debt := debtAfterB k b - min (debtAfterB k b) f } := by
  subst h; rfl

section Alarms

variable (hc : s.comp? n = some c)

theorem State.gateAt_start (hc : s.comp? n = some c) : s.GateAt m n s.meters s.arms[m] c s.injectors s :=
  ⟨rfl, hc, rfl, fun _ _ => rfl, rfl, rfl, rfl⟩

theorem State.gateAt_taken (hc : s.comp? n = some c) : s.GateAt m n (s.meters.set m s.meters[m].taken) s.arms[m] c s.injectors
    (s.modifyMeter m Meter.taken) := (State.gateAt_start hc).modifyMeter Meter.taken

/-- The debt of a gate repaid, from a state in which its counts are taken. -/
theorem State.GateAt.repay (h : s.GateAt m n (s.meters.set m s.meters[m].taken) x c v t) :
    (s.meters[m].limited → t.repay m s.meters[m].forward s.meters[m].backward
        = ((t.modifyMeter m fun y => { y with debt := s.meters[m].owing - min s.meters[m].owing s.meters[m].forward }).post
          .reverseLimit .arm m.val (w32 4095)).armFault m .reverseLimit)
      ∧ (¬ s.meters[m].limited → t.repay m s.meters[m].forward s.meters[m].backward
        = t.modifyMeter m fun y => { y with debt := s.meters[m].owing - min s.meters[m].owing s.meters[m].forward })
      ∧ s.GateAt m n (s.meters.set m s.meters[m].repaid) x c v
        (t.modifyMeter m fun y => { y with debt := s.meters[m].owing - min s.meters[m].owing s.meters[m].forward }) := by
  have hdebt : t.meters[m].debt = s.meters[m].debt := by rw [h.of_apart.1, vector_get_set, if_pos rfl]; rfl
  have heq := State.repay_eq hdebt s.meters[m].forward s.meters[m].backward
  refine ⟨fun hl => heq.trans (if_pos hl), fun hl => heq.trans (if_neg hl), ?_⟩
  have hm := h.modifyMeter fun y => { y with debt := s.meters[m].owing - min s.meters[m].owing s.meters[m].forward }
  rw [vector_get_set, if_pos rfl, Vector.set_set] at hm
  exact hm

/-- What the alarms of a gate make of the ports. -/
def State.gateAlarms (m : Fin 4) (s : State) : Ports :=
  let q := if s.meters[m].failed ∧ s.arms[m].state ≠ .fault then
      s.ports.offer ⟨.pulseFault, .arm, m.val, w32 s.meters[m].errors, s.clock.second⟩
    else s.ports
  if s.meters[m].limited then q.offer ⟨.reverseLimit, .arm, m.val, w32 4095, s.clock.second⟩ else q

theorem State.armFault_quiet (h : s.phase = .powerDown ∨ s.arms[m].state = .fault) (cause : FaultCause) : s.armFault m cause = s := by
  unfold State.armFault
  obtain h | h := h
  · rw [if_pos h]
  · rw [if_pos h, ite_self]

/-- A debt that is repaid without an arm that could be faulted. -/
theorem State.repay_quiet {q : Ports} (hu : u = { s with meters := s.meters.set m s.meters[m].taken, ports := q })
    (h : s.meters[m].limited → s.phase = .powerDown ∨ s.arms[m].state = .fault) :
    u.repay m s.meters[m].forward s.meters[m].backward = { s with
      meters := s.meters.set m s.meters[m].repaid
      ports := if s.meters[m].limited then q.offer ⟨.reverseLimit, .arm, m.val, w32 4095, s.clock.second⟩ else q } := by
  have htaken : u.meters[m] = s.meters[m].taken := by rw [hu]; exact (vector_get_set ..).trans (if_pos rfl)
  have hmeter (d : Nat) : u.modifyMeter m (fun y => { y with debt := d })
      = { s with meters := s.meters.set m { s.meters[m].taken with debt := d }, ports := q } := by
    rw [State.modifyMeter, htaken, hu]
    exact congrArg (fun ms => ({ s with meters := ms, ports := q } : State)) (Vector.set_set ..)
  rw [State.repay_eq (k := s.meters[m].debt) (by rw [htaken]; rfl), hmeter]
  by_cases hl : s.meters[m].limited
  · rw [if_pos hl]
    refine (if_pos hl).trans ((State.armFault_quiet ?_ .reverseLimit).trans rfl)
    exact h hl
  · rw [if_neg hl]
    exact if_neg hl

/-- A gate in POWER_DOWN, one of an arm that is in FAULT and one without an alarm: the debt is repaid and the alarms are posted. -/
theorem State.repaid_quiet
    (h : s.phase = .powerDown ∨ s.arms[m].state = .fault ∨ ¬ s.meters[m].failed ∧ ¬ s.meters[m].limited) :
    s.repaid m = { s with meters := s.meters.set m s.meters[m].repaid, ports := s.gateAlarms m } := by
  have hquiet (hl : s.meters[m].failed ∨ s.meters[m].limited) : s.phase = .powerDown ∨ s.arms[m].state = .fault :=
    or_assoc.2 h |>.resolve_right fun hn => hl.elim hn.1 hn.2
  have hjudge : s.errorsJudged m = { s with
      meters := s.meters.set m s.meters[m].taken
      ports := if s.meters[m].failed ∧ s.arms[m].state ≠ .fault then
          s.ports.offer ⟨.pulseFault, .arm, m.val, w32 s.meters[m].errors, s.clock.second⟩
        else s.ports } := by
    by_cases hf : s.meters[m].failed ∧ s.arms[m].state ≠ .fault
    · rw [State.errorsJudged_of_failed hf.1 hf.2, if_pos hf]
      refine (State.armFault_quiet ?_ .pulseFault).trans rfl
      exact hquiet (.inl hf.1)
    · rw [if_neg hf, State.errorsJudged_of_not_failed]
      · rfl
      · by_cases hx : s.arms[m].state = .fault
        · exact .inl hx
        · exact .inr fun hfail => hf ⟨hfail, hx⟩
  exact State.repay_quiet hjudge fun hl => hquiet (.inr hl)

include hc

/-- Such a gate of a running part leaves arm and compartment as they were. -/
theorem State.repaid_unharmed (h : s.arms[m].state = .fault ∨ ¬ s.meters[m].failed ∧ ¬ s.meters[m].limited) :
    s.GateAt m n (s.meters.set m s.meters[m].repaid) s.arms[m] c s.injectors (s.repaid m) := by
  rw [State.repaid_quiet (.inr h)]
  exact (State.gateAt_start hc).frame rfl rfl rfl rfl rfl

section Faults

variable (hp : s.phase ≠ .powerDown) (hx : s.arms[m].state ≠ .fault) (hserved : s.arms[m].served = some n)
  (halone : ∀ b : Fin 4, b ≠ m → s.arms[b].served ≠ some n)
include hp hx hserved halone

/-- The cause for which an alarm faults its arm: the errors are judged first. -/
theorem State.repaid_faulted {cause : FaultCause} (h : s.meters[m].failed ∧ cause = .pulseFault
      ∨ ¬ s.meters[m].failed ∧ s.meters[m].limited ∧ cause = .reverseLimit) :
    (c.state.isDrivable = true → s.GateAt m n (s.meters.set m s.meters[m].repaid) (s.arms[m].faulted cause)
        (s.drivenAt n (.halt cause.haltCause) c)
        (s.mapInjectors fun y => if y.boundTo n then y.flowStopped else y).injectors (s.repaid m))
      ∧ (c.state.isDrivable = false → s.GateAt m n (s.meters.set m s.meters[m].repaid) (s.arms[m].faulted cause) c s.injectors
        (s.repaid m)) := by
  have htaken := State.gateAt_taken (m := m) hc
  obtain ⟨hf, rfl⟩ | ⟨hf, hl, rfl⟩ := h
  · have hjudge : s.errorsJudged m = ((s.modifyMeter m Meter.taken).post .pulseFault .arm m.val (w32 s.meters[m].errors)).armFault m
        .pulseFault := State.errorsJudged_of_failed hf hx
    have later {c' : CompRecord} {v' : Vector Injector 8}
        (hj : s.GateAt m n (s.meters.set m s.meters[m].taken) (s.arms[m].faulted .pulseFault) c' v' (s.errorsJudged m)) :
        s.GateAt m n (s.meters.set m s.meters[m].repaid) (s.arms[m].faulted .pulseFault) c' v' (s.repaid m) := by
      obtain ⟨hlimit, hfree, hmeter⟩ := hj.repay
      rw [State.repaid]
      by_cases hl : s.meters[m].limited
      · rw [hlimit hl, (hmeter.post ..).armFault_of_fault (Arm.faulted_state ..)]
        exact hmeter.post ..
      · rw [hfree hl]; exact hmeter
    refine ⟨fun hd => later ?_, fun hd => later ?_⟩
    · rw [hjudge]; exact (htaken.post ..).armFault hp hx hserved halone .pulseFault hd
    · rw [hjudge]; exact (htaken.post ..).armFault_unreached hp hx hserved halone .pulseFault hd
  · have hjudge : s.errorsJudged m = s.modifyMeter m Meter.taken := State.errorsJudged_of_not_failed (.inr hf)
    obtain ⟨hlimit, -, hmeter⟩ := htaken.repay
    rw [State.repaid, hjudge, hlimit hl]
    have hposted := hmeter.post .reverseLimit .arm m.val (w32 4095)
    exact ⟨hposted.armFault hp hx hserved halone .reverseLimit, hposted.armFault_unreached hp hx hserved halone .reverseLimit⟩

end Faults

end Alarms

end Sys2Proof.Machine
end

section
/-! PROOFS. The volume of a gate at the compartment that it is routed to, and what the steps behind it leave alone (R55 to R61). -/

namespace Sys2Proof.Machine

variable {s t u : State} {m : Fin 4} {n k : Nat} {M : Vector Meter 4} {x : Arm} {c : CompRecord} {v : Vector Injector 8} {j : Fin 8}

/-! ### Stroke points -/

/-- A compartment without its component results. -/
def CompRecord.undosed (c : CompRecord) : CompRecord := { c with additives := [] }

/-- On the way from `s` to `t` injectors and component results alone have moved, and no injector outside `p`. -/
structure State.Doses (p : Fin 8 → Prop) (s t : State) : Prop where
  frame : t = { s with load := t.load, injectors := t.injectors }
  undosed : ∀ n, (t.comp? n).map CompRecord.undosed = (s.comp? n).map CompRecord.undosed
  others : ∀ j : Fin 8, ¬ p j → t.injectors[j] = s.injectors[j]
  closing : t.loadCloses = s.loadCloses

namespace State.Doses

variable {p : Fin 8 → Prop}

theorem comps (h : State.Doses p s t) (hc : s.comp? n = some c) : ∃ rs, t.comp? n = some { c with additives := rs } := by
  have hn := h.undosed n
  rw [hc, Option.map_some] at hn
  obtain ⟨d, hd, hdc⟩ := Option.map_eq_some_iff.1 hn
  have hback := congrArg (fun e : CompRecord => { e with additives := d.additives }) hdc
  exact ⟨d.additives, hd.trans (congrArg some hback)⟩

theorem refl (p : Fin 8 → Prop) (s : State) : State.Doses p s s := ⟨rfl, fun _ => rfl, fun _ _ => rfl, rfl⟩

theorem trans (h : State.Doses p s t) (h' : State.Doses p t u) : State.Doses p s u where
  frame := by rw [h'.frame, h.frame]
  undosed n := (h'.undosed n).trans (h.undosed n)
  others j hj := (h'.others j hj).trans (h.others j hj)
  closing := h'.closing.trans h.closing

theorem modifyInjector (hj : p j) (f : Injector → Injector) (s : State) : State.Doses p s (s.modifyInjector j f) :=
  ⟨rfl, fun _ => rfl, fun i hi => by
    have hij : i ≠ j := by rintro rfl; exact hi hj
    rw [State.modifyInjector_get, if_neg hij], rfl⟩

theorem modifyResult (b : Binding) (f : ComponentResult → ComponentResult) (s : State) : State.Doses p s (s.modifyResult b f) := by
  refine ⟨rfl, fun n => ?_, fun _ _ => rfl, State.modifyComp_loadCloses _ _ s⟩
  have hm := State.modifyComp_comp? s (n := b.compartment) (f := CompRecord.modifyResult b.position f) (fun _ => rfl) n
  refine (congrArg (Option.map CompRecord.undosed) hm).trans ?_
  rw [Option.map_map]
  refine congrFun (congrArg Option.map (funext fun c => ?_)) _
  show CompRecord.undosed (if _ then _ else _) = _
  split <;> rfl

theorem modifyBound (j : Fin 8) (f : ComponentResult → ComponentResult) (s : State) : State.Doses p s (s.modifyBound j f) := by
  unfold State.modifyBound
  split
  · exact refl p s
  · exact modifyResult _ f s

theorem duePoint (hj : p j) (s : State) : State.Doses p s (s.duePoint j) := by
  unfold State.duePoint
  split
  · exact modifyInjector hj _ s
  · split
    · exact modifyInjector hj _ s
    · exact modifyBound j _ s
  · exact modifyBound j _ s
  · exact refl p s
  · exact refl p s

theorem duePoints (hj : p j) (k : Nat) (s : State) : State.Doses p s (State.duePoints j k s) := by
  induction k generalizing s with
  | zero => exact refl p s
  | succ k ih => exact (duePoint hj s).trans (ih _)

theorem dueResult {r : ComponentResult} (hr : ∀ j, r.injector = some j → p j) (n gross : Nat) (s : State) :
    State.Doses p s (s.dueResult n gross r) := by
  unfold State.dueResult
  split
  · rename_i j w hj _
    dsimp only
    split
    · exact (modifyResult _ _ s).trans (duePoints (hr j hj) _ _)
    · exact refl p s
  · exact refl p s

end State.Doses

/-- The stroke points of a gate move the injectors of the compartment's results and these results alone (R103, R104). -/
theorem State.strokesDue_doses (hc : s.comp? n = some c) (m : Fin 4) :
    State.Doses (fun j => ∃ r ∈ c.additives, r.injector = some j) s (s.strokesDue m n) := by
  have hfold (rs : List ComponentResult) (hrs : ∀ r ∈ rs, r ∈ c.additives) (t : State) :
      State.Doses (fun j => ∃ r ∈ c.additives, r.injector = some j) t (rs.foldl (fun s r => s.dueResult n c.gross r) t) := by
    induction rs generalizing t with
    | nil => exact .refl _ t
    | cons r rs ih =>
      exact (State.Doses.dueResult (fun j hj => ⟨r, hrs r List.mem_cons_self, hj⟩) n c.gross t).trans
        (ih (fun r hr => hrs r (List.mem_cons_of_mem _ hr)) _)
  unfold State.strokesDue
  split
  · simp only [hc]
    exact hfold c.additives (fun _ h => h) s
  · exact .refl _ s

theorem State.GateAt.doses {p : Fin 8 → Prop} (h : s.GateAt m n M x c v t) (hd : State.Doses p t u) :
    ∃ rs, s.GateAt m n M x { c with additives := rs } u.injectors u ∧ ∀ j : Fin 8, ¬ p j → u.injectors[j] = v[j] := by
  obtain ⟨rs, hrs⟩ := hd.comps h.comp
  refine ⟨rs, ⟨?_, hrs, rfl, fun b hb => ?_, hd.closing.trans h.closing, ?_, ?_⟩, fun j hj => ?_⟩
  · rw [hd.frame]; exact h.arm
  · rw [hd.frame]; exact h.served b hb
  · rw [hd.frame]; exact h.safety
  · rw [hd.frame]; exact h.apart
  · rw [hd.others j hj, h.injectors]

/-! ### What a gate leaves at its end -/

/-- Arm `m`, the compartment of number `n`, injectors and meters as they stand. -/
structure State.Ends (m : Fin 4) (n : Nat) (M : Vector Meter 4) (x : Arm) (c : CompRecord) (v : Vector Injector 8) (t : State) :
    Prop where
  arm : t.arms[m] = x
  comp : t.comp? n = some c
  injectors : t.injectors = v
  meters : t.meters = M

namespace State.Ends

theorem of_gateAt (h : s.GateAt m n M x c v t) : State.Ends m n M x c v t := ⟨h.arm, h.comp, h.injectors, h.of_apart.1⟩

theorem of_eq (h : State.Ends m n M x c v t) (hl : u.load = t.load) (ha : u.arms = t.arms) (hi : u.injectors = t.injectors)
    (hm : u.meters = t.meters) : State.Ends m n M x c v u :=
  ⟨by rw [ha]; exact h.arm, by rw [State.comp?, hl]; exact h.comp, hi.trans h.injectors, hm.trans h.meters⟩

theorem callCheckpoint (h : State.Ends m n M x c v t) : State.Ends m n M x c v t.callCheckpoint :=
  h.of_eq (State.callCheckpoint_load t) (State.callCheckpoint_arms t) (State.callCheckpoint_injectors t)
    (State.of_apart (State.callCheckpoint_apart t)).1

theorem crossing (h : State.Ends m n M x c v t) (before : Nat) : State.Ends m n M x c v (t.crossing m before) := by
  unfold State.crossing
  split
  · exact h.callCheckpoint
  · exact h

theorem startWrite (h : State.Ends m n M x c v t) : State.Ends m n M x c v t.startWrite :=
  h.of_eq (State.startWrite_load t) (State.startWrite_arms t) (State.startWrite_injectors t) (State.startWrite_meters t)

end State.Ends

/-! ### The volume at its compartment -/

/-- A compartment with the volume of a gate of meter `m` in it (R57). -/
def State.filledComp (s : State) (m : Fin 4) (c : CompRecord) : CompRecord :=
  c.gated (s.gateFigures m s.products[c.line.product].alpha).1 (decide (0 < s.meters[m].owing)) s.probes[m].invalidRun

/-- Meter `m` at the end of a gate whose volume goes to a product of coefficient `alpha` (R55). -/
def State.metered (s : State) (m : Fin 4) (alpha : Nat) : Meter := s.meters[m].repaid.gated (s.gateFigures m alpha)

/-- The state in which the volume has entered meter and compartment. -/
def State.received (m : Fin 4) (c : CompRecord) (s t : State) : State :=
  (t.modifyMeter m (Meter.gated (s.gateFigures m s.products[c.line.product].alpha))).modifyComp c.line.compartment
    (CompRecord.gated (s.gateFigures m s.products[c.line.product].alpha).1 (decide (0 < s.meters[m].owing)) s.probes[m].invalidRun)

/-- A gate's figures enter the meter and the compartment. -/
theorem State.GateAt.gated (h : s.GateAt m n (s.meters.set m s.meters[m].repaid) x c v t) (g : GateFigures × Nat × Nat × Nat)
    (reverse : Bool) (k : Nat) : s.GateAt m n (s.meters.set m (s.meters[m].repaid.gated g)) x (c.gated g.1 reverse k) v
      ((t.modifyMeter m (Meter.gated g)).modifyComp n (CompRecord.gated g.1 reverse k)) := by
  have hm := h.modifyMeter (Meter.gated g)
  rw [vector_get_set, if_pos rfl, Vector.set_set] at hm
  exact hm.modifyComp (f := CompRecord.gated g.1 reverse k) fun _ => rfl

theorem State.GateAt.received (h : s.GateAt m n (s.meters.set m s.meters[m].repaid) x c v t) :
    s.GateAt m n (s.meters.set m (s.metered m s.products[c.line.product].alpha)) x (s.filledComp m c) v (State.received m c s t) := by
  have hcn := t.comp?_compartment h.comp
  subst hcn
  exact h.gated _ _ _

/-- The progress crossing of a gate (R60). -/
def State.progressed (n before after step : Nat) (t : State) : State :=
  if before / step < after / step then t.post .progress .compartment n (w32 after) else t

/-- The work of an arm and its injectors with a gate of volume: none in POWER_DOWN (R72, R114). -/
def State.armWorks (m : Fin 4) (n : Nat) (c : CompRecord) (s t : State) : State :=
  if s.phase = .powerDown then t
  else (t.strokesDue m n).armGate m n s.meters[m].forward (s.gateFigures m s.products[c.line.product].alpha).1

theorem State.followGate_eq (hc : t.comp? n = some c) (hx : t.arms[m] = x) (forward before : Nat) (g : GateFigures) :
    t.followGate m n forward before g = State.progressed n before c.gross x.config.progress
      (if t.phase = .powerDown then t else (t.strokesDue m n).armGate m n forward g) := by
  subst hx
  rw [State.followGate, hc]; rfl

/-- A gate that is routed to a compartment. -/
theorem State.GateAt.gate_eq (h : s.GateAt m n (s.meters.set m s.meters[m].repaid) x c v t)
    (ht : (s.repaid m).tempDrive m = t) (hserved : x.served = some n) (ha : c.state.isActive = true) :
    s.gate m = (State.progressed n c.gross (s.filledComp m c).gross x.config.progress
      (State.armWorks m n c s (State.received m c s t))).crossing m s.meters[m].gross := by
  obtain ⟨-, hprobes, hproducts, hcal, -, hphase⟩ := h.of_apart
  have hcn := t.comp?_compartment h.comp
  have hrec := h.received
  have hprobe : (t.modifyMeter m (Meter.gated (s.gateFigures m (s.alphaOf (some c))))).probes[m].invalidRun
      = s.probes[m].invalidRun := congrArg (fun ps : Vector Probe 4 => ps[m].invalidRun) hprobes
  have hrphase : (State.received m c s t).phase = s.phase := hrec.of_apart.2.2.2.2.2
  rw [State.gate_eq ht hcal hprobes hproducts, h.routed hserved ha, State.armWorks, ← hrphase]
  subst hcn
  rw [State.filled, State.route, hprobe]
  exact congrArg (State.crossing m s.meters[m].gross) (State.followGate_eq hrec.comp hrec.arm _ _ _)

end Sys2Proof.Machine
end

section
/-! PROOFS. What the arm controller's work leaves of every compartment and arm: the figures metered there, and the events told. -/

namespace Sys2Proof.Machine

variable {s t u : State} {n : Nat} {c c' : CompRecord} {f : CompRecord → CompRecord}

/-- A compartment without what the arm controller and the injectors may change of it. -/
def CompRecord.base (c : CompRecord) : CompRecord :=
  { c with
    state := .pending, antUsed := none, closing := none, closeReason := none, haltCause := none, additives := []
    flags := { c.flags with short := false } }

theorem CompRecord.line_of_base (h : c'.base = c.base) : c'.line = c.line := by
  have hline := congrArg (fun d : CompRecord => d.line) h
  exact hline

/-- Compartments of one base differ in what the arm controller and the injectors may change. -/
theorem CompRecord.eq_of_base (h : c'.base = c.base) : c' = { c with
    state := c'.state, closing := c'.closing, antUsed := c'.antUsed, closeReason := c'.closeReason, haltCause := c'.haltCause
    additives := c'.additives, flags := { c.flags with short := c'.flags.short } } := by
  have hback := congrArg (fun d : CompRecord => { d with
    state := c'.state, closing := c'.closing, antUsed := c'.antUsed, closeReason := c'.closeReason, haltCause := c'.haltCause
    additives := c'.additives, flags := { d.flags with short := c'.flags.short } }) h
  exact hback

/-- On the way from `s` to `t` the arm controller has moved arms and compartments on: no figure of a compartment and no stray volume
has changed, no event is lost, and what lies apart stands as it was. -/
structure State.Leads (s t : State) : Prop where
  bases : ∀ n : Nat, (t.comp? n).map CompRecord.base = (s.comp? n).map CompRecord.base
  strays : ∀ a : Fin 4, t.arms[a].stray = s.arms[a].stray
  tells : s.Tells t
  apart : t.apart = s.apart

namespace State.Leads

theorem refl (s : State) : s.Leads s := ⟨fun _ => rfl, fun _ => rfl, .refl s, rfl⟩

theorem trans (h : s.Leads t) (h' : t.Leads u) : s.Leads u where
  bases n := (h'.bases n).trans (h.bases n)
  strays a := (h'.strays a).trans (h.strays a)
  tells := h.tells.trans h'.tells
  apart := h'.apart.trans h.apart

/-- A change of what is neither a load, an arm nor apart. -/
theorem of_eq (hl : t.load = s.load) (ha : t.arms = s.arms) (htells : s.Tells t) (hap : t.apart = s.apart) : s.Leads t :=
  ⟨fun n => by rw [State.comp?, hl]; rfl, fun a => by rw [ha], htells, hap⟩

theorem foldl {α : Type} {f : State → α → State} (hf : ∀ (s : State) (x : α), s.Leads (f s x)) (xs : List α) (s : State) :
    s.Leads (xs.foldl f s) := by
  induction xs generalizing s with
  | nil => exact refl s
  | cons x xs ih => exact (hf s x).trans (ih _)

theorem modifyArm {f : Arm → Arm} (hf : ∀ x, (f x).stray = x.stray) (a : Fin 4) (s : State) : s.Leads (s.modifyArm a f) where
  bases _ := rfl
  strays b := by
    rw [State.modifyArm_get]
    split
    · rename_i h; subst h; exact hf _
    · rfl
  tells := .of_ports rfl
  apart := rfl

theorem modifyComp (hf : ∀ c, (f c).base = c.base) (n : Nat) (s : State) : s.Leads (s.modifyComp n f) where
  bases k := by
    rw [State.modifyComp_comp? s (fun c => congrArg OrderLine.compartment (CompRecord.line_of_base (hf c))) k, Option.map_map]
    refine congrFun (congrArg Option.map (funext fun c => ?_)) _
    show CompRecord.base (if _ then _ else _) = _
    split
    · exact hf c
    · rfl
  strays _ := rfl
  tells := .of_ports rfl
  apart := rfl

theorem compChanged (n : Nat) (s : State) : s.Leads (s.compChanged n) :=
  ⟨fun k => by rw [State.compChanged_comp?], fun a => by rw [State.compChanged_arms], s.tells_compChanged n, s.compChanged_apart n⟩

theorem post (e : EventCode) (k : ObjectKind) (i : Nat) (w : BitVec 32) (s : State) : s.Leads (s.post e k i w) :=
  of_eq rfl rfl (s.tells_post e k i w) rfl

theorem callCheckpoint (s : State) : s.Leads s.callCheckpoint :=
  of_eq s.callCheckpoint_load s.callCheckpoint_arms (.of_ports s.callCheckpoint_ports) s.callCheckpoint_apart

theorem modifyInjector (j : Fin 8) (f : Injector → Injector) (s : State) : s.Leads (s.modifyInjector j f) :=
  of_eq rfl rfl (.of_ports rfl) rfl

theorem driveClose (n : Nat) (r : CloseReason) (s : State) : s.Leads (s.driveClose n r) := by
  by_cases h : ∃ c, s.comp? n = some c ∧ c.state.isDrivable = true
  · obtain ⟨c, hc, hd⟩ := h
    refine ⟨fun k => ?_, fun a => ?_, s.tells_driveClose n r, s.driveClose_apart n r⟩
    · by_cases hk : k = n
      · subst hk; rw [State.driveClose_comp?_self hc hd, hc]; rfl
      · rw [State.driveClose_comp?_of_ne hk]
    · have harm : (s.driveClose n r).arms[a] = if a = c.line.arm then s.arms[c.line.arm].driven else s.arms[a] := by
        rw [State.driveClose_arms s hc hd]; exact vector_get_set ..
      rw [harm]
      split
      · rename_i ha
        subst ha
        unfold Arm.driven
        split <;> rfl
      · rfl
  · rw [State.driveClose_of_not_drivable s fun c hc => by
      cases hd : c.state.isDrivable
      · rfl
      · exact absurd ⟨c, hc, hd⟩ h]
    exact refl s

theorem stage {g : Arm → Arm} (hg : ∀ x, (g x).stray = x.stray) (hf : ∀ c, (f c).base = c.base) (a : Fin 4) (n : Nat) (s : State) :
    s.Leads (((s.modifyArm a g).modifyComp n f).compChanged n) :=
  ((modifyArm hg a s).trans (modifyComp hf n _)).trans (compChanged n _)

theorem settleExpired (a : Fin 4) (s : State) : s.Leads (s.settleExpired a) := by
  by_cases ha : s.arms[a].state = .priming
  · rw [State.settleExpired, if_pos ha]
    dsimp only
    split
    · exact modifyArm (fun _ => by rfl) a s
    · exact stage (fun _ => by rfl) (fun _ => by rfl) a _ s
  · rw [State.settleExpired_of_other ha]; exact refl s

theorem recount (s : State) : s.Leads s.recount :=
  State.recount_closed (R := State.Leads) refl (fun _ _ _ => trans) (fun _ _ _ => of_eq rfl rfl (.of_ports rfl) rfl)
    (fun s a => settleExpired a s) (fun s a _ => modifyArm (fun _ => by rfl) a s) s

theorem armFault (a : Fin 4) (cause : FaultCause) (s : State) : s.Leads (s.armFault a cause) := by
  have hstray (x : Arm) : (x.faulted cause).stray = x.stray := by unfold Arm.faulted; split <;> rfl
  unfold State.armFault
  split
  · exact refl s
  · split
    · exact refl s
    · refine trans ?_ (recount _)
      split
      · exact modifyArm hstray a s
      · exact (modifyArm hstray a s).trans (driveClose _ _ _)

/-! ### Strokes -/

theorem modifyResult (b : Binding) (f : ComponentResult → ComponentResult) (s : State) : s.Leads (s.modifyResult b f) :=
  modifyComp (fun _ => by rfl) _ s

theorem of_doses {p : Fin 8 → Prop} (h : State.Doses p s t) : s.Leads t := by
  refine ⟨fun n => ?_, fun a => ?_, .of_ports ?_, ?_⟩
  · have hn := congrArg (Option.map CompRecord.base) (h.undosed n)
    rw [Option.map_map, Option.map_map] at hn
    exact hn
  all_goals rw [h.frame]
  rfl

/-! ### The close of a compartment -/

theorem compDone (hf : ∀ c, (f c).base = c.base) (n : Nat) (s : State) : s.Leads (s.compDone n f) := by
  have hline (c : CompRecord) : (f c).line.compartment = c.line.compartment :=
    congrArg OrderLine.compartment (CompRecord.line_of_base (hf c))
  rw [State.compDone_eq hline]
  have hat : s.Leads (s.atDone n f) :=
    (modifyComp (f := s.doneAt n f) (fun c => (hf c :)) n s).trans (of_eq rfl rfl (.of_ports rfl) rfl)
  exact (hat.trans (compChanged n _)).trans (callCheckpoint _)

theorem closeIfDone (s : State) : s.Leads s.closeIfDone :=
  ⟨fun n => by rw [State.closeIfDone_comp?], fun a => by rw [State.closeIfDone_arms], s.tells_closeIfDone, s.closeIfDone_apart⟩

theorem compHalted (hf : ∀ c, (f c).base = c.base) (n : Nat) (cause : HaltCause) (s : State) : s.Leads (s.compHalted n cause f) := by
  have hhalt : s.Leads ((s.modifyComp n fun c => { f c with state := .halted, haltCause := some cause }).compChanged n).callCheckpoint :=
    ((modifyComp (f := fun c => { f c with state := .halted, haltCause := some cause }) (fun c => (hf c :)) n s).trans
      (compChanged n _)).trans (callCheckpoint _)
  unfold State.compHalted
  dsimp only
  split
  · exact hhalt
  · split
    · exact hhalt.trans (compDone (fun _ => by rfl) n _)
    · exact hhalt

theorem endClose (a : Fin 4) (c : CompRecord) (s : State) : s.Leads (s.endClose a c) := by
  unfold State.endClose
  split
  · exact compHalted (fun _ => by rfl) _ _ s
  all_goals exact compDone (fun _ => by rfl) _ s

theorem queueLearned (a : Fin 4) (s : State) : s.Leads (s.queueLearned a) := by
  unfold State.queueLearned
  split
  · exact refl s
  · split
    · exact of_eq (s.mapWaiting_load _) (s.mapWaiting_arms _) (.of_ports (s.mapWaiting_ports _)) (s.mapWaiting_apart _)
    · split
      · exact (of_eq rfl rfl (.of_ports rfl) rfl : s.Leads (s.enqueue _)).trans (modifyArm (fun _ => by rfl) a _)
      · exact modifyArm (fun _ => by rfl) a s

theorem learn (a : Fin 4) (c : CompRecord) (s : State) : s.Leads (s.learn a c) := by
  unfold State.learn
  split
  · exact (modifyArm (fun _ => by rfl) a s).trans (queueLearned a _)
  · exact refl s

theorem noFlowConfirmed (a : Fin 4) (s : State) : s.Leads (s.noFlowConfirmed a) := by
  unfold State.noFlowConfirmed
  split
  · exact refl s
  · exact ((((endClose a _ s).trans (learn a _ _)).trans (modifyArm (fun _ => by rfl) a _)).trans (recount _)).trans (closeIfDone _)

theorem noFlowCount (a : Fin 4) (pulses : Nat) (s : State) : s.Leads (s.noFlowCount a pulses) := by
  unfold State.noFlowCount
  dsimp only
  split
  · split
    · exact (modifyArm (fun _ => by rfl) a s).trans (noFlowConfirmed a _)
    · exact modifyArm (fun _ => by rfl) a s
  · exact modifyArm (fun _ => by rfl) a s

/-! ### The work of an arm with a gate -/

theorem stageArm (a : Fin 4) (n : Nat) (st : ArmState) (v : Valve) (hold : Bool) (cs : CompState) (s : State) :
    s.Leads (s.stageArm a n st v hold cs) := stage (fun _ => by rfl) (fun _ => by rfl) a n s

theorem leaveLow (a : Fin 4) (c : CompRecord) (s : State) : s.Leads (s.leaveLow a c) := by
  unfold State.leaveLow
  dsimp only
  (repeat' split) <;> exact stageArm a _ _ _ _ _ s

theorem presetClose (a : Fin 4) (c : CompRecord) (g : GateFigures) (s : State) : s.Leads (s.presetClose a c g) := by
  unfold State.presetClose
  refine ((modifyComp ?_ _ s).trans (driveClose _ _ _)).trans (modifyArm ?_ a _) <;> exact fun _ => rfl

theorem compare (a : Fin 4) (c : CompRecord) (g : GateFigures) (s : State) : s.Leads (s.compare a c g) := by
  unfold State.compare
  split
  · exact presetClose a c g s
  · split
    · split
      · exact leaveLow a c s
      · exact refl s
    · split
      · exact stageArm a _ _ _ _ _ s
      · split
        · exact refl s
        · exact modifyArm (fun _ => by rfl) a s
    all_goals exact refl s

theorem armGate (a : Fin 4) (n pulses : Nat) (g : GateFigures) (s : State) : s.Leads (s.armGate a n pulses g) := by
  unfold State.armGate
  split
  · exact refl s
  · split
    iterate 3 exact compare a _ g s
    iterate 2 exact noFlowCount a pulses s
    all_goals exact refl s

theorem strokesDue (a : Fin 4) (n : Nat) (s : State) : s.Leads (s.strokesDue a n) := by
  cases hc : s.comp? n with
  | none =>
    have h : s.strokesDue a n = s := by
      unfold State.strokesDue
      split
      · simp only [hc]
      · rfl
    rw [h]; exact refl s
  | some c => exact of_doses (State.strokesDue_doses hc a)

theorem tempDrive (a : Fin 4) (s : State) : s.Leads (s.tempDrive a) := by
  unfold State.tempDrive
  split
  · exact refl s
  · split
    · exact refl s
    · split
      · exact driveClose _ _ s
      · exact refl s

theorem strayCheck (a : Fin 4) (s : State) : s.Leads (s.strayCheck a) := by
  unfold State.strayCheck
  split
  · exact (armFault a _ s).trans (post _ _ _ _ _)
  · exact refl s

end State.Leads

end Sys2Proof.Machine
end

section
/-! PROOFS. A gate as a whole: its alarms, its volume at the compartment or the stray volume of its arm, and its checkpoint (R44 to
R61). -/

namespace Sys2Proof.Machine

variable {s t u : State} {m : Fin 4} {n k : Nat} {M : Vector Meter 4} {x : Arm} {c : CompRecord} {v : Vector Injector 8}

/-- The state of a gate behind the drive of a cold probe (R64). -/
def State.warmed (m : Fin 4) (s : State) : State := (s.repaid m).tempDrive m

/-! ### What the first steps leave in every state -/

theorem State.Leads.modifyMeter {y : Meter} (h : ({ s with meters := s.meters.set m y } : State).Leads t) (f : Meter → Meter) :
    ({ s with meters := s.meters.set m (f y) } : State).Leads (t.modifyMeter m f) := by
  have hmeters : t.meters = s.meters.set m y := (State.of_apart h.apart).1
  have hset : t.meters.set m (f t.meters[m]) = s.meters.set m (f y) := by
    rw [hmeters, vector_get_set, if_pos rfl, Vector.set_set]
  refine ⟨h.bases, h.strays, h.tells, ?_⟩
  show ({ t.apart with meters := t.meters.set m (f t.meters[m]) } : State) = _
  rw [h.apart, hset]; rfl

theorem State.leads_errorsJudged (m : Fin 4) (s : State) :
    ({ s with meters := s.meters.set m s.meters[m].taken } : State).Leads (s.errorsJudged m) := by
  have hstart : ({ s with meters := s.meters.set m s.meters[m].taken } : State).Leads (s.modifyMeter m Meter.taken) := .refl _
  unfold State.errorsJudged State.judgeGate
  split
  · exact (hstart.trans (.post _ _ _ _ _)).trans (.armFault _ _ _)
  · exact hstart

theorem State.errorsJudged_meter (m : Fin 4) (s : State) : (s.errorsJudged m).meters[m] = s.meters[m].taken := by
  rw [(State.of_apart (s.leads_errorsJudged m).apart).1]
  exact (vector_get_set ..).trans (if_pos rfl)

/-- The debt of a gate, judged where its errors have been. -/
theorem State.repaid_eq (m : Fin 4) (s : State) : s.repaid m = if s.meters[m].limited then
      (((s.errorsJudged m).modifyMeter m fun y => { y with debt := s.meters[m].owing - min s.meters[m].owing s.meters[m].forward }).post
        .reverseLimit .arm m.val (w32 4095)).armFault m .reverseLimit
    else (s.errorsJudged m).modifyMeter m fun y => { y with debt := s.meters[m].owing - min s.meters[m].owing s.meters[m].forward } := by
  have howing : debtAfterB s.meters[m].debt s.meters[m].backward = s.meters[m].owing := rfl
  rw [State.repaid, State.repay_eq (k := s.meters[m].debt) (by rw [State.errorsJudged_meter]; rfl), howing]

theorem State.leads_repaid (m : Fin 4) (s : State) :
    ({ s with meters := s.meters.set m s.meters[m].repaid } : State).Leads (s.repaid m) := by
  have hmeter := (s.leads_errorsJudged m).modifyMeter fun y => { y with
    debt := s.meters[m].owing - min s.meters[m].owing s.meters[m].forward }
  rw [State.repaid_eq]
  split
  · exact (hmeter.trans (.post _ _ _ _ _)).trans (.armFault _ _ _)
  · exact hmeter

theorem State.leads_warmed (m : Fin 4) (s : State) :
    ({ s with meters := s.meters.set m s.meters[m].repaid } : State).Leads (s.warmed m) := (s.leads_repaid m).trans (.tempDrive m _)

/-! ### The destination of a gate -/

theorem State.routed_eq_filter (m : Fin 4) (s : State) : s.routed m
    = (s.load.bind fun l => l.comps.find? fun y => s.arms[m].served == some y.line.compartment).filter fun y =>
        y.state.isActive := by
  have hdest : (s.arms[m].served.bind fun n => s.comp? n)
      = s.load.bind fun l => l.comps.find? fun y => s.arms[m].served == some y.line.compartment := by
    cases hs : s.arms[m].served with
    | none => cases s.load <;> simp [List.find?_eq_none.2]
    | some n =>
      refine Option.bind_congr fun l _ => congrFun (congrArg List.find? (funext fun y => ?_)) _
      rw [Bool.eq_iff_iff, beq_iff_eq, beq_iff_eq, Option.some.injEq, eq_comm]
  rw [← hdest, State.routed]
  cases s.arms[m].served.bind fun n => s.comp? n with
  | none => rfl
  | some c => cases h : c.state.isActive <;> simp [Option.filter, h]

theorem Arm.faulted_config (cause : FaultCause) (x : Arm) : (x.faulted cause).config = x.config := by
  unfold Arm.faulted; split <;> rfl

theorem Arm.driven_config (x : Arm) : x.driven.config = x.config := by unfold Arm.driven; split <;> rfl

/-- The alarms of a gate leave the arm its compartment and its configuration, and leave the compartment active as it was. -/
theorem State.repaid_gateAt (hc : s.comp? n = some c) (hserved : s.arms[m].served = some n)
    (halone : ∀ b : Fin 4, b ≠ m → s.arms[b].served ≠ some n) :
    ∃ x c' v, s.GateAt m n (s.meters.set m s.meters[m].repaid) x c' v (s.repaid m) ∧ x.served = some n
      ∧ x.config = s.arms[m].config ∧ c'.state.isActive = c.state.isActive := by
  by_cases hquiet : s.phase = .powerDown ∨ s.arms[m].state = .fault ∨ ¬ s.meters[m].failed ∧ ¬ s.meters[m].limited
  · rw [State.repaid_quiet hquiet]
    exact ⟨_, _, _, (State.gateAt_start hc).frame rfl rfl rfl rfl rfl, hserved, rfl, rfl⟩
  · obtain ⟨hp, hloud⟩ := not_or.1 hquiet
    obtain ⟨hx, hloud⟩ := not_or.1 hloud
    have halarm : s.meters[m].failed ∨ s.meters[m].limited := or_iff_not_and_not.2 hloud
    obtain ⟨cause, hcause⟩ : ∃ cause : FaultCause, s.meters[m].failed ∧ cause = .pulseFault
        ∨ ¬ s.meters[m].failed ∧ s.meters[m].limited ∧ cause = .reverseLimit := by
      by_cases hf : s.meters[m].failed
      · exact ⟨_, .inl ⟨hf, rfl⟩⟩
      · exact ⟨_, .inr ⟨hf, halarm.resolve_left hf, rfl⟩⟩
    obtain ⟨hreached, hunreached⟩ := State.repaid_faulted hc hp hx hserved halone hcause
    have hkept : (s.arms[m].faulted cause).served = some n := (Arm.faulted_served ..).trans hserved
    cases hd : c.state.isDrivable with
    | true => exact ⟨_, _, _, hreached hd, hkept, Arm.faulted_config .., (CompState.isActive_of_isDrivable hd).symm⟩
    | false => exact ⟨_, _, _, hunreached hd, hkept, Arm.faulted_config .., rfl⟩

/-- The first steps of a gate leave the arm its compartment and its configuration, and leave the compartment active as it was. -/
theorem State.warmed_gateAt (hc : s.comp? n = some c) (hserved : s.arms[m].served = some n)
    (halone : ∀ b : Fin 4, b ≠ m → s.arms[b].served ≠ some n) :
    ∃ x c' v, s.GateAt m n (s.meters.set m s.meters[m].repaid) x c' v (s.warmed m) ∧ x.served = some n
      ∧ x.config = s.arms[m].config ∧ c'.state.isActive = c.state.isActive := by
  obtain ⟨x, d, v, hat, hx, hconfig, hactive⟩ := State.repaid_gateAt hc hserved halone
  by_cases hp : s.phase = .powerDown
  · have hw : s.warmed m = s.repaid m := if_pos (.inl (hat.of_apart.2.2.2.2.2.trans hp))
    rw [hw]; exact ⟨x, d, v, hat, hx, hconfig, hactive⟩
  · by_cases hw : s.probes[m].invalidRun < 10 ∨ d.line.basis = .gross ∨ d.state.isDrivable = false
    · rw [State.warmed, hat.tempDrive_none hw hx]; exact ⟨x, d, v, hat, hx, hconfig, hactive⟩
    · push Not at hw
      obtain ⟨hrun, hbasis, hd⟩ := hw
      have hd : d.state.isDrivable = true := by simpa using hd
      have hnet : d.line.basis = .net := by cases hb : d.line.basis <;> simp_all
      refine ⟨_, _, _, hat.tempDrive hp hx hd hrun hnet, ?_, ?_, (CompState.isActive_of_isDrivable hd).symm.trans hactive⟩
      · split
        · exact (Arm.driven_served x).trans hx
        · exact hx
      · split
        · exact (Arm.driven_config x).trans hconfig
        · exact hconfig

theorem State.armFault_served (a b : Fin 4) (cause : FaultCause) (s : State) :
    (s.armFault a cause).arms[b].served = s.arms[b].served := by
  have hfaulted (t : State) : (t.modifyArm a (Arm.faulted cause)).arms[b].served = t.arms[b].served := by
    rw [State.modifyArm_get]
    split
    · rename_i h; subst h; exact Arm.faulted_served ..
    · rfl
  unfold State.armFault
  split
  · rfl
  · split
    · rfl
    · refine ((State.settles_recount _).served b).trans ?_
      split
      · exact hfaulted s
      · exact (State.driveClose_served ..).trans (hfaulted s)

theorem State.warmed_served (m b : Fin 4) (s : State) : (s.warmed m).arms[b].served = s.arms[b].served := by
  have hjudge : (s.errorsJudged m).arms[b].served = s.arms[b].served := by
    unfold State.errorsJudged State.judgeGate
    split
    · exact State.armFault_served ..
    · rfl
  have hrepaid : (s.repaid m).arms[b].served = s.arms[b].served := by
    refine Eq.trans ?_ hjudge
    unfold State.repaid State.repay
    dsimp only
    split
    · exact State.armFault_served ..
    · rfl
  refine Eq.trans ?_ hrepaid
  unfold State.warmed State.tempDrive
  split
  · rfl
  · split
    · rfl
    · split
      · exact State.driveClose_served ..
      · rfl

/-- A gate that is routed to stray volume stays so. -/
theorem State.warmed_routed_none (halone : ∀ b : Fin 4, b ≠ m → s.arms[b].served = none ∨ s.arms[b].served ≠ s.arms[m].served)
    (h : s.routed m = none) : (s.warmed m).routed m = none := by
  rw [Option.eq_none_iff_forall_ne_some]
  intro c hc
  obtain ⟨n, hn, hcomp, hactive⟩ := State.routed_eq_some.1 hc
  rw [State.warmed_served] at hn
  have hbase := (s.leads_warmed m).bases n
  rw [hcomp, Option.map_some] at hbase
  obtain ⟨d, hmeant, -⟩ := Option.map_eq_some_iff.1 hbase.symm
  have hd : s.comp? n = some d := hmeant
  obtain ⟨x, c', v, hat, -, -, hsame⟩ := State.warmed_gateAt (m := m) hd hn fun b hb => by
    obtain h | h := halone b hb
    · rw [h]; nofun
    · rwa [hn] at h
  obtain rfl := Option.some.inj (hcomp.symm.trans hat.comp)
  rw [State.routed_eq_some.2 ⟨n, hn, hd, hsame.symm.trans hactive⟩] at h
  exact nomatch h

/-- The first steps of a gate in POWER_DOWN, of one of an arm in FAULT and of one without an alarm, where no cold probe drives. -/
theorem State.warmed_quiet
    (h : s.phase = .powerDown ∨ s.arms[m].state = .fault ∨ ¬ s.meters[m].failed ∧ ¬ s.meters[m].limited)
    (hw : s.phase = .powerDown ∨ s.probes[m].invalidRun < 10 ∨ s.routed m = none ∨ ∃ c, s.routed m = some c ∧ c.line.basis = .gross) :
    s.warmed m = { s with meters := s.meters.set m s.meters[m].repaid, ports := s.gateAlarms m } := by
  rw [State.warmed, State.repaid_quiet h, State.tempDrive]
  split
  · rfl
  · rename_i hrun
    have hrouted : ({ s with meters := s.meters.set m s.meters[m].repaid, ports := s.gateAlarms m } : State).routed m = s.routed m := rfl
    rw [hrouted]
    obtain hw | hw | hw | ⟨c, hc, hb⟩ := hw
    · exact absurd (.inl hw) hrun
    · exact absurd (.inr hw) hrun
    · rw [hw]
    · rw [hc]
      simp only [hb]
      exact if_neg nofun

/-! ### Stray volume -/

/-- An arm with the volume of a gate in its stray volume (R58). -/
def Arm.strayed (gross : Nat) (x : Arm) : Arm := { x with stray := satAdd (2 ^ 32 - 1) x.stray gross }

theorem Arm.strayed_stray (g : Nat) (x : Arm) : (x.strayed g).stray = satAdd (2 ^ 32 - 1) x.stray g := rfl
theorem Arm.strayed_state (g : Nat) (x : Arm) : (x.strayed g).state = x.state := rfl
theorem Arm.strayed_served (g : Nat) (x : Arm) : (x.strayed g).served = x.served := rfl
theorem Arm.strayed_config (g : Nat) (x : Arm) : (x.strayed g).config = x.config := rfl

/-- A gate that is routed to stray volume, behind its first steps. -/
def State.strayFilled (m : Fin 4) (s t : State) : State :=
  (t.modifyMeter m (Meter.gated (s.gateFigures m 0))).modifyArm m (Arm.strayed (s.gateFigures m 0).1.gross)

theorem State.gate_of_unrouted
    (halone : ∀ b : Fin 4, b ≠ m → s.arms[b].served = none ∨ s.arms[b].served ≠ s.arms[m].served) (h : s.routed m = none) :
    s.gate m = (if s.phase = .powerDown then s.strayFilled m (s.warmed m) else (s.strayFilled m (s.warmed m)).strayCheck m).crossing m
      s.meters[m].gross := by
  obtain ⟨-, hprobes, -, hcal, -, -, hphase, hproducts⟩ := State.of_apart (s.leads_warmed m).apart
  rw [State.gate_eq rfl hcal hprobes hproducts]
  refine congrArg (State.crossing m s.meters[m].gross) ?_
  have hrouted := State.warmed_routed_none halone h
  have hphase : (s.warmed m).phase = s.phase := hphase
  rw [State.warmed] at hrouted hphase ⊢
  rw [hrouted, ← hphase]; rfl

/-! ### The checkpoint of a gate -/

theorem State.Leads.crossing (m : Fin 4) (before : Nat) (s : State) : s.Leads (s.crossing m before) := by
  unfold State.crossing
  split
  · exact .callCheckpoint s
  · exact .refl s

theorem State.crossing_eq (m : Fin 4) (before : Nat) (s : State) : s.crossing m before = { s with
    queue := (s.crossing m before).queue, checkpointOwed := (s.crossing m before).checkpointOwed } := by
  unfold State.crossing
  split
  · exact s.callCheckpoint_eq
  · rfl

theorem State.crossing_powerDown (h : s.phase = .powerDown) (m : Fin 4) (before : Nat) : s.crossing m before = s := by
  have hcall : s.callCheckpoint = s := if_pos h
  rw [State.crossing, hcall, ite_self]

/-- A checkpoint called for stands in the queue, or is owed (R182). -/
theorem State.callCheckpoint_taken (h : s.phase ≠ .powerDown) :
    Record.checkpoint s.totals ∈ s.callCheckpoint.queue ∨ s.callCheckpoint.checkpointOwed = true := by
  have hrefresh {rs : List Record} (hrs : rs.any Record.isCheckpoint = true) :
      Record.checkpoint s.totals ∈ rs.map (Record.refreshCheckpoint s.totals) := by
    obtain ⟨r, hr, hcheck⟩ := List.any_eq_true.1 hrs
    refine List.mem_map.2 ⟨r, hr, ?_⟩
    cases r <;> first | rfl | exact nomatch hcheck
  unfold State.callCheckpoint
  rw [if_neg h]
  split
  · rename_i hany
    left
    unfold State.mapWaiting
    unfold State.waiting at hany
    split at hany
    · rename_i hw
      rw [if_pos hw]
      exact List.mem_append_right _ (hrefresh hany)
    · rename_i hw
      rw [if_neg hw]
      exact hrefresh hany
  · split
    · rename_i howed; exact .inr howed
    · split
      · exact .inl (List.mem_append_right _ List.mem_cons_self)
      · exact .inr rfl

/-- The checkpoint of a gate in a running part whose queue holds none and in which none is owed. -/
theorem State.callCheckpoint_queued (h : s.phase ≠ .powerDown) (hnone : ∀ r ∈ s.queue, r.isCheckpoint = false)
    (howed : s.checkpointOwed = false) :
    (s.queue.length < 8 → s.callCheckpoint.queue = s.queue ++ [.checkpoint s.totals] ∧ s.callCheckpoint.checkpointOwed = false)
      ∧ (8 ≤ s.queue.length → s.callCheckpoint.queue = s.queue ∧ s.callCheckpoint.checkpointOwed = true) := by
  have hany : s.waiting.any Record.isCheckpoint = false := by
    rw [List.any_eq_false]
    intro r hr
    rw [hnone r]
    · exact Bool.false_ne_true
    · unfold State.waiting at hr
      split at hr
      · exact List.mem_of_mem_tail hr
      · exact hr
  rw [State.callCheckpoint, if_neg h, hany, howed]
  refine ⟨fun hlen => ?_, fun hlen => ?_⟩
  · rw [if_neg Bool.false_ne_true, if_neg Bool.false_ne_true, if_pos (State.hasPlace_of hlen h)]
    exact ⟨rfl, howed⟩
  · rw [if_neg Bool.false_ne_true, if_neg Bool.false_ne_true, if_neg (by rw [State.not_hasPlace_of_length hlen]; exact Bool.false_ne_true)]
    exact ⟨rfl, rfl⟩

/-- The checkpoint of a gate that crosses a multiple of 500000 mL (R61), as O52 states it: `g` is the gross totalizer before. -/
def State.Checkpointed (m : Fin 4) (g : Nat) (s t : State) : Prop :=
  (g / 500000 = t.meters[m].gross / 500000 → t.queue = s.queue)
    ∧ (g / 500000 < t.meters[m].gross / 500000 → (∀ r ∈ s.queue, r.isCheckpoint = false) → s.checkpointOwed = false →
      (s.queue.length < 8 → t.queue = s.queue ++ [.checkpoint t.totals] ∧ t.checkpointOwed = false)
      ∧ (8 ≤ s.queue.length → t.queue = s.queue ∧ t.checkpointOwed = true))

theorem State.crossing_checkpointed (hp : s.phase ≠ .powerDown) (g : Nat) : s.Checkpointed m g (s.crossing m g).startWrite := by
  have hmeters : (s.crossing m g).startWrite.meters = s.meters := by
    rw [State.startWrite_meters, State.crossing_eq]
  have htotals : (s.crossing m g).startWrite.totals = s.totals := by
    rw [State.crossing_eq]; rfl
  refine ⟨fun hg => ?_, fun hg hnone howed => ?_⟩
  · rw [hmeters] at hg
    rw [State.startWrite_queue, State.crossing, if_neg (by omega)]
  · rw [hmeters] at hg
    rw [htotals, State.startWrite_queue, State.startWrite_checkpointOwed, State.crossing, if_pos hg]
    exact State.callCheckpoint_queued hp hnone howed

theorem State.crossing_taken (hp : s.phase ≠ .powerDown) {g : Nat} (hg : g / 500000 < s.meters[m].gross / 500000) :
    Record.checkpoint (s.crossing m g).startWrite.totals ∈ (s.crossing m g).startWrite.queue
      ∨ (s.crossing m g).startWrite.checkpointOwed = true := by
  have htotals : (s.crossing m g).startWrite.totals = s.totals := by
    rw [State.crossing_eq]; rfl
  rw [htotals, State.startWrite_queue, State.startWrite_checkpointOwed, State.crossing, if_pos hg]
  exact State.callCheckpoint_taken hp

theorem State.Leads.followGate (m : Fin 4) (n forward before : Nat) (g : GateFigures) (t : State) :
    t.Leads (t.followGate m n forward before g) := by
  unfold State.followGate
  dsimp only
  have hworks : t.Leads (if t.phase = .powerDown then t else (t.strokesDue m n).armGate m n forward g) := by
    split
    · exact .refl t
    · exact (State.Leads.strokesDue m n t).trans (.armGate m n _ _ _)
  split
  · exact hworks.trans (.post _ _ _ _ _)
  · exact hworks

theorem State.route_apart (m : Fin 4) (dest : Option CompRecord) (forward : Nat) (reverse : Bool) (g : GateFigures) (t : State) :
    (t.route m dest forward reverse g).apart = t.apart := by
  unfold State.route
  split
  · exact (State.Leads.followGate m _ forward _ g _).apart
  · dsimp only
    split
    · rfl
    · exact (State.Leads.strayCheck m _).apart

/-- A gate that crosses a multiple of 500000 mL leaves a checkpoint in the queue or owed (R61). -/
theorem State.gate_taken (hp : s.phase ≠ .powerDown) (hg : s.meters[m].gross / 500000 < (s.gate m).meters[m].gross / 500000) :
    Record.checkpoint (s.gate m).startWrite.totals ∈ (s.gate m).startWrite.queue ∨ (s.gate m).startWrite.checkpointOwed = true := by
  obtain ⟨-, hprobes, -, hcal, -, -, hphase, hproducts⟩ := State.of_apart (s.leads_warmed m).apart
  rw [State.gate_eq rfl hcal hprobes hproducts, State.crossing_eq] at hg
  rw [State.gate_eq rfl hcal hprobes hproducts]
  refine State.crossing_taken ?_ hg
  rw [State.filled, (State.of_apart (State.route_apart m _ _ _ _ _)).2.2.2.2.2.2.1]
  exact fun h => hp (hphase.symm.trans h)

/-! ### A gate that is routed to stray volume -/

theorem State.strayCheck_none (h : s.arms[m].state ≠ .idle ∨ s.arms[m].stray ≤ s.arms[m].config.strayLimit) : s.strayCheck m = s :=
  if_neg fun ⟨hlimit, hidle⟩ => h.elim (fun h => h hidle) (fun h => absurd hlimit (by omega))

section Stray

variable (halone : ∀ b : Fin 4, b ≠ m → s.arms[b].served = none ∨ s.arms[b].served ≠ s.arms[m].served) (h : s.routed m = none)
include halone h

theorem State.gate_unrouted_leads : (s.strayFilled m (s.warmed m)).Leads (s.gate m) := by
  rw [State.gate_of_unrouted halone h]
  refine State.Leads.trans ?_ (.crossing m _ _)
  split
  · exact .refl _
  · exact .strayCheck m _

/-- Meter and stray volume behind a gate that is routed to stray volume. -/
theorem State.gate_unrouted_figures : (s.gate m).meters = s.meters.set m (s.metered m 0)
    ∧ (s.gate m).arms[m].stray = satAdd (2 ^ 32 - 1) s.arms[m].stray (s.gateFigures m 0).1.gross := by
  have hmetered := (s.leads_warmed m).modifyMeter (Meter.gated (s.gateFigures m 0))
  have hgate := State.gate_unrouted_leads halone h
  refine ⟨(State.of_apart hgate.apart).1.trans (State.of_apart hmetered.apart).1, (hgate.strays m).trans ?_⟩
  rw [State.strayFilled, State.modifyArm_get_self]
  exact congrArg (fun k => satAdd (2 ^ 32 - 1) k (s.gateFigures m 0).1.gross) (hmetered.strays m)

/-- A gate without an arm to act on. -/
theorem State.gate_unrouted_quiet
    (hquiet : s.phase = .powerDown ∨ s.arms[m].state = .fault ∨ ¬ s.meters[m].failed ∧ ¬ s.meters[m].limited)
    (hstray : s.phase = .powerDown ∨ s.arms[m].state ≠ .idle
      ∨ satAdd (2 ^ 32 - 1) s.arms[m].stray (s.gateFigures m 0).1.gross ≤ s.arms[m].config.strayLimit) :
    s.gate m = ({ s with
      meters := s.meters.set m (s.metered m 0), arms := s.arms.set m (s.arms[m].strayed (s.gateFigures m 0).1.gross)
      ports := s.gateAlarms m } : State).crossing m s.meters[m].gross := by
  have hfilled : s.strayFilled m (s.warmed m) = { s with
      meters := s.meters.set m (s.metered m 0), arms := s.arms.set m (s.arms[m].strayed (s.gateFigures m 0).1.gross)
      ports := s.gateAlarms m } := by
    rw [State.warmed_quiet hquiet (.inr (.inr (.inl h))), State.strayFilled, State.modifyMeter, vector_get_set, if_pos rfl,
      Vector.set_set]
    rfl
  have harm : (s.strayFilled m (s.warmed m)).arms[m] = s.arms[m].strayed (s.gateFigures m 0).1.gross := by
    rw [hfilled]; exact (vector_get_set ..).trans (if_pos rfl)
  rw [State.gate_of_unrouted halone h, ← hfilled]
  congr 1
  split
  · rfl
  · rename_i hp
    refine State.strayCheck_none ?_
    rw [harm, Arm.strayed_state, Arm.strayed_stray, Arm.strayed_config]
    exact hstray.resolve_left hp

end Stray

end Sys2Proof.Machine
end

section
/-! PROOFS. The volume of a gate at its compartment (O52). -/

namespace Sys2Proof.Machine

variable {s t u : State} {m : Fin 4} {n k : Nat} {M : Vector Meter 4} {x : Arm} {c c' : CompRecord} {v : Vector Injector 8} {l : LoadRecord}

/-! ### A gate at its compartment, whatever its arm does -/

theorem State.filledComp_base (h : c'.base = c.base) : (s.filledComp m c').base = (s.filledComp m c).base := by
  have hrec := CompRecord.eq_of_base h
  generalize c'.state = st, c'.closing = cl, c'.antUsed = an, c'.closeReason = re, c'.haltCause = ha, c'.additives = ad,
    c'.flags.short = sh at hrec
  subst hrec
  rfl

theorem State.Leads.armWorks (m : Fin 4) (n : Nat) (c : CompRecord) (s t : State) : t.Leads (State.armWorks m n c s t) := by
  unfold State.armWorks
  split
  · exact .refl t
  · exact (State.Leads.strokesDue m n t).trans (.armGate m n _ _ _)

theorem State.Leads.progressed (n before after step : Nat) (t : State) : t.Leads (State.progressed n before after step t) := by
  unfold State.progressed
  split
  · exact .post _ _ _ _ t
  · exact .refl t

theorem State.received_ports (m : Fin 4) (c : CompRecord) (s t : State) : (State.received m c s t).ports = t.ports := rfl

/-- A gate of meter `m` at compartment `c` of number `n`, in every phase and every arm state: figures, stray volume and progress. -/
structure State.Routed (m : Fin 4) (n : Nat) (c : CompRecord) (s t : State) : Prop where
  meters : t.meters = s.meters.set m (s.metered m s.products[c.line.product].alpha)
  stray : t.arms[m].stray = s.arms[m].stray
  comp : ∃ c', t.comp? n = some c' ∧ c'.base = (s.filledComp m c).base
  tells : s.Tells t
  progress : c.gross / s.arms[m].config.progress < (s.filledComp m c).gross / s.arms[m].config.progress →
    s.ports.EndedBy ⟨.progress, .compartment, n, w32 (s.filledComp m c).gross, s.clock.second⟩ t.ports

theorem State.gate_routed (hc : s.comp? n = some c) (ha : c.state.isActive = true) (hserved : s.arms[m].served = some n)
    (halone : ∀ b : Fin 4, b ≠ m → s.arms[b].served ≠ some n) : State.Routed m n c s (s.gate m) := by
  obtain ⟨x, d, v, hat, hx, hconfig, hactive⟩ := State.warmed_gateAt hc hserved halone
  have hwarmed := s.leads_warmed m
  have hbase : d.base = c.base := by
    have h := hwarmed.bases n
    rw [hat.comp, Option.map_some] at h
    exact Option.some.inj (h.trans (congrArg (Option.map CompRecord.base) hc))
  have hline : d.line = c.line := CompRecord.line_of_base hbase
  have hrec := hat.received
  have hworks := State.Leads.armWorks m n d s (State.received m d s (s.warmed m))
  have hgross : d.gross = c.gross := by
    have h := congrArg (fun e : CompRecord => e.gross) hbase
    exact h
  have hfilled := State.filledComp_base (s := s) (m := m) hbase
  have hfgross : (s.filledComp m d).gross = (s.filledComp m c).gross := by
    have h := congrArg (fun e : CompRecord => e.gross) hfilled
    exact h
  have hgate := hat.gate_eq rfl hx (hactive.trans ha)
  rw [hconfig, hgross, hfgross] at hgate
  have htold : s.Tells (State.received m d s (s.warmed m)) := hwarmed.tells.trans (.of_ports (State.received_ports m d s _))
  have hlead := (hworks.trans (.progressed n c.gross (s.filledComp m c).gross s.arms[m].config.progress _)).trans
    (.crossing m s.meters[m].gross _)
  rw [← hgate] at hlead
  refine ⟨?_, ?_, ?_, htold.trans hlead.tells, fun hcross => ?_⟩
  · exact ((State.of_apart hlead.apart).1.trans hrec.of_apart.1).trans
      (congrArg (fun y : OrderLine => s.meters.set m (s.metered m s.products[y.product].alpha)) hline)
  · rw [hlead.strays m, hrec.arm, ← hat.arm]
    exact hwarmed.strays m
  · have hcomp := hlead.bases n
    rw [hrec.comp, Option.map_some] at hcomp
    obtain ⟨c', hc', hcbase⟩ := Option.map_eq_some_iff.1 hcomp
    exact ⟨c', hc', hcbase.trans hfilled⟩
  · have hclock : (State.armWorks m n d s (State.received m d s (s.warmed m))).clock = s.clock :=
      (State.of_apart hworks.apart).2.2.2.2.1.trans hrec.of_apart.2.2.2.2.1
    refine ⟨(State.armWorks m n d s (State.received m d s (s.warmed m))).ports, htold.trans hworks.tells, ?_⟩
    rw [hgate, State.crossing_eq]
    unfold State.progressed
    rw [if_pos hcross, ← hclock]
    rfl

/-! ### A gate that moves no arm -/

theorem State.progressed_eq (n before after step : Nat) (t : State) : State.progressed n before after step t = { t with
    ports := if before / step < after / step then t.ports.offer ⟨.progress, .compartment, n, w32 after, t.clock.second⟩
      else t.ports } := by
  unfold State.progressed
  split <;> rfl

/-- The volume of a gate in meter and compartment, with the ports `q`. -/
def State.fills (m : Fin 4) (c : CompRecord) (q : Ports) (s : State) : State :=
  { s with
    meters := s.meters.set m (s.metered m s.products[c.line.product].alpha), ports := q
    load := s.load.map fun l => l.modifyComp c.line.compartment
      (CompRecord.gated (s.gateFigures m s.products[c.line.product].alpha).1 (decide (0 < s.meters[m].owing)) s.probes[m].invalidRun) }

theorem CompRecord.gated_compartment (g : GateFigures) (reverse : Bool) (k : Nat) (c : CompRecord) :
    (c.gated g reverse k).line.compartment = c.line.compartment := rfl

theorem CompRecord.gated_additives (g : GateFigures) (reverse : Bool) (k : Nat) (c : CompRecord) :
    (c.gated g reverse k).additives = c.additives := rfl

theorem State.filledComp_additives (m : Fin 4) (c : CompRecord) (s : State) : (s.filledComp m c).additives = c.additives :=
  CompRecord.gated_additives _ _ _ _

theorem State.fills_comp? (hc : s.comp? n = some c) (m : Fin 4) (q : Ports) :
    (s.fills m c q).comp? n = some (s.filledComp m c) := by
  have hn := s.comp?_compartment hc
  subst hn
  have h := State.modifyComp_comp? s (n := c.line.compartment) (f := CompRecord.gated
    (s.gateFigures m s.products[c.line.product].alpha).1 (decide (0 < s.meters[m].owing)) s.probes[m].invalidRun)
    (CompRecord.gated_compartment _ _ _) c.line.compartment
  rw [hc, Option.map_some, if_pos rfl] at h
  rw [State.filledComp]
  exact h

section Quiet

variable (hc : s.comp? n = some c) (ha : c.state.isActive = true) (hserved : s.arms[m].served = some n)
  (hquiet : s.phase = .powerDown ∨ s.arms[m].state = .fault ∨ ¬ s.meters[m].failed ∧ ¬ s.meters[m].limited)
  (hw : s.phase = .powerDown ∨ s.probes[m].invalidRun < 10 ∨ c.line.basis = .gross)
include hc ha hserved hquiet hw

theorem State.gate_quiet : s.gate m = (State.progressed n c.gross (s.filledComp m c).gross s.arms[m].config.progress
    (State.armWorks m n c s (s.fills m c (s.gateAlarms m)))).crossing m s.meters[m].gross := by
  have hrouted : s.routed m = some c := State.routed_eq_some.2 ⟨n, hserved, hc, ha⟩
  have hwarmed := State.warmed_quiet hquiet (hw.imp id fun h => h.imp id fun h => .inr ⟨c, hrouted, h⟩)
  have hat : s.GateAt m n (s.meters.set m s.meters[m].repaid) s.arms[m] c s.injectors (s.warmed m) := by
    rw [hwarmed]; exact (State.gateAt_start hc).frame rfl rfl rfl rfl rfl
  have hrec : State.received m c s (s.warmed m) = s.fills m c (s.gateAlarms m) := by
    rw [hwarmed, State.received, State.modifyMeter, vector_get_set, if_pos rfl, Vector.set_set]
    rfl
  rw [hat.gate_eq rfl hserved ha, hrec]

/-- A gate in POWER_DOWN: no action of arm or injectors, and nothing joins the queue (R72, R114, R183). -/
theorem State.gate_powerDown (hp : s.phase = .powerDown) : s.gate m = State.progressed n c.gross (s.filledComp m c).gross
    s.arms[m].config.progress (s.fills m c (s.gateAlarms m)) := by
  have hworks : State.armWorks m n c s (s.fills m c (s.gateAlarms m)) = s.fills m c (s.gateAlarms m) := if_pos hp
  rw [State.gate_quiet hc ha hserved hquiet hw, hworks, State.crossing_powerDown]
  rw [State.progressed_eq]
  exact hp

end Quiet

/-! ### An arm that stays as it is -/

theorem State.modifyArm_self {f : Arm → Arm} {a : Fin 4} (h : f s.arms[a] = s.arms[a]) : s.modifyArm a f = s := by
  have harms : s.arms.set a (f s.arms[a]) = s.arms := by rw [h]; exact Vector.set_getElem_self _
  exact congrArg (fun as => ({ s with arms := as } : State)) harms

/-- An arm that a gate leaves where it is: below the volume at which it would leave its state (R75 to R79). -/
def Arm.Stays (x : Arm) (c : CompRecord) : Prop :=
  x.state = .priming ∨ (x.config.ant : Int) < c.remaining ∧ (x.state = .low ∧ c.gross < x.config.lowStart ∨ x.state = .slowdown
    ∨ x.state = .full ∧ (x.config.slowdown : Int) < c.remaining ∧ (x.hold = true ∨ x.valve = .full))

theorem Arm.Stays.additives (h : x.Stays c) (rs : List ComponentResult) : x.Stays { c with additives := rs } := h

theorem State.armGate_of_stays (hc : s.comp? n = some c) (h : s.arms[m].Stays c) (pulses : Nat) (g : GateFigures) :
    s.armGate m n pulses g = s := by
  unfold State.armGate
  simp only [hc]
  obtain hst | ⟨hant, hst⟩ := h
  · rw [hst]
  · have hclose : ¬ c.remaining ≤ (s.arms[m].config.ant : Int) := by omega
    obtain ⟨hst, hlow⟩ | hst | ⟨hst, hslow, hopen⟩ := hst
    · rw [hst]
      simp only [State.compare, if_neg hclose, hst]
      exact if_neg (by omega)
    · rw [hst]
      simp only [State.compare, if_neg hclose, hst]
    · rw [hst]
      simp only [State.compare, if_neg hclose, hst]
      rw [if_neg (by omega)]
      split
      · rfl
      · rename_i hhold
        have hvalve := hopen.resolve_left hhold
        refine State.modifyArm_self ?_
        generalize s.arms[m] = y at hvalve ⊢
        obtain ⟨⟩ := y
        cases hvalve; rfl

section Staying

variable (hc : s.comp? n = some c) (ha : c.state.isActive = true) (hserved : s.arms[m].served = some n)
  (hquiet : ¬ s.meters[m].failed ∧ ¬ s.meters[m].limited) (hw : c.line.basis = .gross ∨ s.probes[m].invalidRun < 10)
  (hp : s.phase = .running) (hstay : s.arms[m].Stays (s.filledComp m c))
include hc ha hserved hquiet hw hp hstay

theorem State.gate_staying : ∃ u, State.Doses (fun j => ∃ r ∈ c.additives, r.injector = some j) (s.fills m c s.ports) u
    ∧ s.gate m = (State.progressed n c.gross (s.filledComp m c).gross s.arms[m].config.progress u).crossing m s.meters[m].gross := by
  have halarms : s.gateAlarms m = s.ports := by
    rw [State.gateAlarms, if_neg hquiet.2]
    exact if_neg fun h => hquiet.1 h.1
  have hfilled := State.fills_comp? hc m s.ports
  have hdoses := State.strokesDue_doses hfilled m
  rw [State.filledComp_additives] at hdoses
  refine ⟨_, hdoses, ?_⟩
  obtain ⟨rs, hrs⟩ := hdoses.comps hfilled
  have hworks : State.armWorks m n c s (s.fills m c s.ports) = (s.fills m c s.ports).strokesDue m n := by
    rw [State.armWorks, if_neg (by rw [hp]; nofun)]
    have harms : ((s.fills m c s.ports).strokesDue m n).arms = s.arms := by rw [hdoses.frame]; rfl
    refine State.armGate_of_stays hrs ?_ _ _
    rw [harms]
    exact hstay.additives rs
  rw [State.gate_quiet hc ha hserved (.inr (.inr hquiet)) (.inr hw.symm), halarms, hworks]

end Staying

/-! ### The statement of O52 -/

theorem CompRecord.gated_eq (g : GateFigures) (reverse : Bool) (k : Nat) (c : CompRecord) : c.gated g reverse k = { c with
    gross := min (2 ^ 32 - 1) (c.gross + g.gross), net := min (2 ^ 32 - 1) (c.net + g.net)
    sumGT := c.sumGT + g.gross * g.temp, sumG := c.sumG + g.gross, maxFlow := max c.maxFlow g.flow
    flags := { c.flags with
      reverseFlow := c.flags.reverseFlow || reverse
      tempHeld := c.flags.tempHeld || decide (0 < g.gross ∧ 0 < k)
      tempFault := c.flags.tempFault || decide (0 < g.gross ∧ 10 ≤ k) } } := by
  rw [Bool.decide_and, Bool.decide_and]; rfl

/-- No two arms serve one compartment in a lawful state (R73). -/
theorem State.FlowLawful.apart_served (h : s.FlowLawful) {a b : Fin 4} (hab : b ≠ a) :
    s.arms[b].served = none ∨ s.arms[b].served ≠ s.arms[a].served := by
  cases hb : s.arms[b].served with
  | none => exact .inl rfl
  | some n =>
    refine .inr fun ha => hab ?_
    obtain ⟨l, c, hl, hc, harm, -⟩ := h.served b n hb
    obtain ⟨l', c', hl', hc', harm', -⟩ := h.served a n ha.symm
    rw [hl] at hl'
    obtain rfl := Option.some.inj hl'
    rw [hc] at hc'
    obtain rfl := Option.some.inj hc'
    exact harm.symm.trans harm'

theorem State.Checkpointed.of_queue {g : Nat} (h : u.Checkpointed m g t) (hq : u.queue = s.queue)
    (ho : u.checkpointOwed = s.checkpointOwed) : s.Checkpointed m g t := by
  rw [State.Checkpointed, ← hq, ← ho]; exact h

/-- Settles O52: the first steps of a gate keep its destination, and what follows moves arms, results and states alone. -/
theorem gateRoutesItsVolume : Obligations.GateRoutesItsVolume := by
  refine ⟨fun m s h => exec_gateExpiry_idle h, fun s h a b hab => h.apart_served hab, ?_⟩
  intro m s hp hg halone x arm dest debt failed limit f metered filled stray alarms told checkpointed
  have hdest : dest = s.routed m := (s.routed_eq_filter m).symm
  have hfill (c : CompRecord) : filled c = c.gated f.1 (decide (0 < debt)) s.probes[m].invalidRun := (CompRecord.gated_eq ..).symm
  have routed {c : CompRecord} (hd : s.routed m = some c) : s.comp? c.line.compartment = some c ∧ c.state.isActive = true
      ∧ s.arms[m].served = some c.line.compartment ∧ State.Routed m c.line.compartment c s (s.gate m) := by
    obtain ⟨n, hn, hc, ha⟩ := State.routed_eq_some.1 hd
    obtain rfl := s.comp?_compartment hc
    exact ⟨hc, ha, hn, State.gate_routed hc ha hn fun b hb => by
      obtain h | h := halone b hb
      · rw [h]; nofun
      · rwa [hn] at h⟩
  have hmeters : (s.gate m).meters = s.meters.set m metered := by
    have hmetered : metered = s.metered m (s.alphaOf dest) := rfl
    rw [hmetered, hdest]
    cases hd : s.routed m with
    | none => exact (State.gate_unrouted_figures halone hd).1
    | some c => exact (routed hd).2.2.2.meters
  refine ⟨(s.gate m).startWrite, exec_gateExpiry hp hg, hmeters, fun hrun hcross => ?_, fun hnone => ?_, fun l c hl hsome => ?_⟩
  · refine State.gate_taken (by rw [hrun]; nofun) ?_
    rw [hmeters, vector_get_set, if_pos rfl]
    exact hcross
  · have hd : s.routed m = none := hdest.symm.trans hnone
    have hfigures : f = s.gateFigures m 0 := by
      have hf : f = s.gateFigures m (s.alphaOf dest) := rfl
      rw [hf, hnone]; rfl
    have hmetered : metered = s.metered m 0 := by
      have hmetered : metered = s.metered m (s.alphaOf dest) := rfl
      rw [hmetered, hnone]; rfl
    have hstray : stray = satAdd (2 ^ 32 - 1) arm.stray (s.gateFigures m 0).1.gross := by rw [← hfigures]; rfl
    have hstrayed : ({ arm with stray } : Arm) = arm.strayed (s.gateFigures m 0).1.gross := by rw [hstray]; rfl
    refine ⟨by rw [hstray]; exact (State.gate_unrouted_figures halone hd).2, fun hpd => ?_, fun hrun hstay => ?_⟩
    · rw [State.gate_unrouted_quiet halone hd (.inl hpd) (.inl hpd), hmetered, hstrayed, State.crossing_powerDown]
      · rfl
      · exact hpd
    · have hquiet : arm.state = .fault ∨ ¬ failed ∧ ¬ limit := hstay.imp id fun ⟨hf, hl, _⟩ => ⟨hf, hl⟩
      have hidle : arm.state ≠ .idle ∨ stray ≤ arm.config.strayLimit :=
        hstay.elim (fun h => .inl (by rw [h]; nofun)) fun ⟨_, _, h⟩ => h
      rw [hstray] at hidle
      rw [State.gate_unrouted_quiet halone hd (.inr hquiet) (.inr hidle), hstrayed]
      have hchecked := State.crossing_checkpointed (m := m) (s := { s with
        meters := s.meters.set m (s.metered m 0), arms := s.arms.set m (s.arms[m].strayed (s.gateFigures m 0).1.gross)
        ports := s.gateAlarms m }) (fun h => nomatch hrun.symm.trans h) s.meters[m].gross
      rw [State.crossing_eq] at hchecked ⊢
      exact ⟨rfl, rfl, rfl, rfl, rfl, rfl, hchecked⟩
  · have hd : s.routed m = some c := hdest.symm.trans hsome
    obtain ⟨hc, ha, hn, hrouted⟩ := routed hd
    have hgated : CompRecord.gated (s.gateFigures m s.products[c.line.product].alpha).1 (decide (0 < s.meters[m].owing))
        s.probes[m].invalidRun = filled := by
      have hf : f = s.gateFigures m (s.alphaOf dest) := rfl
      funext y
      rw [hfill, hf, hsome]; rfl
    have hfilled : filled c = s.filledComp m c := by rw [← hgated]; rfl
    have hmetered : metered = s.metered m s.products[c.line.product].alpha := by
      have hmetered : metered = s.metered m (s.alphaOf dest) := rfl
      rw [hmetered, hsome]; rfl
    refine ⟨hrouted.stray, fun _ hcross => ?_, fun hpd => ?_, ?_⟩
    · rw [hfilled] at hcross ⊢
      exact hrouted.progress hcross
    · rw [State.gate_powerDown hc ha hn (.inl hpd) (.inl hpd) hpd, State.progressed_eq, ← hfilled]
      have hload : (s.fills m c (s.gateAlarms m)).load = some { l with comps := l.comps.map fun y =>
          if y.line.compartment = c.line.compartment then (filled y) else y } := by
        rw [State.fills, hl, hgated]; rfl
      rw [hmetered, ← hload]
      rfl
    · have hcomp := hrouted.comp
      obtain ⟨c', hc', hbase⟩ := hcomp
      obtain ⟨u, hu, huc⟩ := State.comp?_eq_some.1 hc'
      refine ⟨u, c', hu, huc, ?_, ?_⟩
      · rw [hfilled]; exact CompRecord.eq_of_base hbase
      · intro rest hrun hf hlim hwarm hstay
        have hrest : rest = (filled c).remaining := rfl
        have hstays : arm.Stays (s.filledComp m c) := by
          rw [← hfilled]; exact hstay
        obtain ⟨w, hdoses, hgate⟩ := State.gate_staying hc ha hn ⟨hf, hlim⟩ hwarm hrun hstays
        obtain ⟨rs, hrs⟩ := hdoses.comps (State.fills_comp? hc m s.ports)
        have hchecked := State.crossing_checkpointed (m := m) (s := State.progressed c.line.compartment c.gross
          (s.filledComp m c).gross s.arms[m].config.progress w) (by
            rw [State.progressed_eq, hdoses.frame]; exact fun h => nomatch hrun.symm.trans h) s.meters[m].gross
        rw [hgate] at hc' ⊢
        rw [State.crossing_eq, State.progressed_eq] at hc'
        obtain rfl := Option.some.inj (hc'.symm.trans hrs)
        refine ⟨?_, ?_, ?_, ?_, ?_, ?_, fun j hj => ?_⟩
        · rw [State.crossing_eq, State.progressed_eq, hdoses.frame]; rfl
        · rw [State.crossing_eq, State.progressed_eq, hdoses.frame, ← hfilled]; rfl
        · rw [hfilled]
        · rw [State.crossing_eq, State.progressed_eq, hdoses.frame]; rfl
        · rw [State.crossing_eq, State.progressed_eq, hdoses.frame]; rfl
        · refine hchecked.of_queue ?_ ?_ <;> rw [State.progressed_eq, hdoses.frame] <;> rfl
        · rw [State.crossing_eq, State.progressed_eq]
          exact hdoses.others j fun ⟨r, hr, hrj⟩ => hj r hr hrj
end Sys2Proof.Machine
end

section
/-! PROOFS. The alarms of a gate, and what a gate posts before them (R45, R47, R84). -/

namespace Sys2Proof.Machine

variable {s t u : State} {m a p q : Fin 4} {n k j : Nat} {x : Arm} {c : CompRecord}

/-! ### How many events a fault posts -/

/-- From `s` to `t` at most `k` events have joined the queue of any port. -/
def State.PostsUpTo (k : Nat) (s t : State) : Prop :=
  ∀ p : Port, (t.ports.get p).events.length ≤ (s.ports.get p).events.length + k

theorem State.PostsUpTo.trans (h : State.PostsUpTo k s t) (h' : State.PostsUpTo j t u) : State.PostsUpTo (k + j) s u := fun p => by
  have := h p
  have := h' p
  omega

theorem State.PostsUpTo.of_ports (h : t.ports = s.ports) : State.PostsUpTo 0 s t := fun p => by rw [h]; omega

theorem PortState.offer_length (e : Event) (y : PortState) : (y.offer e).events.length ≤ y.events.length + 1 := by
  unfold PortState.offer
  split
  · simp
  · exact Nat.le_succ _

theorem State.postsUpTo_post (e : EventCode) (o : ObjectKind) (i : Nat) (w : BitVec 32) (s : State) :
    State.PostsUpTo 1 s (s.post e o i w) := by
  have hport (b : Bool) (y : PortState) (e : Event) : (if b then y.offer e else y).events.length ≤ y.events.length + 1 := by
    split
    · exact PortState.offer_length e y
    · exact Nat.le_succ _
  intro p
  cases p <;> exact hport ..

theorem State.postsUpTo_compChanged (n : Nat) (s : State) : State.PostsUpTo 2 s (s.compChanged n) := by
  have hload (t : State) : State.PostsUpTo 1 t t.evalLoad := by
    unfold State.evalLoad
    split
    · exact fun p => Nat.le_succ _
    · split
      · exact fun p => Nat.le_succ _
      · rename_i l hl _
        exact (State.PostsUpTo.of_ports (s := t) rfl).trans (State.postsUpTo_post _ _ _ _ { t with load := some { l with state := l.evaluated } })
  have hcomps (t : State) : State.PostsUpTo 1 t t.evalComps := by
    unfold State.evalComps
    split
    · exact fun p => Nat.le_succ _
    · exact hload t
  unfold State.compChanged
  split
  · exact fun p => by omega
  · exact ((State.postsUpTo_post _ _ _ _ s).trans (hcomps _)).trans (.of_ports (State.imagePoint_ports _))

theorem State.postsUpTo_driveClose (n : Nat) (r : CloseReason) (s : State) : State.PostsUpTo 2 s (s.driveClose n r) := by
  by_cases h : ∃ c, s.comp? n = some c ∧ c.state.isDrivable = true
  · obtain ⟨c, hc, hd⟩ := h
    rw [State.driveClose_eq s hc hd]
    exact State.PostsUpTo.trans (t := s.atDrive n c.line.arm r) (.of_ports rfl) (State.postsUpTo_compChanged n _)
  · rw [State.driveClose_of_not_drivable s fun c hc => by
      cases hd : c.state.isDrivable
      · rfl
      · exact absurd ⟨c, hc, hd⟩ h]
    exact fun p => by omega

/-! ### A recount in which no demand has risen -/

theorem State.recountPump_of_le (h : s.demandCount p ≤ s.pumps[p].demand) :
    s.recountPump p = { s with pumps := (s.recountPump p).pumps } := by
  unfold State.recountPump
  dsimp only
  rw [if_neg (by omega)]
  split
  · unfold State.demandFalls
    split <;> rfl
  · rfl

/-- Where no arm demands a pump that does not count it, the recount changes pumps alone. -/
theorem State.recount_of_le (h : ∀ p : Fin 4, s.demandCount p ≤ s.pumps[p].demand) : s.recount = { s with pumps := s.recount.pumps } := by
  have hfold (ps : List (Fin 4)) (hps : ps.Nodup) (t : State) (ht : ∀ p ∈ ps, t.demandCount p ≤ t.pumps[p].demand) :
      ps.foldl (fun s p => s.recountPump p) t = { t with pumps := (ps.foldl (fun s p => s.recountPump p) t).pumps } := by
    induction ps generalizing t with
    | nil => rfl
    | cons p ps ih =>
      obtain ⟨hp, hps⟩ := List.nodup_cons.1 hps
      have hstep := State.demands_recountPump p t
      have hrest := ih hps (t.recountPump p) fun q hq => by
        rw [hstep.demandCount, hstep.others q fun he => hp (he ▸ hq)]
        exact ht q (List.mem_cons_of_mem _ hq)
      rw [List.foldl_cons, hrest, State.recountPump_of_le (ht p List.mem_cons_self)]
  exact hfold fours (by decide) s fun p _ => h p

/-- Where arms only cease to demand, no demand count rises. -/
theorem State.demandCount_le (hd : ∀ b : Fin 4, t.arms[b].state.isDemanding = true → s.arms[b].state.isDemanding = true)
    (hp : ∀ b : Fin 4, t.armPump b = s.armPump b) (p : Fin 4) : t.demandCount p ≤ s.demandCount p := by
  refine (List.monotone_filter_right fours fun b hb => ?_).length_le
  rw [Bool.and_eq_true] at hb ⊢
  exact ⟨hd b hb.1, by rw [← hp b]; exact hb.2⟩

theorem Arm.faulted_isDemanding (cause : FaultCause) (x : Arm) : (x.faulted cause).state.isDemanding = false := by
  rw [Arm.faulted_state]; rfl

theorem Arm.isDemanding_of_driven (h : x.driven.state.isDemanding = true) : x.state.isDemanding = true := by
  unfold Arm.driven at h
  split at h
  · rename_i hst
    cases hx : x.state <;> simp_all [ArmState.isStaging, ArmState.isDemanding]
  · exact h

/-- The demand of every pump is the count of the arms that demand it. -/
def State.Counted (s : State) : Prop := ∀ p : Fin 4, s.pumps[p].demand = s.demandCount p

/-- The state of a fault before the pumps' demand is counted afresh. -/
def State.faulting (a : Fin 4) (cause : FaultCause) (s : State) : State :=
  match s.arms[a].served with
  | none => s.modifyArm a (Arm.faulted cause)
  | some n => (s.modifyArm a (Arm.faulted cause)).driveClose n (.halt cause.haltCause)

theorem State.armFault_eq_faulting (hp : s.phase ≠ .powerDown) (hx : s.arms[a].state ≠ .fault) (cause : FaultCause) :
    s.armFault a cause = (s.faulting a cause).recount := by
  unfold State.armFault
  rw [if_neg hp, if_neg hx]; rfl

theorem State.faulting_still (a : Fin 4) (cause : FaultCause) (s : State) : (s.faulting a cause).still = s.still := by
  unfold State.faulting
  split
  · rfl
  · exact State.driveClose_still ..

theorem State.leads_faulting (a : Fin 4) (cause : FaultCause) (s : State) : s.Leads (s.faulting a cause) := by
  have hstray (x : Arm) : (x.faulted cause).stray = x.stray := by unfold Arm.faulted; split <;> rfl
  unfold State.faulting
  split
  · exact .modifyArm hstray a s
  · exact (State.Leads.modifyArm hstray a s).trans (.driveClose _ _ _)

/-- An arm that the fault of an arm leaves demanding demanded before, and none drops its compartment. -/
theorem State.faulting_arm (a b : Fin 4) (cause : FaultCause) (s : State) :
    (s.faulting a cause).arms[b].served = s.arms[b].served
      ∧ ((s.faulting a cause).arms[b].state.isDemanding = true → s.arms[b].state.isDemanding = true) := by
  have harm : (s.modifyArm a (Arm.faulted cause)).arms[b].served = s.arms[b].served
      ∧ ((s.modifyArm a (Arm.faulted cause)).arms[b].state.isDemanding = true → s.arms[b].state.isDemanding = true) := by
    rw [State.modifyArm_get]
    split
    · rename_i h
      subst h
      rw [Arm.faulted_isDemanding]
      exact ⟨Arm.faulted_served .., nofun⟩
    · exact ⟨rfl, id⟩
  unfold State.faulting
  split
  · exact harm
  · rename_i n _
    by_cases h : ∃ c, (s.modifyArm a (Arm.faulted cause)).comp? n = some c ∧ c.state.isDrivable = true
    · obtain ⟨c, hc, hd⟩ := h
      refine ⟨(State.driveClose_served ..).trans harm.1, fun hdem => harm.2 ?_⟩
      rw [State.driveClose_arms _ hc hd] at hdem
      have hset := vector_get_set (s.modifyArm a (Arm.faulted cause)).arms c.line.arm b
        (s.modifyArm a (Arm.faulted cause)).arms[c.line.arm].driven
      rw [hset] at hdem
      split at hdem
      · rename_i hb
        rw [hb]
        exact Arm.isDemanding_of_driven hdem
      · exact hdem
    · rw [State.driveClose_of_not_drivable _ fun c hc => by
        cases hd : c.state.isDrivable
        · rfl
        · exact absurd ⟨c, hc, hd⟩ h]
      exact harm

/-- A fault in a state whose demands are counted posts what its drive posts. -/
theorem State.armFault_of_counted (h : s.Counted) (hp : s.phase ≠ .powerDown) (hx : s.arms[a].state ≠ .fault) (cause : FaultCause) :
    s.armFault a cause = { s.faulting a cause with pumps := (s.armFault a cause).pumps } := by
  have hleads := s.leads_faulting a cause
  rw [State.armFault_eq_faulting hp hx]
  refine State.recount_of_le fun p => ?_
  rw [(State.of_still (s.faulting_still a cause)).1, h p]
  refine State.demandCount_le (fun b => (s.faulting_arm a b cause).2)
    (fun b => State.armPump_congr (s.faulting_arm a b cause).1 (fun k => ?_) (State.of_apart hleads.apart).2.2.2.2.2.2.2) p
  have hline := congrArg (Option.map CompRecord.line) (hleads.bases k)
  rw [Option.map_map, Option.map_map] at hline
  exact hline

theorem State.postsUpTo_armFault (h : s.Counted) (a : Fin 4) (cause : FaultCause) : State.PostsUpTo 2 s (s.armFault a cause) := by
  by_cases hquiet : s.phase = .powerDown ∨ s.arms[a].state = .fault
  · rw [State.armFault_quiet hquiet]
    exact fun p => Nat.le_add_right _ 2
  · obtain ⟨hp, hx⟩ := not_or.1 hquiet
    rw [State.armFault_of_counted h hp hx]
    have hfaulting : State.PostsUpTo 2 s (s.faulting a cause) := by
      unfold State.faulting
      split
      · exact fun p => Nat.le_add_right _ 2
      · exact State.PostsUpTo.trans (t := s.modifyArm a (Arm.faulted cause)) (.of_ports rfl) (State.postsUpTo_driveClose _ _ _)
    exact hfaulting

/-! ### The alarms reach the ports -/

theorem State.tells_route (m : Fin 4) (dest : Option CompRecord) (forward : Nat) (reverse : Bool) (g : GateFigures) (t : State) :
    t.Tells (t.route m dest forward reverse g) := by
  unfold State.route
  split
  · exact State.Tells.trans (s := t.modifyComp _ _) (.of_ports rfl) (State.Leads.followGate m _ forward _ g _).tells
  · dsimp only
    split
    · exact .of_ports rfl
    · exact State.Tells.trans (s := t.modifyArm m _) (.of_ports rfl) (State.Leads.strayCheck m _).tells

theorem State.tells_gate (m : Fin 4) (s : State) : (s.repaid m).Tells (s.gate m) := by
  obtain ⟨-, hprobes, -, hcal, -, -, -, hproducts⟩ := State.of_apart (s.leads_warmed m).apart
  rw [State.gate_eq rfl hcal hprobes hproducts, State.filled]
  have hwarm := (State.Leads.tempDrive m (s.repaid m)).tells
  have hmeter (f : Meter → Meter) : (s.repaid m).Tells (((s.repaid m).tempDrive m).modifyMeter m f) := hwarm.trans (.of_ports rfl)
  exact ((hmeter _).trans (State.tells_route m _ _ _ _ _)).trans (State.Leads.crossing m _ _).tells

theorem State.tells_debt (m : Fin 4) (s : State) : (s.errorsJudged m).Tells (s.repaid m) := by
  rw [State.repaid_eq]
  split
  · have hpost := State.tells_post .reverseLimit .arm m.val (w32 4095) ((s.errorsJudged m).modifyMeter m fun y =>
      { y with debt := s.meters[m].owing - min s.meters[m].owing s.meters[m].forward })
    exact State.Tells.trans (s := (s.errorsJudged m).modifyMeter m _) (.of_ports rfl) (hpost.trans (State.Leads.armFault ..).tells)
  · exact .of_ports rfl

/-- PULSE_FAULT reaches every queue with a place (R45). -/
theorem State.pulseFault_told (hf : s.meters[m].failed) (hx : s.arms[m].state ≠ .fault) {p : Port}
    (hp : (s.ports.get p).events.length < 16) :
    ⟨.pulseFault, .arm, m.val, w32 s.meters[m].errors, s.clock.second⟩ ∈ ((s.gate m).ports.get p).events := by
  have hjudge : ((s.modifyMeter m Meter.taken).post .pulseFault .arm m.val (w32 s.meters[m].errors)).Tells (s.errorsJudged m) := by
    rw [State.errorsJudged_of_failed hf hx]
    exact (State.Leads.armFault ..).tells
  refine (((hjudge.trans (s.tells_debt m)).trans (s.tells_gate m)) p).subset ?_
  cases p <;> exact PortState.mem_offer hp

/-- REVERSE_LIMIT reaches every queue in which the judgement of the errors has left a place (R47). -/
theorem State.reverseLimit_told (hl : s.meters[m].limited) {p : Port} (hp : ((s.errorsJudged m).ports.get p).events.length < 16) :
    ⟨.reverseLimit, .arm, m.val, w32 4095, s.clock.second⟩ ∈ ((s.gate m).ports.get p).events := by
  have hclock : (s.errorsJudged m).clock = s.clock := (State.of_apart (s.leads_errorsJudged m).apart).2.2.2.2.1
  have hdebt : (((s.errorsJudged m).modifyMeter m fun y =>
      { y with debt := s.meters[m].owing - min s.meters[m].owing s.meters[m].forward }).post .reverseLimit .arm m.val
        (w32 4095)).Tells (s.repaid m) := by
    rw [State.repaid_eq, if_pos hl]
    exact (State.Leads.armFault ..).tells
  refine ((hdebt.trans (s.tells_gate m)) p).subset ?_
  rw [← hclock]
  cases p <;> exact PortState.mem_offer hp

/-- A judgement of errors posts no more than three events. -/
theorem State.postsUpTo_errorsJudged (h : s.Counted) (m : Fin 4) : State.PostsUpTo 3 s (s.errorsJudged m) := by
  by_cases hloud : s.meters[m].failed ∧ s.arms[m].state ≠ .fault
  · rw [State.errorsJudged_of_failed hloud.1 hloud.2]
    have hpost := State.postsUpTo_post .pulseFault .arm m.val (w32 s.meters[m].errors) (s.modifyMeter m Meter.taken)
    exact (State.PostsUpTo.of_ports (t := s.modifyMeter m Meter.taken) rfl).trans
      (hpost.trans (State.postsUpTo_armFault (s := (s.modifyMeter m Meter.taken).post ..) h m .pulseFault))
  · rw [State.errorsJudged_of_not_failed]
    · exact fun p => Nat.le_add_right _ 3
    · exact (not_and_or.1 hloud).symm.imp not_not.1 id

end Sys2Proof.Machine
end

section
/-! PROOFS. A gate of an arm that serves no compartment: its alarms and its stray volume put it in FAULT (R45, R47, R84, R85). -/

namespace Sys2Proof.Machine

variable {s t u : State} {m a p : Fin 4} {n k : Nat} {x : Arm} {c : CompRecord} {cause : FaultCause}

theorem State.routed_of_unserved (h : s.arms[m].served = none) : s.routed m = none := by
  rw [State.routed, h]; rfl

/-- A fault handed to an arm that serves no compartment. -/
theorem State.armFault_unserved (hn : s.arms[m].served = none) (hp : s.phase ≠ .powerDown) (hx : s.arms[m].state ≠ .fault)
    (cause : FaultCause) :
    (s.armFault m cause).arms[m] = s.arms[m].faulted cause ∧ (s.Counted → (s.armFault m cause).ports = s.ports) := by
  have hfaulting : s.faulting m cause = s.modifyArm m (Arm.faulted cause) := by
    unfold State.faulting
    simp only [hn]
  refine ⟨?_, fun hc => ?_⟩
  · rw [State.armFault_eq_faulting hp hx, hfaulting, (State.settles_recount _).arms m, State.modifyArm_get_self]
    rw [State.modifyArm_get_self, Arm.faulted_state]; nofun
  · rw [State.armFault_of_counted hc hp hx, hfaulting]; rfl

theorem State.gateAlarms_of_failed (hf : s.meters[m].failed) (hx : s.arms[m].state ≠ .fault) : s.gateAlarms m
    = if s.meters[m].limited then (s.ports.offer ⟨.pulseFault, .arm, m.val, w32 s.meters[m].errors, s.clock.second⟩).offer
        ⟨.reverseLimit, .arm, m.val, w32 4095, s.clock.second⟩
      else s.ports.offer ⟨.pulseFault, .arm, m.val, w32 s.meters[m].errors, s.clock.second⟩ := by
  have h : s.meters[m].failed ∧ s.arms[m].state ≠ .fault := ⟨hf, hx⟩
  rw [State.gateAlarms, if_pos h]

theorem State.gateAlarms_of_not_failed (hf : ¬ s.meters[m].failed) : s.gateAlarms m
    = if s.meters[m].limited then s.ports.offer ⟨.reverseLimit, .arm, m.val, w32 4095, s.clock.second⟩ else s.ports := by
  have h : ¬ (s.meters[m].failed ∧ s.arms[m].state ≠ .fault) := fun h => hf h.1
  rw [State.gateAlarms, if_neg h]

section Alarm

variable (hn : s.arms[m].served = none) (hp : s.phase ≠ .powerDown) (hx : s.arms[m].state ≠ .fault)
include hn hp hx

/-- The alarm of a gate faults the arm, the errors judged first, and its two events are posted in order. -/
theorem State.repaid_unserved (h : s.meters[m].failed ∧ cause = .pulseFault
      ∨ ¬ s.meters[m].failed ∧ s.meters[m].limited ∧ cause = .reverseLimit) :
    (s.repaid m).arms[m] = s.arms[m].faulted cause ∧ (s.Counted → (s.repaid m).ports = s.gateAlarms m) := by
  obtain ⟨hf, rfl⟩ | ⟨hf, hl, rfl⟩ := h
  · have hjudge := State.armFault_unserved (s := (s.modifyMeter m Meter.taken).post .pulseFault .arm m.val (w32 s.meters[m].errors))
      hn hp hx .pulseFault
    rw [← State.errorsJudged_of_failed hf hx] at hjudge
    obtain ⟨harm, hports⟩ := hjudge
    have hclock : (s.errorsJudged m).clock = s.clock := (State.of_apart (s.leads_errorsJudged m).apart).2.2.2.2.1
    have hquiet : (s.errorsJudged m).arms[m].state = .fault := (congrArg Arm.state harm).trans (Arm.faulted_state ..)
    rw [State.repaid_eq]
    have halarms := State.gateAlarms_of_failed hf hx
    by_cases hl : s.meters[m].limited
    · have hlast := State.armFault_quiet (s := State.post .reverseLimit .arm m.val (w32 4095) ((s.errorsJudged m).modifyMeter m
        fun y => { y with debt := s.meters[m].owing - min s.meters[m].owing s.meters[m].forward })) (.inr hquiet) .reverseLimit
      rw [if_pos hl, hlast]
      refine ⟨harm, fun hc => ?_⟩
      rw [halarms, if_pos hl, ← hclock]
      exact congrArg (fun q : Ports => q.offer ⟨.reverseLimit, .arm, m.val, w32 4095, (s.errorsJudged m).clock.second⟩)
        ((hports hc).trans (by rw [hclock]; rfl))
    · rw [if_neg hl]
      refine ⟨harm, fun hc => ?_⟩
      rw [halarms, if_neg hl]
      exact hports hc
  · have halarms := State.gateAlarms_of_not_failed hf
    rw [if_pos hl] at halarms
    rw [State.repaid_eq, if_pos hl, State.errorsJudged_of_not_failed (.inr hf), halarms]
    exact State.armFault_unserved (s := State.post .reverseLimit .arm m.val (w32 4095) ((s.modifyMeter m Meter.taken).modifyMeter m _))
      hn hp hx .reverseLimit

/-- A gate whose alarm faults an arm that serves nothing. -/
theorem State.gate_unserved (h : s.meters[m].failed ∧ cause = .pulseFault
      ∨ ¬ s.meters[m].failed ∧ s.meters[m].limited ∧ cause = .reverseLimit) :
    (s.gate m).arms[m] = (s.arms[m].faulted cause).strayed (s.gateFigures m 0).1.gross
      ∧ (s.Counted → (s.gate m).ports = s.gateAlarms m) := by
  obtain ⟨harm, hports⟩ := State.repaid_unserved hn hp hx h
  have hserved : (s.repaid m).arms[m].served = none := by rw [harm]; exact (Arm.faulted_served ..).trans hn
  have hwarmed : s.warmed m = s.repaid m := by
    rw [State.warmed, State.tempDrive, State.routed_of_unserved hserved, ite_self]
  have hfilled : (s.strayFilled m (s.warmed m)).arms[m] = (s.arms[m].faulted cause).strayed (s.gateFigures m 0).1.gross := by
    rw [State.strayFilled, State.modifyArm_get_self, ← harm, hwarmed]; rfl
  have hstray : (s.strayFilled m (s.warmed m)).strayCheck m = s.strayFilled m (s.warmed m) :=
    State.strayCheck_none (.inl (by rw [hfilled, Arm.strayed_state, Arm.faulted_state]; nofun))
  have hkept : (s.strayFilled m (s.warmed m)).ports = (s.repaid m).ports := by rw [hwarmed]; rfl
  have hgate := State.gate_of_unrouted (m := m) (fun b _ => by rw [hn]; exact em _) (State.routed_of_unserved hn)
  rw [if_neg hp, hstray, State.crossing_eq] at hgate
  rw [hgate]
  exact ⟨hfilled, fun hc => hkept.trans (hports hc)⟩

end Alarm

/-! ### The stray limit (R85) -/

theorem State.strayCheck_faults (hlimit : s.arms[m].config.strayLimit < s.arms[m].stray) (hidle : s.arms[m].state = .idle) :
    s.strayCheck m = (s.armFault m .strayFlow).post .strayFlow .arm m.val (w32 s.arms[m].stray) := if_pos ⟨hlimit, hidle⟩

/-- An arm that changes neither its state nor its compartment demands as it did. -/
theorem State.Counted.modifyArm {f : Arm → Arm} (h : s.Counted) (hstate : (f s.arms[m]).state = s.arms[m].state)
    (hserved : (f s.arms[m]).served = s.arms[m].served) : (s.modifyArm m f).Counted := fun p => by
  rw [(State.demands_modifyArm p s (by rw [hstate]) hserved).demandCount]
  exact h p

section Limit

variable (hn : s.arms[m].served = none) (hp : s.phase ≠ .powerDown) (hidle : s.arms[m].state = .idle)
  (hquiet : ¬ s.meters[m].failed ∧ ¬ s.meters[m].limited)
include hn hp hidle hquiet

/-- A stray volume past its limit faults an IDLE arm. -/
theorem State.gate_stray (h : s.arms[m].config.strayLimit < satAdd (2 ^ 32 - 1) s.arms[m].stray (s.gateFigures m 0).1.gross) :
    (s.gate m).arms[m] = (s.arms[m].strayed (s.gateFigures m 0).1.gross).faulted .strayFlow
      ∧ (s.Counted → (s.gate m).ports = s.ports.offer ⟨.strayFlow, .arm, m.val,
        w32 (satAdd (2 ^ 32 - 1) s.arms[m].stray (s.gateFigures m 0).1.gross), s.clock.second⟩) := by
  have hrouted := State.routed_of_unserved hn
  have hwarmed := State.warmed_quiet (m := m) (.inr (.inr hquiet)) (.inr (.inr (.inl hrouted)))
  rw [State.gateAlarms_of_not_failed hquiet.1, if_neg hquiet.2] at hwarmed
  have hfilled : s.strayFilled m (s.warmed m) = (({ s with meters := s.meters.set m (s.metered m 0) } : State).modifyArm m
      (Arm.strayed (s.gateFigures m 0).1.gross)) := by
    rw [hwarmed, State.strayFilled, State.modifyMeter, vector_get_set, if_pos rfl, Vector.set_set]
    rfl
  have hgate := State.gate_of_unrouted (m := m) (fun b _ => by rw [hn]; exact em _) hrouted
  rw [if_neg hp, hfilled] at hgate
  generalize hu : ({ s with meters := s.meters.set m (s.metered m 0) } : State).modifyArm m
    (Arm.strayed (s.gateFigures m 0).1.gross) = u at hgate
  have harm : u.arms[m] = s.arms[m].strayed (s.gateFigures m 0).1.gross := by rw [← hu]; exact State.modifyArm_get_self ..
  have hports : u.ports = s.ports := by rw [← hu]; rfl
  have hclock : u.clock = s.clock := by rw [← hu]; rfl
  have hphase : u.phase = s.phase := by rw [← hu]; rfl
  have hcounted (hc : s.Counted) : u.Counted := by
    rw [← hu]
    exact State.Counted.modifyArm (s := { s with meters := s.meters.set m (s.metered m 0) }) hc (Arm.strayed_state ..)
      (Arm.strayed_served ..)
  have hstray : u.arms[m].stray = satAdd (2 ^ 32 - 1) s.arms[m].stray (s.gateFigures m 0).1.gross := by rw [harm, Arm.strayed_stray]
  obtain ⟨hfault, htold⟩ := State.armFault_unserved (s := u) (m := m) (by rw [harm, Arm.strayed_served]; exact hn) (by rw [hphase]; exact hp)
    (by rw [harm, Arm.strayed_state, hidle]; nofun) .strayFlow
  rw [State.strayCheck_faults (by rw [hstray, harm, Arm.strayed_config]; exact h) (by rw [harm, Arm.strayed_state, hidle]),
    State.crossing_eq, hstray] at hgate
  rw [hgate]
  refine ⟨hfault.trans (by rw [harm]), fun hc => ?_⟩
  have hlast : (u.armFault m .strayFlow).clock = s.clock := (State.of_apart (State.armFault_apart ..)).2.2.2.2.1.trans hclock
  rw [← hlast, ← hports, ← htold (hcounted hc)]
  rfl

end Limit

end Sys2Proof.Machine
end

section
/-! PROOFS. The no-flow that ends the close of a compartment (R81, R83, R18). -/

namespace Sys2Proof.Machine

variable {s t u : State} {m a : Fin 4} {n k : Nat} {M : Vector Meter 4} {x : Arm} {c d c' : CompRecord} {v : Vector Injector 8}
  {f : CompRecord → CompRecord} {cause : HaltCause}

/-! ### A compartment that leaves CLOSING -/

theorem State.ResultsAtDone.congr (h : s.ResultsAtDone d c') (ha : c.additives = d.additives) (hg : c.gross = d.gross)
    (hn : c.line.compartment = d.line.compartment) (hi : t.injectors = s.injectors) : t.ResultsAtDone c c' := by
  rw [State.ResultsAtDone, ha, hg, hn, hi]; exact h

theorem State.InjectorsAtDone.congr (h : s.InjectorsAtDone n u) (hi : t.injectors = s.injectors) : t.InjectorsAtDone n u := by
  rw [State.InjectorsAtDone, hi]; exact h

namespace State.GateAt

theorem compDone (h : s.GateAt m n M x c v t) (hf : ∀ c, (f c).line.compartment = c.line.compartment) :
    s.GateAt m n M x (t.doneAt n f c) (t.mapInjectors fun y => if y.boundTo n then y.released else y).injectors (t.compDone n f) := by
  have hat : s.GateAt m n M x (t.doneAt n f c) (t.mapInjectors fun y => if y.boundTo n then y.released else y).injectors
      (t.atDone n f) :=
    ⟨h.arm, State.atDone_comp? hf h.comp, rfl, h.served, (State.modifyComp_loadCloses n (t.doneAt n f) t).trans h.closing, h.safety,
      h.apart⟩
  rw [State.compDone_eq hf]
  exact (hat.compChanged n).callCheckpoint

theorem atHalt (h : s.GateAt m n M x c v t) (hf : ∀ c, (f c).line.compartment = c.line.compartment) (cause : HaltCause) :
    s.GateAt m n M x { f c with state := .halted, haltCause := some cause } v
      ((t.modifyComp n fun c => { f c with state := .halted, haltCause := some cause }).compChanged n).callCheckpoint :=
  ((h.modifyComp (f := fun c => { f c with state := .halted, haltCause := some cause }) fun d => (hf d :)).compChanged n).callCheckpoint

/-- A halt in a load that is not CLOSING (R14). -/
theorem compHalted_open (h : s.GateAt m n M x c v t) (hf : ∀ c, (f c).line.compartment = c.line.compartment)
    (hl : s.loadCloses = false) : s.GateAt m n M x { f c with state := .halted, haltCause := some cause } v (t.compHalted n cause f) := by
  have hat := h.atHalt hf cause
  have hopen := hat.closing.trans hl
  unfold State.compHalted
  dsimp only
  split
  · exact hat
  · rename_i l hl'
    rw [if_neg]
    · exact hat
    · rw [State.loadCloses, hl'] at hopen
      simpa using hopen

/-- A halt in a CLOSING load goes on to DONE with SHORT (R18). -/
theorem compHalted_closing (h : s.GateAt m n M x c v t) (hf : ∀ c, (f c).line.compartment = c.line.compartment)
    (hl : s.loadCloses = true) : ∃ u : State, u.injectors = v ∧ s.GateAt m n M x
      (u.doneAt n CompRecord.short { f c with state := .halted, haltCause := some cause })
      (u.mapInjectors fun y => if y.boundTo n then y.released else y).injectors (t.compHalted n cause f) := by
  have hat := h.atHalt hf cause
  have hclosing := hat.closing.trans hl
  refine ⟨_, hat.injectors, ?_⟩
  unfold State.compHalted
  dsimp only
  split
  · rename_i hl'
    rw [State.loadCloses, hl'] at hclosing
    exact nomatch hclosing
  · rename_i l hl'
    rw [if_pos]
    · exact hat.compDone fun _ => rfl
    · rw [State.loadCloses, hl'] at hclosing
      simpa using hclosing

theorem queueLearned (h : s.GateAt m n M x c v t) : ∃ owed, s.GateAt m n M { x with antOwed := owed } c v (t.queueLearned m) := by
  unfold State.queueLearned
  split
  · exact ⟨x.antOwed, h⟩
  · split
    · rename_i w _
      refine ⟨x.antOwed, h.frame (t.mapWaiting_load _) (t.mapWaiting_arms _) (t.mapWaiting_injectors _) ?_ ?_⟩
      · exact (State.of_still (t.mapWaiting_still _)).2.2.1
      · rw [State.mapWaiting_apart, h.meters_eq]
    · split
      · exact ⟨false, (h.frame rfl rfl rfl rfl h.meters_eq.symm : s.GateAt m n M x c v (t.enqueue _)).modifyArm fun y =>
          { y with antOwed := false }⟩
      · exact ⟨true, h.modifyArm fun y => { y with antOwed := true }⟩

end State.GateAt

/-! ### What a stop teaches, and the arm that drops its compartment (R81, R83) -/

theorem State.Ends.closeIfDone (h : State.Ends m n M x c v t) : State.Ends m n M x c v t.closeIfDone :=
  ⟨by rw [State.closeIfDone_arms]; exact h.arm, by rw [State.closeIfDone_comp?]; exact h.comp,
    t.closeIfDone_injectors.trans h.injectors, (State.of_apart t.closeIfDone_apart).1.trans h.meters⟩

/-- The anticipation that arm `x` keeps of the end of compartment `c`. -/
def Arm.taught (c : CompRecord) (x : Arm) : Nat :=
  if c.closeReason = some .preset ∧ x.learnable = true ∧ x.faultDuringClose = false then
    learnedAnt x.config.ant x.config.maxAnt (-c.remaining)
  else x.config.ant

/-- Arm `y` is arm `x` once it has dropped its compartment `c`. -/
structure Arm.DroppedTo (c : CompRecord) (x y : Arm) : Prop where
  state : y.state = if x.state = .fault then .fault else .idle
  faultCause : y.faultCause = x.faultCause
  served : y.served = none
  closeTimer : y.closeTimer = none
  valve : y.valve = x.valve
  config : y.config = { x.config with ant := x.taught c }

namespace State.GateAt

theorem learn (h : s.GateAt m n M x c v t) (d : CompRecord) :
    ∃ owed, s.GateAt m n M { x with config := { x.config with ant := x.taught d }, antOwed := owed } c v (t.learn m d) := by
  unfold State.learn
  rw [h.arm]
  split
  · rename_i hl
    have hl : d.closeReason = some .preset ∧ x.learnable = true ∧ x.faultDuringClose = false := by simpa using hl
    obtain ⟨owed, hq⟩ := (h.modifyArm fun x =>
      { x with config := { x.config with ant := learnedAnt x.config.ant x.config.maxAnt (-d.remaining) } }).queueLearned
    rw [Arm.taught, if_pos hl]
    exact ⟨owed, hq⟩
  · rename_i hl
    have hl : ¬ (d.closeReason = some .preset ∧ x.learnable = true ∧ x.faultDuringClose = false) := by simpa using hl
    rw [Arm.taught, if_neg hl]
    exact ⟨x.antOwed, h⟩

/-- No-flow confirmed: what the end of the close leaves of the compartment stays, and the arm drops it. -/
theorem noFlowConfirmed (h : s.GateAt m n M x c v t) (hserved : x.served = some n)
    (halone : ∀ b : Fin 4, b ≠ m → s.arms[b].served ≠ some n) {v' : Vector Injector 8}
    (hend : s.GateAt m n M x c' v' (t.endClose m c)) :
    ∃ y, x.DroppedTo c y ∧ State.Ends m n M y c' v' (t.noFlowConfirmed m) := by
  obtain ⟨owed, hlearn⟩ := hend.learn c
  have hdrop := hlearn.modifyArm Arm.released
  have hstate (z : Arm) : z.released.state ≠ .priming := by
    unfold Arm.released
    dsimp only
    split <;> nofun
  have hends := State.Ends.of_gateAt (hdrop.recount (hstate _) halone)
  have hconfirmed : t.noFlowConfirmed m = ((((t.endClose m c).learn m c).modifyArm m Arm.released).recount).closeIfDone := by
    have hfound : (t.arms[m].served.bind fun n => t.comp? n) = some c := by rw [h.arm, hserved]; exact h.comp
    rw [State.noFlowConfirmed, hfound]
  rw [hconfirmed]
  refine ⟨_, ?_, hends.closeIfDone⟩
  exact ⟨rfl, rfl, rfl, rfl, rfl, rfl⟩

/-- The close that no-flow ends, by its reason (R14, R18, R81): DONE for PRESET and AMEND, HALTED with its cause otherwise, and from
there to DONE with SHORT in a CLOSING load. -/
structure Ended (s t : State) (n : Nat) (M : Vector Meter 4) (m : Fin 4) (c c' : CompRecord) (v' : Vector Injector 8) : Prop where
  closing : c'.closing = some ⟨M[m].gross, M[m].net⟩
  done : c'.state = .done → t.ResultsAtDone c c' ∧ ∀ u : State, u.injectors = v' → t.InjectorsAtDone n u
  halted : ∀ cause, c.closeReason = some (.halt cause) → c'.haltCause = some cause
    ∧ (s.loadCloses = false → c'.state = .halted ∧ c'.additives = c.additives ∧ v' = t.injectors)
    ∧ (s.loadCloses = true → c'.state = .done ∧ c'.flags.short = true)
  stopped : c.closeReason = some .preset ∨ c.closeReason = some .amend → c'.state = .done

theorem endClose (h : s.GateAt m n M x c v t) : ∃ c' v', s.GateAt m n M x c' v' (t.endClose m c) ∧ Ended s t n M m c c' v' := by
  have hreadings : t.readings m = ⟨M[m].gross, M[m].net⟩ := by rw [State.readings, h.of_apart.1]
  have hn := t.comp?_compartment h.comp
  have hclosed (d : CompRecord) : (d.closedAt (t.readings m)).line.compartment = d.line.compartment := rfl
  have hdone {u : State} (hu : u.injectors = v) (w : State) (hw : w.injectors
      = (u.mapInjectors fun y => if y.boundTo n then y.released else y).injectors) : t.InjectorsAtDone n w :=
    (State.injectorsAtDone_of hw).congr (h.injectors.trans hu.symm)
  unfold State.endClose
  rw [hn]
  split
  · rename_i cause hr
    have hsame {cause'} (hc : c.closeReason = some (.halt cause')) : cause' = cause := by rw [hr] at hc; simpa using hc.symm
    have hstop : ¬ (c.closeReason = some .preset ∨ c.closeReason = some .amend) := by rw [hr]; simp
    cases hl : s.loadCloses with
    | false =>
      refine ⟨_, _, h.compHalted_open hclosed hl, ⟨congrArg some hreadings, fun hd => ?_, fun cause' hc => ?_, fun hc => absurd hc hstop⟩⟩
      · exact nomatch (hd : CompState.halted = .done)
      · rw [hsame hc]
        exact ⟨rfl, fun _ => ⟨rfl, rfl, h.injectors.symm⟩, fun he => nomatch hl.symm.trans he⟩
    | true =>
      obtain ⟨u, hu, hat⟩ := h.compHalted_closing (cause := cause) hclosed hl
      refine ⟨_, _, hat, ⟨congrArg some hreadings, fun _ => ⟨?_, hdone hu⟩, fun cause' hc => ?_, fun hc => absurd hc hstop⟩⟩
      · exact State.ResultsAtDone.congr (State.resultsAtDone_doneAt (c := { c.closedAt (t.readings m) with
          state := .halted, haltCause := some cause }) rfl rfl hn) rfl rfl rfl (h.injectors.trans hu.symm)
      · rw [hsame hc]
        refine ⟨rfl, fun he => ?_, fun _ => ⟨rfl, rfl⟩⟩
        rw [hl] at he; cases he
  all_goals
    rename_i hr
    refine ⟨_, _, h.compDone hclosed, ⟨congrArg some hreadings, fun _ => ⟨State.resultsAtDone_doneAt rfl rfl hn, hdone h.injectors⟩,
      fun cause hc => ?_, fun _ => rfl⟩⟩
    rw [hr] at hc
    simp at hc

/-! ### The no-flow count (R81) -/

theorem armGate_counts (h : s.GateAt m n M x c v t) (hx : x.state = .closing ∨ x.state = .fault) (pulses : Nat) (g : GateFigures) :
    t.armGate m n pulses g = t.noFlowCount m pulses := by
  unfold State.armGate
  simp only [h.comp, h.arm]
  obtain hx | hx := hx <;> rw [hx]

theorem noFlowCount_flow (h : s.GateAt m n M x c v t) (hk : k ≠ 0) : s.GateAt m n M { x with zeroRun := 0 } c v (t.noFlowCount m k) := by
  rw [State.noFlowCount, if_neg hk]
  exact h.modifyArm fun y => { y with zeroRun := 0 }

theorem noFlowCount_counts (h : s.GateAt m n M x c v t) (hx : x.zeroRun < 2) :
    s.GateAt m n M { x with zeroRun := x.zeroRun + 1 } c v (t.noFlowCount m 0) := by
  have hup := h.modifyArm fun y => { y with zeroRun := y.zeroRun + 1 }
  rw [State.noFlowCount, if_pos rfl]
  dsimp only
  rw [if_neg]
  · exact hup
  · rw [hup.arm]
    show ¬ 3 ≤ x.zeroRun + 1
    omega

theorem noFlowCount_confirms (h : s.GateAt m n M x c v t) (hx : 2 ≤ x.zeroRun) (hserved : x.served = some n)
    (halone : ∀ b : Fin 4, b ≠ m → s.arms[b].served ≠ some n) :
    ∃ y c' v', x.DroppedTo c y ∧ Ended s t n M m c c' v' ∧ State.Ends m n M y c' v' (t.noFlowCount m 0) := by
  have hup := h.modifyArm fun y => { y with zeroRun := y.zeroRun + 1 }
  obtain ⟨c', v', hend, hended⟩ := hup.endClose
  obtain ⟨y, hy, hends⟩ := hup.noFlowConfirmed hserved halone hend
  refine ⟨y, c', v', ⟨hy.state, hy.faultCause, hy.served, hy.closeTimer, hy.valve, hy.config⟩,
    ⟨hended.closing, hended.done, hended.halted, hended.stopped⟩, ?_⟩
  rw [State.noFlowCount, if_pos rfl]
  dsimp only
  rw [if_pos]
  · exact hends
  · rw [hup.arm]
    show 3 ≤ x.zeroRun + 1
    omega

end State.GateAt

end Sys2Proof.Machine
end

section
/-! PROOFS. What a gate makes of the arm that serves a compartment, and of the compartment (O53). -/

namespace Sys2Proof.Machine

variable {s t u : State} {m a : Fin 4} {n k : Nat} {M M' : Vector Meter 4} {x x' : Arm} {c c' : CompRecord}
  {v v' : Vector Injector 8} {cause : FaultCause}

/-! ### The stages of an arm -/

namespace State.GateAt

theorem stageArm (h : s.GateAt m n M x c v t) (st : ArmState) (w : Valve) (hold : Bool) (cs : CompState) :
    s.GateAt m n M { x with state := st, valve := w, hold } { c with state := cs } v (t.stageArm m n st w hold cs) :=
  ((h.modifyArm fun x => { x with state := st, valve := w, hold }).modifyComp (f := fun c => { c with state := cs }) fun _ => rfl).compChanged
    n

/-- The valve closes at the anticipation point (R78). -/
theorem presetClose (h : s.GateAt m n M x c v t) (hd : c.state.isDrivable = true) (harm : c.line.arm = m) (g : GateFigures) :
    ∃ c' v', s.GateAt m n M { x.driven with learnable := decide ((x.config.ant : Int) < c.remaining + (c.gateVolume g : Int)) } c' v'
        (t.presetClose m c g)
      ∧ c'.state = .closing ∧ c'.closeReason = some .preset ∧ c'.antUsed = some x.config.ant := by
  have hn := t.comp?_compartment h.comp
  have hdrive := (h.modifyComp (f := fun c => { c with antUsed := some x.config.ant }) fun _ => rfl).driveClose hd .preset
  rw [if_pos harm] at hdrive
  rw [State.presetClose, h.arm, hn]
  exact ⟨_, _, hdrive.modifyArm fun y => { y with learnable := decide ((x.config.ant : Int) < c.remaining + (c.gateVolume g : Int)) },
    rfl, rfl, rfl⟩

theorem armGate_flows (h : s.GateAt m n M x c v t) (hx : x.state.isFlowing = true) (pulses : Nat) (g : GateFigures) :
    t.armGate m n pulses g = t.compare m c g := by
  unfold State.armGate
  simp only [h.comp, h.arm]
  cases hst : x.state <;> simp_all [ArmState.isFlowing]

section Compare

variable (h : s.GateAt m n M x c v t) (g : GateFigures)
include h

theorem compare_closes (hr : c.remaining ≤ (x.config.ant : Int)) : t.compare m c g = t.presetClose m c g := by
  rw [State.compare, h.arm, if_pos hr]

/-- The slowdown volume is reached (R77, R79). -/
theorem compare_slows (hant : (x.config.ant : Int) < c.remaining) (hr : c.remaining ≤ (x.config.slowdown : Int))
    (hx : x.state = .full ∨ x.state = .low ∧ x.config.lowStart ≤ c.gross) :
    s.GateAt m n M { x with state := .slowdown, valve := .low, hold := false } { c with state := .slowdown } v (t.compare m c g) := by
  have hn := t.comp?_compartment h.comp
  have hclose : ¬ c.remaining ≤ (x.config.ant : Int) := by omega
  have hstaged := h.stageArm .slowdown .low false .slowdown
  obtain hx | ⟨hx, hlow⟩ := hx
  · simp only [State.compare, h.arm, if_neg hclose, hx, if_pos hr, hn]
    exact hstaged
  · simp only [State.compare, h.arm, if_neg hclose, hx, if_pos hlow, State.leaveLow, if_pos hr, hn]
    exact hstaged

/-- The low-start volume has passed, and FULL is entered under the hold of a warned deadman (R76). -/
theorem compare_opens (hant : (x.config.ant : Int) < c.remaining) (hr : (x.config.slowdown : Int) < c.remaining)
    (hx : x.state = .low) (hlow : x.config.lowStart ≤ c.gross) :
    s.GateAt m n M { x with
        state := .full, valve := if s.safety.stage = .warning then .low else .full
        hold := decide (s.safety.stage = .warning) } { c with state := .full } v (t.compare m c g) := by
  have hn := t.comp?_compartment h.comp
  have hclose : ¬ c.remaining ≤ (x.config.ant : Int) := by omega
  have hslow : ¬ c.remaining ≤ (x.config.slowdown : Int) := by omega
  simp only [State.compare, h.arm, if_neg hclose, hx, if_pos hlow, State.leaveLow, if_neg hslow, hn, h.safety]
  split
  · rename_i hwarn
    have hstaged := h.stageArm .full .low true .full
    simpa only [hwarn, decide_true] using hstaged
  · rename_i hwarn
    have hstaged := h.stageArm .full .full false .full
    simpa only [hwarn, decide_false] using hstaged

/-- In FULL the main valve opens once the hold is gone (R77). -/
theorem compare_full (hant : (x.config.ant : Int) < c.remaining) (hr : (x.config.slowdown : Int) < c.remaining)
    (hx : x.state = .full) : s.GateAt m n M (if x.hold then x else { x with valve := .full }) c v (t.compare m c g) := by
  have hclose : ¬ c.remaining ≤ (x.config.ant : Int) := by omega
  have hslow : ¬ c.remaining ≤ (x.config.slowdown : Int) := by omega
  simp only [State.compare, h.arm, if_neg hclose, hx, if_neg hslow]
  split
  · exact h
  · have hopen := h.modifyArm fun y => { y with valve := .full }
    simpa only [hx] using hopen

/-- An arm in LOW short of the low-start volume, and one in SLOWDOWN, go on as they were. -/
theorem compare_stays (hant : (x.config.ant : Int) < c.remaining)
    (hx : x.state = .low ∧ c.gross < x.config.lowStart ∨ x.state = .slowdown) : t.compare m c g = t := by
  have hclose : ¬ c.remaining ≤ (x.config.ant : Int) := by omega
  obtain ⟨hx, hlow⟩ | hx := hx
  · have hlow : ¬ x.config.lowStart ≤ c.gross := by omega
    simp only [State.compare, h.arm, if_neg hclose, hx, if_neg hlow]
  · simp only [State.compare, h.arm, if_neg hclose, hx]

end Compare

end State.GateAt

/-! ### From the drive of a cold probe to the end of the gate -/

theorem State.strokesDue_of_not_flowing (h : s.arms[m].state.isFlowing = false) (n : Nat) : s.strokesDue m n = s :=
  if_neg (by rw [h]; exact Bool.false_ne_true)

namespace State.GateAt

variable (h : s.GateAt m n (s.meters.set m s.meters[m].repaid) x c v (s.warmed m))
include h

theorem ends (hserved : x.served = some n) (ha : c.state.isActive = true) (hp : s.phase ≠ .powerDown)
    (hend : State.Ends m n M' x' c' v' (((State.received m c s (s.warmed m)).strokesDue m n).armGate m n s.meters[m].forward
      (s.gateFigures m s.products[c.line.product].alpha).1)) : State.Ends m n M' x' c' v' (s.gate m).startWrite := by
  rw [h.gate_eq rfl hserved ha, State.armWorks, if_neg hp, State.progressed_eq]
  refine (State.Ends.crossing ?_ _).startWrite
  exact hend.of_eq rfl rfl rfl rfl

/-- The arm and its compartment as the arm controller finds them. -/
theorem works : ∃ rs v', s.GateAt m n (s.meters.set m (s.metered m s.products[c.line.product].alpha)) x
    { s.filledComp m c with additives := rs } v' ((State.received m c s (s.warmed m)).strokesDue m n) := by
  have hrec := h.received
  obtain ⟨rs, hat, -⟩ := hrec.doses (State.strokesDue_doses hrec.comp m)
  exact ⟨rs, _, hat⟩

theorem works_still (hx : x.state.isFlowing = false) :
    s.GateAt m n (s.meters.set m (s.metered m s.products[c.line.product].alpha)) x (s.filledComp m c) v
      ((State.received m c s (s.warmed m)).strokesDue m n) := by
  have hrec := h.received
  rw [State.strokesDue_of_not_flowing (by rw [hrec.arm]; exact hx)]
  exact hrec

/-- A gate whose arm has left the flowing states counts towards no-flow (R81). -/
theorem ends_counted (hserved : x.served = some n) (ha : c.state.isActive = true) (hp : s.phase ≠ .powerDown)
    (hx : x.state = .closing ∨ x.state = .fault) (hrun : x.zeroRun = 0) :
    State.Ends m n (s.meters.set m (s.metered m s.products[c.line.product].alpha))
      { x with zeroRun := if s.meters[m].forward = 0 then 1 else 0 } (s.filledComp m c) v (s.gate m).startWrite := by
  have hflow : x.state.isFlowing = false := by obtain hx | hx := hx <;> rw [hx] <;> rfl
  have hworks := h.works_still hflow
  refine h.ends hserved ha hp ?_
  rw [hworks.armGate_counts hx]
  by_cases hk : s.meters[m].forward = 0
  · have hcount := hworks.noFlowCount_counts (by rw [hrun]; decide)
    rw [hrun] at hcount
    rw [if_pos hk, hk]
    exact .of_gateAt hcount
  · rw [if_neg hk]
    exact .of_gateAt (hworks.noFlowCount_flow hk)

end State.GateAt

/-! ### The figures of a gate leave the stage of its compartment alone -/

theorem CompRecord.gated_state (g : GateFigures) (reverse : Bool) (k : Nat) (c : CompRecord) : (c.gated g reverse k).state = c.state :=
  rfl

theorem CompRecord.gated_closeReason (g : GateFigures) (reverse : Bool) (k : Nat) (c : CompRecord) :
    (c.gated g reverse k).closeReason = c.closeReason := rfl

theorem CompRecord.gated_line (g : GateFigures) (reverse : Bool) (k : Nat) (c : CompRecord) : (c.gated g reverse k).line = c.line := rfl

theorem State.filledComp_state (m : Fin 4) (c : CompRecord) (s : State) : (s.filledComp m c).state = c.state :=
  CompRecord.gated_state ..

theorem State.filledComp_closeReason (m : Fin 4) (c : CompRecord) (s : State) : (s.filledComp m c).closeReason = c.closeReason :=
  CompRecord.gated_closeReason ..

theorem State.filledComp_line (m : Fin 4) (c : CompRecord) (s : State) : (s.filledComp m c).line = c.line :=
  CompRecord.gated_line ..

theorem Arm.faulted_staging (hst : x.state.isStaging = true) : x.faulted cause = { x.driven with
    state := .fault, faultCause := some cause, faultDuringClose := true } := by
  unfold Arm.faulted Arm.driven
  rw [if_pos hst]
  cases h : x.state <;> simp_all [ArmState.isStaging]

theorem Arm.driven_staging (hst : x.state.isStaging = true) : x.driven = { x with
    state := .closing, valve := .closed, settleTimer := none, hold := false
    closeTimer := some (x.config.closeTimeout * 1000), zeroRun := 0, learnable := false } := if_pos hst

/-- An arm in CLOSING that an alarm puts in FAULT (R84). -/
def Arm.hit (cause : FaultCause) (x : Arm) : Arm :=
  { x with state := .fault, faultCause := some cause, faultDuringClose := true }

theorem Arm.faulted_closing (h : x.state = .closing) (cause : FaultCause) : x.faulted cause = x.hit cause := by
  unfold Arm.faulted
  simp only [h]; rfl

/-- What the alarms of a gate make of arm `x` whose compartment is in CLOSING: struck in CLOSING, and as it was in FAULT. -/
def State.Struck (m : Fin 4) (s : State) (x : Arm) : Prop :=
  s.arms[m].state = .fault ∧ x = s.arms[m] ∨ s.arms[m].state = .closing
    ∧ (¬ s.meters[m].failed ∧ ¬ s.meters[m].limited ∧ x = s.arms[m] ∨ s.meters[m].failed ∧ x = s.arms[m].hit .pulseFault
      ∨ ¬ s.meters[m].failed ∧ s.meters[m].limited ∧ x = s.arms[m].hit .reverseLimit)

theorem State.Struck.kept (h : s.Struck m x) : (x.state = .closing ∨ x.state = .fault) ∧ x.served = s.arms[m].served
    ∧ x.zeroRun = s.arms[m].zeroRun ∧ x.learnable = s.arms[m].learnable ∧ x.valve = s.arms[m].valve ∧ x.config = s.arms[m].config := by
  obtain ⟨hst, rfl⟩ | ⟨hst, ⟨-, -, rfl⟩ | ⟨-, rfl⟩ | ⟨-, -, rfl⟩⟩ := h
  · exact ⟨.inr hst, rfl, rfl, rfl, rfl, rfl⟩
  · exact ⟨.inl hst, rfl, rfl, rfl, rfl, rfl⟩
  all_goals exact ⟨.inr rfl, rfl, rfl, rfl, rfl, rfl⟩

/-! ### The gate of an arm that stages, flows or closes -/

section Serving

variable (hc : s.comp? n = some c) (hserved : s.arms[m].served = some n) (hp : s.phase ≠ .powerDown)
include hc hserved hp

/-- An alarm puts a staging arm in FAULT and closes its compartment (R84). -/
theorem State.gate_faults (halone : ∀ b : Fin 4, b ≠ m → s.arms[b].served ≠ some n) (hst : s.arms[m].state.isStaging = true)
    (hd : c.state.isDrivable = true) (h : s.meters[m].failed ∧ cause = .pulseFault
      ∨ ¬ s.meters[m].failed ∧ s.meters[m].limited ∧ cause = .reverseLimit) :
    ∃ M c' v', State.Ends m n M { s.arms[m].faulted cause with zeroRun := if s.meters[m].forward = 0 then 1 else 0 } c' v'
        (s.gate m).startWrite
      ∧ c'.state = .closing ∧ c'.closeReason = some (.halt cause.haltCause) := by
  have hx : s.arms[m].state ≠ .fault := fun hf => by rw [hf] at hst; exact nomatch hst
  have hrepaid := (State.repaid_faulted hc hp hx hserved halone h).1 hd
  have hkept : (s.arms[m].faulted cause).served = some n := (Arm.faulted_served ..).trans hserved
  have hwarmed := hrepaid
  rw [← hrepaid.tempDrive_none (.inr (.inr rfl)) hkept] at hwarmed
  have hzero : (s.arms[m].faulted cause).zeroRun = 0 := by rw [Arm.faulted_staging hst, Arm.driven_staging hst]
  refine ⟨_, _, _, hwarmed.ends_counted hkept rfl hp (.inr (Arm.faulted_state ..)) hzero, ?_, ?_⟩
  · rw [State.filledComp_state]; rfl
  · rw [State.filledComp_closeReason]; rfl

section Quiet

variable (hquiet : ¬ s.meters[m].failed ∧ ¬ s.meters[m].limited)
include hquiet

/-- A cold probe closes a compartment on net basis (R64). -/
theorem State.gate_cold (hline : c.line.arm = m) (hst : s.arms[m].state.isStaging = true) (hd : c.state.isDrivable = true)
    (hcold : ¬ (c.line.basis = .gross ∨ s.probes[m].invalidRun < 10)) :
    ∃ M c' v', State.Ends m n M { s.arms[m].driven with zeroRun := if s.meters[m].forward = 0 then 1 else 0 } c' v'
        (s.gate m).startWrite
      ∧ c'.state = .closing ∧ c'.closeReason = some (.halt .temp) := by
  obtain ⟨hbasis, hrun⟩ := not_or.1 hcold
  have hnet : c.line.basis = .net := by cases hb : c.line.basis <;> simp_all
  have hwarmed := (State.repaid_unharmed hc (.inr hquiet)).tempDrive hp hserved hd (by omega) hnet
  rw [if_pos hline] at hwarmed
  have hkept : s.arms[m].driven.served = some n := (Arm.driven_served _).trans hserved
  have hclosing : s.arms[m].driven.state = .closing := by rw [Arm.driven_staging hst]
  have hzero : s.arms[m].driven.zeroRun = 0 := by rw [Arm.driven_staging hst]
  refine ⟨_, _, _, State.GateAt.ends_counted hwarmed hkept rfl hp (.inl hclosing) hzero, ?_, ?_⟩
  · rw [State.filledComp_state]; rfl
  · rw [State.filledComp_closeReason]; rfl

variable (hwarm : c.line.basis = .gross ∨ s.probes[m].invalidRun < 10)
include hwarm

omit hp in
theorem State.warmed_unharmed : s.GateAt m n (s.meters.set m s.meters[m].repaid) s.arms[m] c s.injectors (s.warmed m) := by
  have hrepaid := State.repaid_unharmed hc (.inr hquiet)
  have hat := hrepaid
  rw [← hrepaid.tempDrive_none (hwarm.elim (fun h => .inr (.inl h)) .inl) hserved] at hat
  exact hat

/-- An arm in PRIMING waits (R75). -/
theorem State.gate_primes (ha : c.state.isActive = true) (hx : s.arms[m].state = .priming) :
    ∃ M c' v', State.Ends m n M s.arms[m] c' v' (s.gate m).startWrite ∧ c'.state = c.state := by
  have hat := State.warmed_unharmed hc hserved hquiet hwarm
  have hworks := hat.works_still (by rw [hx]; rfl)
  have hend := State.Ends.of_gateAt hworks
  rw [← State.armGate_of_stays hworks.comp (.inl (by rw [hworks.arm]; exact hx)) s.meters[m].forward
    (s.gateFigures m s.products[c.line.product].alpha).1] at hend
  exact ⟨_, _, _, hat.ends hserved ha hp hend, State.filledComp_state ..⟩

/-- A flowing arm compares the new figures of its compartment with the preset (R75). -/
theorem State.gate_compares (ha : c.state.isActive = true) (hx : s.arms[m].state.isFlowing = true) :
    ∃ M rs v' r, s.GateAt m n M s.arms[m] { s.filledComp m c with additives := rs } v' r
      ∧ ∀ M' x' c' v', s.GateAt m n M' x' c' v' (r.compare m { s.filledComp m c with additives := rs }
          (s.gateFigures m s.products[c.line.product].alpha).1) → State.Ends m n M' x' c' v' (s.gate m).startWrite := by
  have hat := State.warmed_unharmed hc hserved hquiet hwarm
  obtain ⟨rs, v', hworks⟩ := hat.works
  refine ⟨_, rs, v', _, hworks, fun M' x' c' v' hend => hat.ends hserved ha hp ?_⟩
  rw [hworks.armGate_flows hx]
  exact .of_gateAt hend

end Quiet

/-! ### The gate of an arm that closes -/

/-- The alarms of a gate leave a compartment in CLOSING to its close (R84). -/
theorem State.warmed_struck (halone : ∀ b : Fin 4, b ≠ m → s.arms[b].served ≠ some n) (hclosing : c.state = .closing) (h : s.Struck m x) :
    s.GateAt m n (s.meters.set m s.meters[m].repaid) x c s.injectors (s.warmed m) := by
  have hd : c.state.isDrivable = false := by rw [hclosing]; rfl
  have hkept : x.served = some n := h.kept.2.1.trans hserved
  suffices hrepaid : s.GateAt m n (s.meters.set m s.meters[m].repaid) x c s.injectors (s.repaid m) by
    have hat := hrepaid
    rw [← hrepaid.tempDrive_none (.inr (.inr hd)) hkept] at hat
    exact hat
  have hx (hst : s.arms[m].state = .closing) : s.arms[m].state ≠ .fault := by rw [hst]; nofun
  obtain ⟨hst, rfl⟩ | ⟨hst, ⟨hf, hl, rfl⟩ | ⟨hf, rfl⟩ | ⟨hf, hl, rfl⟩⟩ := h
  · exact State.repaid_unharmed hc (.inl hst)
  · exact State.repaid_unharmed hc (.inr ⟨hf, hl⟩)
  · rw [← Arm.faulted_closing hst]
    exact (State.repaid_faulted hc hp (hx hst) hserved halone (.inl ⟨hf, rfl⟩)).2 hd
  · rw [← Arm.faulted_closing hst]
    exact (State.repaid_faulted hc hp (hx hst) hserved halone (.inr ⟨hf, hl, rfl⟩)).2 hd

section Closing

variable (halone : ∀ b : Fin 4, b ≠ m → s.arms[b].served ≠ some n) (hclosing : c.state = .closing) (hstruck : s.Struck m x)
include halone hclosing hstruck

theorem State.gate_counts : (s.meters[m].forward ≠ 0 → ∃ M c' v', State.Ends m n M { x with zeroRun := 0 } c' v' (s.gate m).startWrite
        ∧ c'.state = .closing)
      ∧ (s.meters[m].forward = 0 → s.arms[m].zeroRun < 2 →
        ∃ M c' v', State.Ends m n M { x with zeroRun := s.arms[m].zeroRun + 1 } c' v' (s.gate m).startWrite ∧ c'.state = .closing)
      ∧ (s.meters[m].forward = 0 → 2 ≤ s.arms[m].zeroRun → ∃ M y c' v' r, r.injectors = s.injectors
        ∧ x.DroppedTo (s.filledComp m c) y ∧ State.GateAt.Ended s r n M m (s.filledComp m c) c' v'
        ∧ State.Ends m n M y c' v' (s.gate m).startWrite) := by
  have hat := State.warmed_struck hc hserved hp halone hclosing hstruck
  obtain ⟨hstate, hkept, hzero, -⟩ := hstruck.kept
  have hserving : x.served = some n := hkept.trans hserved
  have hworks := hat.works_still (by obtain h | h := hstate <;> rw [h] <;> rfl)
  have hactive : c.state.isActive = true := by rw [hclosing]; rfl
  have hcount := hworks.armGate_counts hstate s.meters[m].forward (s.gateFigures m s.products[c.line.product].alpha).1
  have hends {M' : Vector Meter 4} {x' : Arm} {c' : CompRecord} {v' : Vector Injector 8} (hend : State.Ends m n M' x' c' v'
      (((State.received m c s (s.warmed m)).strokesDue m n).noFlowCount m s.meters[m].forward)) :
      State.Ends m n M' x' c' v' (s.gate m).startWrite := by
    refine hat.ends hserving hactive hp ?_
    rw [hcount]; exact hend
  have hstays : (s.filledComp m c).state = .closing := (State.filledComp_state ..).trans hclosing
  refine ⟨fun hk => ⟨_, _, _, hends (.of_gateAt (hworks.noFlowCount_flow hk)), hstays⟩, fun hk hz => ?_, fun hk hz => ?_⟩
  · rw [hk] at hends
    rw [← hzero] at hz ⊢
    exact ⟨_, _, _, hends (.of_gateAt (hworks.noFlowCount_counts hz)), hstays⟩
  · rw [hk] at hends
    rw [← hzero] at hz
    obtain ⟨y, c', v', hy, hended, hend⟩ := hworks.noFlowCount_confirms hz hserving halone
    exact ⟨_, y, c', v', _, hworks.injectors, hy, hended, hends hend⟩

end Closing

end Serving

end Sys2Proof.Machine
end

section
/-! PROOFS. A gate stages, closes, confirms and faults its arm (O53). -/

namespace Sys2Proof.Machine

variable {s : State} {m : Fin 4} {x : Arm} {c : CompRecord}

/-! ### The rest of the preset, and the anticipation learned from it -/

theorem CompRecord.remaining_eq (c : CompRecord) : c.remaining = (c.line.preset * 1000 : Nat)
    - (match c.line.basis with | .gross => (c.gross : Int) | .net => (c.net : Int)) := by
  unfold CompRecord.remaining CompRecord.delivered
  cases c.line.basis <;> rfl

theorem CompRecord.remaining_additives (c : CompRecord) (rs : List ComponentResult) :
    ({ c with additives := rs } : CompRecord).remaining = c.remaining := rfl

theorem clampInt_eq_min_max {hi y : Int} (h : 0 ≤ hi) : clampInt 0 hi y = min (max 0 y) hi := by
  unfold clampInt
  split
  · omega
  · split <;> omega

theorem Arm.taught_of_preset (h : c.closeReason = some .preset) : x.taught c
    = if x.learnable = true ∧ x.faultDuringClose = false then
        (min (max 0 ((x.config.ant : Int) + (-c.remaining).tdiv 4)) x.config.maxAnt).toNat
      else x.config.ant := by
  rw [Arm.taught, learnedAnt, clampInt_eq_min_max (Int.natCast_nonneg _)]
  exact if_congr (and_iff_right h) rfl rfl

theorem Arm.taught_of_not_preset (h : c.closeReason ≠ some .preset) : x.taught c = x.config.ant := if_neg fun hx => h hx.1

/-- Settles O53: the alarms and a cold probe are judged first, and the arm then acts on the figures of its compartment. -/
theorem gateMovesItsArm : Obligations.GateMovesItsArm := by
  intro m s hrun hg x arm debt figures failed limit pulseFault reverseLimit counted
  have hp : s.phase ≠ .powerDown := by rw [hrun]; nofun
  have hexec := exec_gateExpiry (.inl hrun) hg
  have hfigures : figures 0 = s.gateFigures m 0 := rfl
  refine ⟨⟨_, hexec, fun p => ⟨fun hf hx hlen => State.pulseFault_told hf hx hlen, fun hl hf hlen => ?_, fun hl hf hc hlen => ?_⟩⟩,
    fun hn hidle halarm => ?_, fun hn hidle hf hl => ?_, ?_⟩
  · refine State.reverseLimit_told hl ?_
    rw [State.errorsJudged_of_not_failed hf.symm]
    exact hlen
  · have hposts := State.postsUpTo_errorsJudged hc m p
    exact State.reverseLimit_told hl (by omega)
  · have hx : arm.state ≠ .fault := by rw [hidle]; nofun
    have hhit (cause : FaultCause) : (arm.faulted cause).strayed (s.gateFigures m 0).1.gross = { arm with
        state := .fault, faultCause := some cause, stray := min (2 ^ 32 - 1) (arm.stray + (figures 0).1.gross) } := by
      unfold Arm.faulted
      rw [hidle]
      rfl
    have hfaulted {cause : FaultCause} (h : failed ∧ cause = .pulseFault ∨ ¬ failed ∧ limit ∧ cause = .reverseLimit) :=
      State.gate_unserved hn hp hx h
    refine ⟨_, hexec, fun hf => ?_, fun hf => ?_, fun hc => ⟨fun hf hl => ?_, fun hf hl => ?_, fun hf hl => ?_⟩⟩
    · exact (hfaulted (.inl ⟨hf, rfl⟩)).1.trans (hhit _)
    · exact (hfaulted (.inr ⟨hf, halarm.resolve_left hf, rfl⟩)).1.trans (hhit _)
    · refine ((hfaulted (.inl ⟨hf, rfl⟩)).2 hc).trans ?_
      rw [State.gateAlarms_of_failed hf hx]
      exact if_neg hl
    · refine ((hfaulted (.inr ⟨hf, hl, rfl⟩)).2 hc).trans ?_
      rw [State.gateAlarms_of_not_failed hf]
      exact if_pos hl
    · refine ((hfaulted (.inl ⟨hf, rfl⟩)).2 hc).trans ?_
      rw [State.gateAlarms_of_failed hf hx]
      exact if_pos hl
  · intro stray
    have hstray : stray = satAdd (2 ^ 32 - 1) s.arms[m].stray (s.gateFigures m 0).1.gross := rfl
    have hstrayed : ({ arm with stray } : Arm) = arm.strayed (s.gateFigures m 0).1.gross := rfl
    refine ⟨_, hexec, fun hlimit => ?_, fun hlimit => ?_⟩
    · rw [State.gate_unrouted_quiet (fun b _ => by rw [hn]; exact em _) (State.routed_of_unserved hn) (.inr (.inr ⟨hf, hl⟩))
        (.inr (.inr hlimit)), hstrayed, State.crossing_eq]
      refine ⟨rfl, ?_⟩
      refine (State.gateAlarms_of_not_failed hf).trans ?_
      exact if_neg hl
    · obtain ⟨harm, hports⟩ := State.gate_stray hn hp hidle ⟨hf, hl⟩ hlimit
      refine ⟨harm.trans ?_, hports⟩
      rw [← hstrayed]
      unfold Arm.faulted
      dsimp only
      rw [hidle]
  · intro l c hl hfind hserved hline halone ha f gross net volume delivered rest
    have hc : s.comp? c.line.compartment = some c := (State.comp?_of_load s hl).trans hfind
    have hrouted := State.gate_routed hc ha hserved halone
    obtain ⟨c', hcomp, hbase⟩ := hrouted.comp
    obtain ⟨u, hu, huc⟩ := State.comp?_eq_some.1 hcomp
    have same {M : Vector Meter 4} {y : Arm} {d : CompRecord} {v : Vector Injector 8}
        (hend : State.Ends m c.line.compartment M y d v (s.gate m).startWrite) : (s.gate m).startWrite.arms[m] = y ∧ c' = d :=
      ⟨hend.arm, Option.some.inj (hcomp.symm.trans hend.comp)⟩
    have hgross : c'.gross = gross := by
      have h := congrArg (fun e : CompRecord => e.gross) hbase
      exact h
    have hnet : c'.net = net := by
      have h := congrArg (fun e : CompRecord => e.net) hbase
      exact h
    refine ⟨(s.gate m).startWrite, u, c', hexec, hu, huc, CompRecord.line_of_base hbase |>.trans (State.filledComp_line m c s), hgross,
      hnet, ?_⟩
    have hrest : (s.filledComp m c).remaining = rest := by
      rw [CompRecord.remaining_eq, State.filledComp_line]
      show _ = (c.line.preset * 1000 : Nat) - ((match c.line.basis with | .gross => (gross : Int) | .net => (net : Int)) : Int)
      cases c.line.basis <;> rfl
    have hfilled : (s.filledComp m c).gross = gross := rfl
    intro warm closed faulted hit
    refine ⟨fun hst hd => ?_, fun hst hf hlim hwarm => ?_, fun hst hd hf hlim hwarm => ?_, fun struck hclosing hstruck => ?_⟩
    · have hfaulted (cause : FaultCause) : faulted cause = { arm.faulted cause with
          zeroRun := if s.meters[m].forward = 0 then 1 else 0 } := by
        rw [Arm.faulted_staging hst, Arm.driven_staging hst]
      refine ⟨fun hf => ?_, fun hf hlim => ?_, fun hf hlim hcold => ?_⟩
      · obtain ⟨M, d, v, hend, hstate, hreason⟩ := State.gate_faults hc hserved hp halone hst hd (.inl ⟨hf, rfl⟩)
        obtain ⟨harm, rfl⟩ := same hend
        exact ⟨harm.trans (hfaulted _).symm, hstate, hreason⟩
      · obtain ⟨M, d, v, hend, hstate, hreason⟩ := State.gate_faults hc hserved hp halone hst hd (.inr ⟨hf, hlim, rfl⟩)
        obtain ⟨harm, rfl⟩ := same hend
        exact ⟨harm.trans (hfaulted _).symm, hstate, hreason⟩
      · obtain ⟨M, d, v, hend, hstate, hreason⟩ := State.gate_cold hc hserved hp ⟨hf, hlim⟩ hline hst hd hcold
        obtain ⟨harm, rfl⟩ := same hend
        refine ⟨harm.trans ?_, hstate, hreason⟩
        rw [Arm.driven_staging hst]
    · obtain ⟨M, d, v, hend, hstate⟩ := State.gate_primes hc hserved hp ⟨hf, hlim⟩ hwarm ha hst
      obtain ⟨harm, rfl⟩ := same hend
      exact ⟨harm, hstate⟩
    · obtain ⟨M, rs, v, r, hat, hends⟩ := State.gate_compares hc hserved hp ⟨hf, hlim⟩ hwarm ha hst
      have hstaging : arm.state.isStaging = true := by
        cases h : arm.state <;> rw [h] at hst <;> first | rfl | exact nomatch hst
      have hremaining : ({ s.filledComp m c with additives := rs } : CompRecord).remaining = rest :=
        (CompRecord.remaining_additives ..).trans hrest
      have hfilled : ({ s.filledComp m c with additives := rs } : CompRecord).gross = gross := hfilled
      have hvolume : ({ s.filledComp m c with additives := rs } : CompRecord).gateVolume
          (s.gateFigures m s.products[c.line.product].alpha).1 = volume := by
        rw [CompRecord.gateVolume]
        dsimp only
        rw [State.filledComp_line]
        show _ = match c.line.basis with | .gross => (f.1.gross : Int) | .net => (f.1.net : Int)
        cases c.line.basis <;> rfl
      have hstate : ({ s.filledComp m c with additives := rs } : CompRecord).state = c.state := State.filledComp_state m c s
      have hdline : ({ s.filledComp m c with additives := rs } : CompRecord).line = c.line := State.filledComp_line m c s
      generalize ({ s.filledComp m c with additives := rs } : CompRecord) = d at hat hends hremaining hfilled hvolume hstate hdline
      rw [← hremaining]
      refine ⟨fun hr => ?_, fun hant => ⟨fun hx hlow => ?_, fun hx hlow => ⟨fun hslow => ?_, fun hslow => ?_⟩,
        fun hx => ⟨fun hslow => ?_, fun hslow => ?_⟩, fun hx => ?_⟩⟩
      · obtain ⟨e, w, hclose, he, hreason, hused⟩ := hat.presetClose (by rw [hstate]; exact hd) (by rw [hdline]; exact hline)
          (s.gateFigures m s.products[c.line.product].alpha).1
        rw [← hat.compare_closes _ hr] at hclose
        obtain ⟨harm, rfl⟩ := same (hends _ _ _ _ hclose)
        refine ⟨harm.trans ?_, he, hreason, hused⟩
        rw [Arm.driven_staging hstaging, hvolume]
      · have hstay := hat
        rw [← hat.compare_stays (s.gateFigures m s.products[c.line.product].alpha).1 hant (.inl ⟨hx, by rw [hfilled]; exact hlow⟩)] at hstay
        obtain ⟨harm, rfl⟩ := same (hends _ _ _ _ hstay)
        exact ⟨harm, hstate⟩
      · obtain ⟨harm, rfl⟩ := same (hends _ _ _ _ (hat.compare_slows _ hant hslow (.inr ⟨hx, by rw [hfilled]; exact hlow⟩)))
        exact ⟨harm, rfl⟩
      · obtain ⟨harm, rfl⟩ := same (hends _ _ _ _ (hat.compare_opens _ hant hslow hx (by rw [hfilled]; exact hlow)))
        exact ⟨harm, rfl⟩
      · obtain ⟨harm, rfl⟩ := same (hends _ _ _ _ (hat.compare_slows _ hant hslow (.inl hx)))
        exact ⟨harm, rfl⟩
      · obtain ⟨harm, rfl⟩ := same (hends _ _ _ _ (hat.compare_full _ hant hslow hx))
        exact ⟨harm, hstate⟩
      · have hstay := hat
        rw [← hat.compare_stays (s.gateFigures m s.products[c.line.product].alpha).1 hant (.inr hx)] at hstay
        obtain ⟨harm, rfl⟩ := same (hends _ _ _ _ hstay)
        exact ⟨harm, hstate⟩
    · have hstruck : s.Struck m struck := hstruck
      obtain ⟨-, -, -, hlearn, hvalve, hconfig⟩ := hstruck.kept
      obtain ⟨hflow, hcount, hconfirm⟩ := State.gate_counts hc hserved hp halone hclosing hstruck
      refine ⟨fun hk => ?_, fun hk hz => ?_, fun hk hz => ?_⟩
      · obtain ⟨M, d, v, hend, hstate⟩ := hflow hk
        obtain ⟨harm, rfl⟩ := same hend
        exact ⟨harm, hstate⟩
      · obtain ⟨M, d, v, hend, hstate⟩ := hcount hk hz
        obtain ⟨harm, rfl⟩ := same hend
        exact ⟨harm, hstate⟩
      · obtain ⟨M, y, d, v, r, hheld, hy, hended, hend⟩ := hconfirm hk hz
        obtain ⟨harm, rfl⟩ := same hend
        rw [harm]
        refine ⟨?_, hy.state, hy.faultCause, hy.served, hy.closeTimer, hy.valve.trans hvalve, fun hdone => ?_, fun cause hr => ?_,
          fun hr => ?_, fun hr => ?_⟩
        · rw [hended.closing, hend.meters]
        · obtain ⟨hresults, hinjectors⟩ := hended.done hdone
          exact ⟨hresults.congr (State.filledComp_additives m c s).symm hfilled.symm
            (congrArg OrderLine.compartment (State.filledComp_line m c s)).symm hheld.symm,
            (hinjectors _ hend.injectors).congr hheld.symm⟩
        · have hfill := (State.filledComp_closeReason m c s).trans hr
          obtain ⟨hcause, hopen, hshut⟩ := hended.halted cause hfill
          refine ⟨hcause, ?_, fun hst => ?_, fun hst => ?_⟩
          · rw [hy.config, Arm.taught_of_not_preset (by rw [hfill]; simp), hconfig]
          · obtain ⟨hhalted, hadd, hinj⟩ := hopen (by rw [State.loadCloses, hl]; simpa using hst)
            exact ⟨hhalted, hadd.trans (State.filledComp_additives m c s), hend.injectors.trans (hinj.trans hheld)⟩
          · exact hshut (by rw [State.loadCloses, hl]; simpa using hst)
        · have hfill := (State.filledComp_closeReason m c s).trans hr
          refine ⟨hended.stopped (.inr hfill), ?_⟩
          rw [hy.config, Arm.taught_of_not_preset (by rw [hfill]; simp), hconfig]
        · have hfill := (State.filledComp_closeReason m c s).trans hr
          refine ⟨hended.stopped (.inl hfill), ?_⟩
          rw [hy.config, Arm.taught_of_preset hfill, hrest, hlearn, hconfig]
end Sys2Proof.Machine
end

section
/-! PROOFS. What the flow invariant reads of a state: the arms' states, the compartments' states, the load state and its causes,
and the way to the commit. Most operations leave this view; those that move it are few, and are judged on the view alone. -/

namespace Sys2Proof.Machine

/-! ### The view -/

/-- A compartment as the flow invariant reads it. -/
structure CompView where
  number : Nat
  arm : Fin 4
  state : CompState

/-- A load record as the flow invariant reads it: `closed` is whether it has its close time, `composing` whether its slot is
COMPOSING. -/
structure LoadView where
  state : LoadState
  causes : CauseSet
  closed : Bool
  composing : Bool
  comps : List CompView

/-- A state as the flow invariant reads it: `commits` counts the commit records in the queue, `owed` is whether one waits outside
it, `starting` whether the part is in start-up. -/
structure FlowView where
  state : Fin 4 → ArmState
  served : Fin 4 → Option Nat
  load : Option LoadView
  latch : Bool
  context : Bool
  starting : Bool
  commits : Nat
  owed : Bool

def CompRecord.view (c : CompRecord) : CompView := ⟨c.line.compartment, c.line.arm, c.state⟩

def LoadRecord.view (slots : Vector Slot 8) (l : LoadRecord) : LoadView :=
  { state := l.state, causes := l.causes, closed := l.closeTime.isSome, composing := slots[l.slot].state == .composing
    comps := l.comps.map CompRecord.view }

def State.view (s : State) : FlowView :=
  { state := fun a => s.arms[a].state, served := fun a => s.arms[a].served, load := s.load.map (LoadRecord.view s.slots)
    latch := s.safety.esdLatch, context := s.context.isSome, starting := s.phase == .startUp
    commits := s.queue.countP Record.isCommit
    owed := s.chargeOwed.any Record.isCommit || s.backlog.any Record.isCommit }

namespace LoadView

variable {l : LoadView} {n m : Nat} {st : CompState}

def comp? (n : Nat) (l : LoadView) : Option CompView := l.comps.find? fun c => c.number == n

def anyActive (l : LoadView) : Bool := l.comps.any fun c => c.state.isActive

def finishing (l : LoadView) : Bool := l.state != .closing && l.comps.all fun c => c.state == .done

/-- The load state of R12. -/
def evaluated (l : LoadView) : LoadState :=
  if l.state = .closing then .closing
  else if !l.causes.isEmpty then .suspended
  else if l.anyActive then .active
  else .opened

def HandedOff (l : LoadView) : Prop := l.state = .closing ∧ l.closed = true ∧ l.anyActive = false

/-- Every compartment of a number takes a state. -/
def setComp (n : Nat) (st : CompState) (l : LoadView) : LoadView :=
  { l with comps := l.comps.map fun c => if c.number = n then { c with state := st } else c }

theorem comp?_setComp (l : LoadView) (n m : Nat) (st : CompState) : (l.setComp n st).comp? m
    = (l.comp? m).map fun c => if m = n then { c with state := st } else c := by
  have keeps : ((fun c : CompView => c.number == m) ∘ fun c => if c.number = n then { c with state := st } else c)
      = fun c => c.number == m := by
    funext c
    by_cases hc : c.number = n <;> simp [hc]
  rw [comp?, setComp, List.find?_map, keeps]
  refine Option.map_congr fun c hc => ?_
  have hm : c.number = m := by simpa using List.find?_some hc
  rw [hm]

theorem evaluated_idem (l : LoadView) : evaluated { l with state := l.evaluated } = l.evaluated := by
  by_cases hc : l.state = .closing
  · simp [evaluated, hc]
  by_cases he : l.causes.isEmpty = true
  · cases ha : l.anyActive <;> simp only [anyActive] at ha <;> simp [evaluated, anyActive, hc, he, ha]
  · simp [evaluated, hc, he]

theorem mem_of_comp? {c : CompView} (h : l.comp? n = some c) : c ∈ l.comps ∧ c.number = n :=
  ⟨List.mem_of_find?_eq_some h, by simpa using List.find?_some h⟩

theorem anyActive_of_comp? {c : CompView} (h : l.comp? n = some c) (hc : c.state.isActive = true) : l.anyActive = true :=
  List.any_eq_true.2 ⟨c, (mem_of_comp? h).1, hc⟩

theorem anyActive_setComp (h : st.isActive = false) (hl : l.anyActive = false) : (l.setComp n st).anyActive = false := by
  simp only [anyActive, setComp, List.any_eq_false, List.mem_map] at hl ⊢
  rintro _ ⟨c, hc, rfl⟩
  split
  · simp [h]
  · exact hl c hc

theorem not_finishing_of_comp? {c : CompView} (h : l.comp? n = some c) (hc : c.state ≠ .done) : l.finishing = false := by
  by_contra hf
  simp only [Bool.not_eq_false, finishing, Bool.and_eq_true, List.all_eq_true, beq_iff_eq] at hf
  exact hc (hf.2 c (mem_of_comp? h).1)

end LoadView

namespace FlowView

def comp? (n : Nat) (v : FlowView) : Option CompView := v.load.bind (LoadView.comp? n)

/-- An arm takes a state and serves a compartment or none. -/
def setArm (a : Fin 4) (st : ArmState) (sv : Option Nat) (v : FlowView) : FlowView :=
  { v with
    state := fun b => if b = a then st else v.state b
    served := fun b => if b = a then sv else v.served b }

def setComp (n : Nat) (st : CompState) (v : FlowView) : FlowView := { v with load := v.load.map (LoadView.setComp n st) }

/-- The load state is evaluated afresh (R12). -/
def eval (v : FlowView) : FlowView := { v with load := v.load.map fun l => { l with state := l.evaluated } }

/-- The load state once a compartment has changed (R12, R17). -/
def evalComps (v : FlowView) : FlowView := if v.load.any LoadView.finishing then v else v.eval

theorem comp?_setComp (n m : Nat) (st : CompState) (v : FlowView) : (v.setComp n st).comp? m
    = (v.comp? m).map fun c => if m = n then { c with state := st } else c := by
  unfold comp? setComp
  cases v.load with
  | none => rfl
  | some l => exact l.comp?_setComp n m st

end FlowView

/-! ### The view and the state -/

section Ties

variable {s t : State} {n : Nat}

@[simp] theorem State.view_state (s : State) (a : Fin 4) : s.view.state a = s.arms[a].state := rfl
@[simp] theorem State.view_served (s : State) (a : Fin 4) : s.view.served a = s.arms[a].served := rfl
@[simp] theorem State.view_load (s : State) : s.view.load = s.load.map (LoadRecord.view s.slots) := rfl

theorem LoadRecord.view_comp? (slots : Vector Slot 8) (l : LoadRecord) (n : Nat) :
    (l.view slots).comp? n = (l.comp? n).map CompRecord.view := by
  simp only [LoadView.comp?, LoadRecord.view, LoadRecord.comp?, List.find?_map]
  rfl

theorem State.view_comp? (s : State) (n : Nat) : s.view.comp? n = (s.comp? n).map CompRecord.view := by
  unfold FlowView.comp? State.comp?
  rw [State.view_load]
  cases s.load with
  | none => rfl
  | some l => exact l.view_comp? s.slots n

theorem LoadRecord.view_anyActive (slots : Vector Slot 8) (l : LoadRecord) :
    (l.view slots).anyActive = l.comps.any fun c => c.state.isActive := by
  simp only [LoadView.anyActive, LoadRecord.view, List.any_map]; rfl

theorem LoadRecord.view_evaluated (slots : Vector Slot 8) (l : LoadRecord) : (l.view slots).evaluated = l.evaluated := by
  unfold LoadView.evaluated LoadRecord.evaluated
  rw [l.view_anyActive]; rfl

theorem LoadRecord.view_finishing (slots : Vector Slot 8) (l : LoadRecord) : (l.view slots).finishing = l.finishing := by
  simp only [LoadView.finishing, LoadRecord.finishing, LoadRecord.view, List.all_map]; rfl

theorem LoadRecord.tabled_iff (slots : Vector Slot 8) (l : LoadRecord) :
    l.Tabled ↔ (l.view slots).evaluated = (l.view slots).state := by
  rw [l.view_evaluated]
  simp only [LoadRecord.Tabled, LoadRecord.evaluated, LoadRecord.view, ← List.any_eq_true]
  cases l.state <;> cases l.causes.isEmpty <;> cases l.comps.any fun c => c.state.isActive <;> simp

theorem LoadRecord.handedOff_iff (slots : Vector Slot 8) (l : LoadRecord) : l.HandedOff ↔ (l.view slots).HandedOff := by
  simp only [LoadRecord.HandedOff, LoadView.HandedOff, l.view_anyActive, List.any_eq_false, Bool.not_eq_true]; rfl

/-! ### What leaves the view -/

/-- The fields that the view reads. -/
theorem State.view_congr (ha : ∀ a : Fin 4, t.arms[a].state = s.arms[a].state ∧ t.arms[a].served = s.arms[a].served)
    (hl : t.view.load = s.view.load) (he : t.safety.esdLatch = s.safety.esdLatch)
    (hc : t.context.isSome = s.context.isSome) (hp : t.phase = s.phase)
    (hq : t.queue.countP Record.isCommit = s.queue.countP Record.isCommit) (ho : t.chargeOwed = s.chargeOwed)
    (hb : t.backlog.any Record.isCommit = s.backlog.any Record.isCommit) : t.view = s.view := by
  simp only [State.view_load] at hl
  simp only [State.view, hl, he, hc, hp, hq, ho, hb, fun a => (ha a).1, fun a => (ha a).2]

@[simp] theorem State.post_view (c : EventCode) (k : ObjectKind) (i : Nat) (x : BitVec 32) (s : State) :
    (s.post c k i x).view = s.view := rfl

@[simp] theorem State.modifyPort_view (p : Port) (f : PortState → PortState) (s : State) :
    (s.modifyPort p f).view = s.view := rfl

@[simp] theorem State.startWrite_view (s : State) : s.startWrite.view = s.view := rfl
@[simp] theorem State.modifyPump_view (p : Fin 4) (f : Pump → Pump) (s : State) : (s.modifyPump p f).view = s.view := rfl
@[simp] theorem State.mapPumps_view (f : Pump → Pump) (s : State) : (s.mapPumps f).view = s.view := rfl
@[simp] theorem State.modifyProbe_view (p : Fin 4) (f : Probe → Probe) (s : State) : (s.modifyProbe p f).view = s.view := rfl
@[simp] theorem State.modifyMeter_view (m : Fin 4) (f : Meter → Meter) (s : State) : (s.modifyMeter m f).view = s.view := rfl
@[simp] theorem State.mapMeters_view (f : Meter → Meter) (s : State) : (s.mapMeters f).view = s.view := rfl

@[simp] theorem State.modifyInjector_view (j : Fin 8) (f : Injector → Injector) (s : State) :
    (s.modifyInjector j f).view = s.view := rfl

@[simp] theorem State.mapInjectors_view (f : Injector → Injector) (s : State) : (s.mapInjectors f).view = s.view := rfl

theorem State.enqueue_view {r : Record} (h : r.isCommit = false) (s : State) : (s.enqueue r).view = s.view :=
  State.view_congr (fun _ => ⟨rfl, rfl⟩) rfl rfl rfl rfl (by simp [State.enqueue, h]) rfl rfl

/-- A refresh of waiting records that makes no commit record of another and none of one. -/
theorem State.mapWaiting_view {f : List Record → List Record} (h : (f s.waiting).countP Record.isCommit
    = s.waiting.countP Record.isCommit) : (s.mapWaiting f).view = s.view := by
  unfold State.mapWaiting State.waiting at *
  cases hw : s.writing <;> simp only [hw, if_true, if_false, Bool.false_eq_true] at h ⊢
  · exact State.view_congr (fun _ => ⟨rfl, rfl⟩) rfl rfl rfl rfl h rfl rfl
  · refine State.view_congr (fun _ => ⟨rfl, rfl⟩) rfl rfl rfl rfl ?_ rfl rfl
    have hsplit : s.queue = s.queue.take 1 ++ s.queue.tail := by rw [← List.drop_one, List.take_append_drop]
    conv_rhs => rw [hsplit]
    simp only [List.countP_append, h]

theorem Record.countP_isCommit_map {f : Record → Record} (h : ∀ r, (f r).isCommit = r.isCommit) (rs : List Record) :
    (rs.map f).countP Record.isCommit = rs.countP Record.isCommit := by
  rw [List.countP_map]; congr 1; exact funext h

@[simp] theorem Record.refreshImage_isCommit (l : LoadRecord) (r : Record) : (r.refreshImage l).isCommit = r.isCommit := by
  cases r <;> rfl

@[simp] theorem Record.refreshCheckpoint_isCommit (x : Totals) (r : Record) :
    (r.refreshCheckpoint x).isCommit = r.isCommit := by
  cases r <;> rfl

@[simp] theorem State.queueImage_view (l : LoadRecord) (s : State) : (s.queueImage l).view = s.view := by
  unfold State.queueImage; split
  · exact State.enqueue_view (r := .image l) rfl s
  · rfl

@[simp] theorem State.refreshImages_view (l : LoadRecord) (s : State) : (s.refreshImages l).view = s.view := by
  have hw : (s.mapWaiting (List.map (Record.refreshImage l))).view = s.view :=
    State.mapWaiting_view (Record.countP_isCommit_map (Record.refreshImage_isCommit l) _)
  refine (State.view_congr (s := s.mapWaiting (List.map (Record.refreshImage l))) (t := s.refreshImages l)
    (fun _ => ⟨rfl, rfl⟩) rfl rfl rfl rfl rfl rfl ?_).trans hw
  have hb : (s.mapWaiting (List.map (Record.refreshImage l))).backlog = s.backlog := by
    unfold State.mapWaiting; split <;> rfl
  simp only [State.refreshImages, hb, List.any_map]
  congr 1; exact funext (Record.refreshImage_isCommit l)

@[simp] theorem State.imagePoint_view (s : State) : s.imagePoint.view = s.view := by
  unfold State.imagePoint; (repeat' split) <;> simp

@[simp] theorem State.imageHandOff_view (s : State) : s.imageHandOff.view = s.view := by
  unfold State.imageHandOff; (repeat' split) <;> simp

@[simp] theorem State.callCheckpoint_view (s : State) : s.callCheckpoint.view = s.view := by
  unfold State.callCheckpoint; (repeat' split)
  · rfl
  · exact State.mapWaiting_view (Record.countP_isCommit_map (Record.refreshCheckpoint_isCommit _) _)
  · rfl
  · exact State.enqueue_view (r := .checkpoint s.totals) rfl s
  · rfl

@[simp] theorem State.postCause_view (e : EventCode) (c : Cause) (s : State) : (s.postCause e c).view = s.view := by
  unfold State.postCause; split <;> rfl

theorem refreshLearned_countP (a : Fin 4) (c : ArmConfig) (rs w : List Record) (h : refreshLearned a c rs = some w) :
    w.countP Record.isCommit = rs.countP Record.isCommit := by
  induction rs generalizing w with
  | nil => simp [refreshLearned] at h
  | cons r rs ih =>
    have tail : (refreshLearned a c rs).map (r :: ·) = some w → w.countP Record.isCommit = (r :: rs).countP Record.isCommit := by
      intro hr
      obtain ⟨v, hv, rfl⟩ := Option.map_eq_some_iff.1 hr
      simp only [List.countP_cons, ih v hv]
    unfold refreshLearned at h
    split at h
    · contradiction
    · cases ‹_ :: _ = _›
      split at h
      · cases h; rfl
      · exact tail h
    · cases ‹_ :: _ = _›; exact tail h

/-- An update of an arm that leaves its state and what it serves. -/
theorem State.modifyArm_view_of {a : Fin 4} {f : Arm → Arm}
    (h : (f s.arms[a]).state = s.arms[a].state ∧ (f s.arms[a]).served = s.arms[a].served) : (s.modifyArm a f).view = s.view := by
  refine State.view_congr (fun b => ?_) rfl rfl rfl rfl rfl rfl rfl
  rw [State.modifyArm_get]; split
  · subst b; exact h
  · exact ⟨rfl, rfl⟩

@[simp] theorem State.queueLearned_view (a : Fin 4) (s : State) : (s.queueLearned a).view = s.view := by
  unfold State.queueLearned; (repeat' split)
  · rfl
  · exact State.mapWaiting_view (refreshLearned_countP _ _ _ _ ‹_›)
  · exact (State.modifyArm_view_of ⟨rfl, rfl⟩).trans (State.enqueue_view rfl s)
  · exact State.modifyArm_view_of ⟨rfl, rfl⟩

@[simp] theorem State.learn_view (a : Fin 4) (c : CompRecord) (s : State) : (s.learn a c).view = s.view := by
  unfold State.learn; split
  · rw [State.queueLearned_view]; exact State.modifyArm_view_of ⟨rfl, rfl⟩
  · rfl

/-- An update of a slot that leaves whether it is COMPOSING. -/
theorem State.modifySlot_view {i : Fin 8} {f : Slot → Slot}
    (h : ((f s.slots[i]).state = .composing) = (s.slots[i].state = .composing)) : (s.modifySlot i f).view = s.view := by
  refine State.view_congr (fun _ => ⟨rfl, rfl⟩) ?_ rfl rfl rfl rfl rfl rfl
  simp only [State.view_load, State.modifySlot]
  congr 1; funext l
  simp only [LoadRecord.view, LoadView.mk.injEq, true_and, and_true]
  have hget : (s.slots.set i (f s.slots[i]))[l.slot] = if l.slot = i then f s.slots[i] else s.slots[l.slot] := by
    rw [Fin.getElem_fin, Fin.getElem_fin, Vector.getElem_set]
    simp [Fin.ext_iff, eq_comm]
  rw [hget]; split
  · rename_i hi
    subst hi
    rw [Bool.eq_iff_iff, beq_iff_eq, beq_iff_eq, h]
  · rfl

/-! ### Compartments and injectors -/

/-- A change of compartment records that leaves what the view reads of them. -/
theorem State.modifyComp_view_of {f : CompRecord → CompRecord} (h : ∀ c : CompRecord, (f c).view = c.view) (n : Nat)
    (s : State) : (s.modifyComp n f).view = s.view := by
  refine State.view_congr (fun _ => ⟨rfl, rfl⟩) ?_ rfl rfl rfl rfl rfl rfl
  simp only [State.view_load, State.modifyComp, State.modifyLoad, Option.map_map]
  congr 1; funext l
  have hcomps : (l.modifyComp n f).comps.map CompRecord.view = l.comps.map CompRecord.view := by
    simp only [LoadRecord.modifyComp, List.map_map]
    refine List.map_congr_left fun c _ => ?_
    simp only [Function.comp_apply]; split
    · exact h c
    · rfl
  simp only [Function.comp_apply, LoadRecord.view, hcomps]; rfl

/-- A change of compartment records that gives them a state. -/
theorem State.modifyComp_view {f : CompRecord → CompRecord} {st : CompState}
    (h : ∀ c : CompRecord, (f c).view = ⟨c.line.compartment, c.line.arm, st⟩) (n : Nat) (s : State) :
    (s.modifyComp n f).view = s.view.setComp n st := by
  have hload : (s.modifyComp n f).view.load = s.view.load.map (LoadView.setComp n st) := by
    simp only [State.view_load, State.modifyComp, State.modifyLoad, Option.map_map]
    congr 1; funext l
    have hcomps : (l.modifyComp n f).comps.map CompRecord.view = ((l.view s.slots).setComp n st).comps := by
      simp only [LoadRecord.modifyComp, LoadView.setComp, LoadRecord.view, List.map_map]
      refine List.map_congr_left fun c _ => ?_
      by_cases hn : c.line.compartment = n
      · simp only [Function.comp_apply, hn, if_true, h]; simp [CompRecord.view, hn]
      · simp [CompRecord.view, hn]
    simp only [Function.comp_apply, LoadRecord.view, hcomps]; rfl
  simp only [FlowView.setComp, ← hload]; rfl

@[simp] theorem State.modifyResult_view (b : Binding) (f : ComponentResult → ComponentResult) (s : State) :
    (s.modifyResult b f).view = s.view :=
  State.modifyComp_view_of (f := CompRecord.modifyResult b.position f) (fun _ => rfl) _ s

@[simp] theorem State.modifyBound_view (j : Fin 8) (f : ComponentResult → ComponentResult) (s : State) :
    (s.modifyBound j f).view = s.view := by
  unfold State.modifyBound; split <;> simp

@[simp] theorem State.discardOwed_view (j : Fin 8) (s : State) : (s.discardOwed j).view = s.view := by
  simp [State.discardOwed]

@[simp] theorem State.cutStroke_view (j : Fin 8) (s : State) : (s.cutStroke j).view = s.view := by
  unfold State.cutStroke; split <;> simp

@[simp] theorem State.cutStrokes_view (s : State) : s.cutStrokes.view = s.view :=
  foldl_keeps State.view _ (fun s j => s.cutStroke_view j) _ _

@[simp] theorem State.flowStops_view (n : Nat) (s : State) : (s.flowStops n).view = s.view :=
  foldl_keeps State.view _ (fun s j => by split <;> simp) _ _

@[simp] theorem State.releaseInjector_view (j : Fin 8) (s : State) : (s.releaseInjector j).view = s.view := by
  simp [State.releaseInjector]

@[simp] theorem State.releaseInjectors_view (n : Nat) (s : State) : (s.releaseInjectors n).view = s.view :=
  foldl_keeps State.view _ (fun s j => by split <;> simp) _ _

@[simp] theorem State.bindFrom_view (n : Nat) (a : Fin 4) (r p : Nat) (cs : List Component) (s : State) :
    (State.bindFrom n a r p cs s).view = s.view := by
  induction cs generalizing s p with
  | nil => rfl
  | cons c cs ih =>
    refine (ih _ _).trans ?_
    split
    · exact State.modifyComp_view_of (fun _ => by rfl) n s
    · exact (State.modifyInjector_view _ _ _).trans (State.modifyComp_view_of (fun _ => by rfl) n s)

@[simp] theorem State.strokeEnded_view (j : Fin 8) (s : State) : (s.strokeEnded j).view = s.view := by
  unfold State.strokeEnded; split <;> rfl

@[simp] theorem State.duePoint_view (j : Fin 8) (s : State) : (s.duePoint j).view = s.view := by
  unfold State.duePoint; (repeat' split) <;> simp

@[simp] theorem State.duePoints_view (j : Fin 8) (d : Nat) (s : State) : (State.duePoints j d s).view = s.view := by
  induction d generalizing s with
  | zero => rfl
  | succ d ih => exact (ih _).trans (s.duePoint_view j)

@[simp] theorem State.dueResult_view (n g : Nat) (r : ComponentResult) (s : State) : (s.dueResult n g r).view = s.view := by
  unfold State.dueResult; dsimp only; (repeat' split) <;> simp

@[simp] theorem State.strokesDue_view (a : Fin 4) (n : Nat) (s : State) : (s.strokesDue a n).view = s.view := by
  unfold State.strokesDue; (repeat' split)
  · rfl
  · exact foldl_keeps State.view _ (fun s r => s.dueResult_view n _ r) _ _
  · rfl

@[simp] theorem State.confirmStroke_view (j : Fin 8) (s : State) : (s.confirmStroke j).view = s.view := by
  simp [State.confirmStroke]

@[simp] theorem State.injectorFeedback_view (j : Fin 8) (on : Bool) (s : State) : (s.injectorFeedback j on).view = s.view := by
  unfold State.injectorFeedback; dsimp only; split <;> simp

@[simp] theorem State.demandFalls_view (p : Fin 4) (s : State) : (s.demandFalls p).view = s.view := by
  unfold State.demandFalls; split <;> rfl

/-! ### What moves the view -/

theorem State.modifyArm_view {a : Fin 4} {f : Arm → Arm} (s : State) :
    (s.modifyArm a f).view = s.view.setArm a (f s.arms[a]).state (f s.arms[a]).served := by
  have hst : (s.modifyArm a f).view.state = fun b => if b = a then (f s.arms[a]).state else s.arms[b].state := by
    funext b
    rw [State.view_state, State.modifyArm_get]; split <;> rfl
  have hsv : (s.modifyArm a f).view.served = fun b => if b = a then (f s.arms[a]).served else s.arms[b].served := by
    funext b
    rw [State.view_served, State.modifyArm_get]; split <;> rfl
  unfold FlowView.setArm
  simp only [State.view_state, State.view_served, ← hst, ← hsv]
  rfl

@[simp] theorem State.evalLoad_view (s : State) : s.evalLoad.view = s.view.eval := by
  have hev (l : LoadRecord) : LoadView.evaluated (l.view s.slots) = l.evaluated := l.view_evaluated s.slots
  unfold State.evalLoad
  split
  · rename_i hl; simp [FlowView.eval, State.view, hl]
  · rename_i l hl
    split
    · rename_i he
      have : ({ l.view s.slots with state := (l.view s.slots).evaluated } : LoadView) = l.view s.slots := by
        rw [hev, he]; rfl
      simp only [FlowView.eval, State.view_load, hl, Option.map_some, this]
      rw [State.view, hl]; rfl
    · rw [State.post_view]
      simp only [FlowView.eval, State.view_load, hl, Option.map_some, hev]
      rfl

@[simp] theorem State.evalComps_view (s : State) : s.evalComps.view = s.view.evalComps := by
  have hany : s.view.load.any LoadView.finishing = s.load.any LoadRecord.finishing := by
    rw [State.view_load]
    cases s.load with
    | none => rfl
    | some l => exact l.view_finishing s.slots
  unfold State.evalComps FlowView.evalComps
  rw [hany]
  split <;> simp

theorem State.compChanged_view {c : CompView} (h : s.view.comp? n = some c) : (s.compChanged n).view = s.view.evalComps := by
  rw [State.view_comp?, Option.map_eq_some_iff] at h
  obtain ⟨d, hd, _⟩ := h
  simp only [State.compChanged, hd, State.imagePoint_view, State.evalComps_view, State.post_view]

theorem FlowView.comp?_evalComps (v : FlowView) (n : Nat) : v.evalComps.comp? n = v.comp? n := by
  unfold FlowView.evalComps FlowView.comp? FlowView.eval
  split
  · rfl
  · cases v.load <;> rfl

theorem FlowView.comp?_setArm (v : FlowView) (a : Fin 4) (st : ArmState) (sv : Option Nat) (n : Nat) :
    (v.setArm a st sv).comp? n = v.comp? n := rfl

/-- A compartment that reaches DONE (R13). -/
theorem State.compDone_view {f : CompRecord → CompRecord} {c : CompView} (hf : ∀ c : CompRecord, (f c).view = c.view)
    (h : s.view.comp? n = some c) : (s.compDone n f).view = (s.view.setComp n .done).evalComps := by
  have hdone : (((s.modifyComp n fun c => { f c with state := .done }).releaseInjectors n).modifyComp n
      CompRecord.judged).view = s.view.setComp n .done := by
    rw [State.modifyComp_view_of (fun _ => by rfl), State.releaseInjectors_view]
    refine State.modifyComp_view (fun c => ?_) n s
    have hv := hf c
    simp only [CompRecord.view, CompView.mk.injEq] at hv ⊢
    exact ⟨hv.1, hv.2.1, trivial⟩
  have hc : (((s.modifyComp n fun c => { f c with state := .done }).releaseInjectors n).modifyComp n
      CompRecord.judged).view.comp? n = some { c with state := .done } := by
    rw [hdone, FlowView.comp?_setComp, h]; simp
  rw [State.compDone, State.callCheckpoint_view, State.compChanged_view hc, hdone]

/-- A close drive that reaches its compartment (R14, R80). -/
theorem State.driveClose_view {c : CompRecord} (hc : s.comp? n = some c) (hd : c.state.isDrivable = true) (r : CloseReason) :
    (s.driveClose n r).view = ((s.modifyArm c.line.arm Arm.driven).view.setComp n .closing).evalComps := by
  have hdriven : (((s.modifyComp n fun c => { c with state := .closing, closeReason := some r }).modifyArm c.line.arm
      Arm.driven).flowStops n).view = (s.modifyArm c.line.arm Arm.driven).view.setComp n .closing := by
    rw [State.flowStops_view]
    exact State.modifyComp_view (f := fun c => { c with state := .closing, closeReason := some r })
      (fun _ => rfl) n (s.modifyArm c.line.arm Arm.driven)
  have hcomp : (((s.modifyComp n fun c => { c with state := .closing, closeReason := some r }).modifyArm c.line.arm
      Arm.driven).flowStops n).view.comp? n = some { c.view with state := .closing } := by
    rw [hdriven, FlowView.comp?_setComp, State.modifyArm_view, FlowView.comp?_setArm, State.view_comp?, hc]; simp
  simp only [State.driveClose, hc, hd, if_true]
  rw [State.compChanged_view hcomp, hdriven]

/-- What a drive can still reach after a drive, it could reach before, at another compartment (R14). -/
theorem State.driveClose_comp? {m : Nat} {r : CloseReason} {c : CompView} (hm : (s.driveClose n r).view.comp? m = some c)
    (hd : c.state.isDrivable = true) : s.view.comp? m = some c ∧ m ≠ n := by
  cases hn : s.comp? n with
  | none =>
    have hsame : s.driveClose n r = s := by simp only [State.driveClose, hn]
    rw [hsame] at hm
    refine ⟨hm, ?_⟩
    rintro rfl
    rw [State.view_comp?, hn] at hm; cases hm
  | some d =>
    by_cases hdd : d.state.isDrivable = true
    · rw [State.driveClose_view hn hdd, FlowView.comp?_evalComps, FlowView.comp?_setComp, Option.map_eq_some_iff] at hm
      obtain ⟨e, he, rfl⟩ := hm
      by_cases hmn : m = n
      · simp [hmn, CompState.isDrivable] at hd
      · rw [State.modifyArm_view] at he
        rw [if_neg hmn]
        exact ⟨he, hmn⟩
    · have hsame : s.driveClose n r = s := by simp only [State.driveClose, hn, hdd]; rfl
      rw [hsame] at hm
      refine ⟨hm, ?_⟩
      rintro rfl
      rw [State.view_comp?, hn, Option.map_some, Option.some.injEq] at hm
      subst hm; exact hdd hd

/-- After a drive of every compartment, no drive can reach one (R18, R21). -/
theorem State.driveAll_not_drivable (s : State) (r : CloseReason) {m : Nat} {c : CompView}
    (hm : (s.driveAll r).view.comp? m = some c) : c.state.isDrivable = false := by
  have fold (ns : List Nat) (s : State) (hm : (ns.foldl (fun s n => s.driveClose n r) s).view.comp? m = some c)
      (hd : c.state.isDrivable = true) : s.view.comp? m = some c ∧ m ∉ ns := by
    induction ns generalizing s with
    | nil => exact ⟨hm, by simp⟩
    | cons n ns ih =>
      obtain ⟨hs, hns⟩ := ih (s.driveClose n r) hm
      obtain ⟨hs, hmn⟩ := State.driveClose_comp? hs hd
      exact ⟨hs, by simp [hmn, hns]⟩
  by_contra hd
  obtain ⟨hs, hnot⟩ := fold s.compNumbers s hm (by simpa using hd)
  rw [State.view_comp?, Option.map_eq_some_iff] at hs
  obtain ⟨d, hd, _⟩ := hs
  obtain ⟨l, hl, hd⟩ := Option.bind_eq_some_iff.1 hd
  refine hnot ?_
  simp only [State.compNumbers, hl, List.mem_map]
  exact ⟨d, List.mem_of_find?_eq_some hd, by simpa using List.find?_some hd⟩

/-- A cause put into the set of the load or taken out of it. -/
theorem State.putCause_view (b : Bool) (c : Cause) (s : State) :
    (s.modifyLoad fun l => { l with causes := l.causes.put b c }).view
      = { s.view with load := s.view.load.map fun l => { l with causes := l.causes.put b c } } := by
  have hload : (s.modifyLoad fun l => { l with causes := l.causes.put b c }).view.load
      = s.view.load.map fun l => { l with causes := l.causes.put b c } := by
    simp only [State.view_load, State.modifyLoad, Option.map_map]; rfl
  rw [← hload]; rfl

end Ties

end Sys2Proof.Machine
end

section
/-! PROOFS. The flow invariant on the view, with the slack that it has inside a command, and what each move of the view does
to it. -/

namespace Sys2Proof.Machine

/-- What part of the flow invariant is open for a moment inside a command. -/
structure Slack where
  /-- An arm whose compartment has left CLOSING, and which still has to drop it. -/
  exempt : Option (Fin 4) := none
  /-- An arm stages only for an ACTIVE load with no cause; open where LOAD-ABORT has put the load into CLOSING. -/
  staged : Bool := true
  /-- A set latch stands in the causes; open where the latch is about to raise ESD. -/
  latched : Bool := true
  /-- The last compartment may have reached DONE with the load still to enter CLOSING. -/
  finishing : Bool := false
  /-- The command is one that start-up does not take. -/
  begun : Bool := false

/-- The parts of the flow invariant beside the load state's table. -/
structure FlowView.Core (x : Slack) (v : FlowView) : Prop where
  served : ∀ a n, x.exempt ≠ some a → v.served a = some n →
    ∃ c, v.comp? n = some c ∧ c.arm = a ∧ c.state.isActive = true
  idle : ∀ a, x.exempt = some a → (v.state a).isStaging = false
  staging : ∀ a, (v.state a).isStaging = true →
    ∃ n c, v.served a = some n ∧ v.comp? n = some c ∧ c.state.isDrivable = true
  active : x.staged = true → ∀ a, (v.state a).isStaging = true → ∀ l, v.load = some l →
    l.state = .active ∧ l.causes.isEmpty = true
  latched : x.latched = true → v.latch = true → ∀ l, v.load = some l → l.causes.esd = true
  context : v.context = true → v.load = none
  committing : 0 < v.commits → ∃ l, v.load = some l ∧ l.HandedOff
  composing : ∀ l, v.load = some l → l.composing = true → l.HandedOff ∧ v.commits = 0
  oneCommit : v.commits ≤ 1
  noneOwed : v.owed = false
  starting : v.starting = true → v.commits = 0 ∧ ∀ l, v.load = some l → l.composing = false ∧ l.anyActive = false
  begun : x.begun = true → v.starting = false

/-- The load state stands as R12 gives it, but for a load that is about to enter CLOSING. -/
def FlowView.Tables (x : Slack) (v : FlowView) : Prop :=
  ∀ l, v.load = some l → l.evaluated = l.state ∨ x.finishing = true ∧ l.finishing = true

/-- The flow invariant on the view. -/
structure FlowView.Lawful (x : Slack) (v : FlowView) : Prop where
  core : v.Core x
  tables : v.Tables x

section Meaning

variable {s : State}

theorem State.view_commits_pos : 0 < s.view.commits ↔ ∃ r ∈ s.queue, r.isCommit = true := List.countP_pos_iff

theorem State.view_commits_eq_zero : s.view.commits = 0 ↔ ∀ r ∈ s.queue, r.isCommit = false := by
  rw [State.view, List.countP_eq_zero]
  simp only [Bool.not_eq_true]

theorem State.view_owed_eq_false : s.view.owed = false
    ↔ (∀ r, s.chargeOwed = some r → r.isCommit = false) ∧ ∀ r ∈ s.backlog, r.isCommit = false := by
  cases hc : s.chargeOwed <;> simp [State.view, hc]

theorem State.view_starting : s.view.starting = true ↔ s.phase = .startUp := by simp [State.view]

theorem LoadRecord.view_composing {slots : Vector Slot 8} {l : LoadRecord} :
    (l.view slots).composing = true ↔ slots[l.slot].state = .composing := by simp [LoadRecord.view]

theorem State.view_load_of {l : LoadRecord} (h : s.load = some l) : s.view.load = some (l.view s.slots) := by simp [h]

theorem State.exists_of_view_load {v : LoadView} (h : s.view.load = some v) :
    ∃ l, s.load = some l ∧ l.view s.slots = v := by simpa using h

theorem State.exists_of_view_comp? {n : Nat} {v : CompView} (h : s.view.comp? n = some v) :
    ∃ l c, s.load = some l ∧ l.comp? n = some c ∧ c.view = v := by
  rw [s.view_comp?, Option.map_eq_some_iff] at h
  obtain ⟨c, hc, rfl⟩ := h
  obtain ⟨l, hl, hc⟩ := Option.bind_eq_some_iff.1 hc
  exact ⟨l, c, hl, hc, rfl⟩

theorem State.view_comp?_of {n : Nat} {c : CompRecord} (h : s.comp? n = some c) : s.view.comp? n = some c.view := by
  rw [s.view_comp?, h]; rfl

theorem State.FlowLawful.core (h : s.FlowLawful) : s.view.Core {} where
  served a n _ hn := by
    obtain ⟨l, c, hl, hc, harm, hact⟩ := h.served a n hn
    exact ⟨_, State.view_comp?_of ((State.comp?_of_load _ hl).trans hc), harm, hact⟩
  idle _ hx := by simp at hx
  staging a ha := by
    obtain ⟨n, l, c, hn, hl, hc, hd, _⟩ := h.staging a ha
    exact ⟨n, _, hn, State.view_comp?_of ((State.comp?_of_load _ hl).trans hc), hd⟩
  active _ a ha v hv := by
    obtain ⟨n, l, c, _, hl, _, _, hact, hcau⟩ := h.staging a ha
    cases (State.view_load_of hl).symm.trans hv
    exact ⟨hact, hcau⟩
  latched _ hx v hv := by
    obtain ⟨l, hl, rfl⟩ := State.exists_of_view_load hv
    exact h.latched hx l hl
  context hx := by rw [s.view_load, h.context hx]; rfl
  committing hx := by
    obtain ⟨l, hl, ho⟩ := h.committing (State.view_commits_pos.1 hx)
    exact ⟨_, State.view_load_of hl, (l.handedOff_iff s.slots).1 ho⟩
  composing v hv hx := by
    obtain ⟨l, hl, rfl⟩ := State.exists_of_view_load hv
    obtain ⟨ho, hq⟩ := h.composing l hl (LoadRecord.view_composing.1 hx)
    exact ⟨(l.handedOff_iff s.slots).1 ho, State.view_commits_eq_zero.2 hq⟩
  oneCommit := by rw [State.view, List.countP_eq_length_filter]; exact h.oneCommit
  noneOwed := State.view_owed_eq_false.2 h.noneOwed
  starting hx := by
    obtain ⟨hq, hload⟩ := h.starting (State.view_starting.1 hx)
    refine ⟨State.view_commits_eq_zero.2 hq, fun v hv => ?_⟩
    obtain ⟨l, hl, rfl⟩ := State.exists_of_view_load hv
    obtain ⟨hs, hc⟩ := hload l hl
    rw [l.view_anyActive, ← Bool.not_eq_true, LoadRecord.view_composing]
    exact ⟨hs, by simpa using hc⟩
  begun hx := by simp at hx

theorem State.FlowLawful.of_view (hf : s.ValvesFit) (h : s.view.Lawful {}) : s.FlowLawful where
  fits := hf
  tabled l hl := by
    obtain ht | ⟨hx, _⟩ := h.tables _ (State.view_load_of hl)
    · exact (l.tabled_iff s.slots).2 ht
    · simp at hx
  served a n hn := by
    obtain ⟨v, hv, harm, hact⟩ := h.core.served a n (by simp) hn
    obtain ⟨l, c, hl, hc, rfl⟩ := State.exists_of_view_comp? hv
    exact ⟨l, c, hl, hc, harm, hact⟩
  staging a ha := by
    obtain ⟨n, v, hn, hv, hd⟩ := h.core.staging a ha
    obtain ⟨l, c, hl, hc, rfl⟩ := State.exists_of_view_comp? hv
    obtain ⟨hact, hcau⟩ := h.core.active rfl a ha _ (State.view_load_of hl)
    exact ⟨n, l, c, hn, hl, hc, hd, hact, hcau⟩
  latched hx l hl := h.core.latched rfl hx _ (State.view_load_of hl)
  context hx := by simpa using h.core.context hx
  committing hx := by
    obtain ⟨v, hv, ho⟩ := h.core.committing (State.view_commits_pos.2 hx)
    obtain ⟨l, hl, rfl⟩ := State.exists_of_view_load hv
    exact ⟨l, hl, (l.handedOff_iff s.slots).2 ho⟩
  composing l hl hx := by
    obtain ⟨ho, hq⟩ := h.core.composing _ (State.view_load_of hl) (LoadRecord.view_composing.2 hx)
    exact ⟨(l.handedOff_iff s.slots).2 ho, State.view_commits_eq_zero.1 hq⟩
  oneCommit := by rw [← List.countP_eq_length_filter]; exact h.core.oneCommit
  noneOwed := State.view_owed_eq_false.1 h.core.noneOwed
  starting hx := by
    obtain ⟨hq, hload⟩ := h.core.starting (State.view_starting.2 hx)
    refine ⟨State.view_commits_eq_zero.1 hq, fun l hl => ?_⟩
    obtain ⟨hs, hc⟩ := hload _ (State.view_load_of hl)
    rw [l.view_anyActive] at hc
    rw [← Bool.not_eq_true, LoadRecord.view_composing] at hs
    exact ⟨hs, by simpa using hc⟩

/-- The flow invariant is the valves' fit and what the view shows. -/
theorem State.flowLawful_iff : s.FlowLawful ↔ s.ValvesFit ∧ s.view.Lawful {} := by
  refine ⟨fun h => ⟨h.fits, h.core, fun v hv => .inl ?_⟩, fun ⟨hf, h⟩ => .of_view hf h⟩
  obtain ⟨l, hl, rfl⟩ := State.exists_of_view_load hv
  exact (l.tabled_iff s.slots).1 (h.tabled l hl)

end Meaning

namespace FlowView

variable {x : Slack} {v w : FlowView}

/-! ### What the view says of a compartment -/

theorem exists_load {n : Nat} {c : CompView} (h : v.comp? n = some c) : ∃ l, v.load = some l ∧ l.comp? n = some c :=
  Option.bind_eq_some_iff.1 h

/-- A load that has passed its hand-off has no active compartment. -/
theorem Core.not_handedOff {n : Nat} {c : CompView} (hc : v.comp? n = some c) (hact : c.state.isActive = true) {l : LoadView}
    (hl : v.load = some l) : ¬ l.HandedOff := by
  rintro ⟨_, _, ho⟩
  obtain ⟨l', hl', hc⟩ := exists_load hc
  cases hl'.symm.trans hl
  simp [LoadView.anyActive_of_comp? hc hact] at ho

/-- Where a compartment is active, start-up is over. -/
theorem Core.starting_eq_false (h : v.Core x) {n : Nat} {c : CompView} (hc : v.comp? n = some c)
    (hact : c.state.isActive = true) : v.starting = false := by
  by_contra hs
  obtain ⟨l, hl, hc⟩ := exists_load hc
  have := ((h.starting (by simpa using hs)).2 l hl).2
  simp [LoadView.anyActive_of_comp? hc hact] at this

/-- The arm that serves a compartment is that of its line. -/
theorem Core.eq_line_arm (h : v.Core x) {a : Fin 4} {n : Nat} {c : CompView} (hx : x.exempt ≠ some a)
    (ha : v.served a = some n) (hc : v.comp? n = some c) : c.arm = a ∧ c.state.isActive = true := by
  obtain ⟨c', hc', harm, hact⟩ := h.served a n hx ha
  cases hc.symm.trans hc'
  exact ⟨harm, hact⟩

theorem Core.not_exempt (h : v.Core x) {a : Fin 4} (ha : (v.state a).isStaging = true) : x.exempt ≠ some a :=
  fun hx => by simp [h.idle a hx] at ha

/-! ### Moves of the arms -/

/-- Arms may leave the staging states, as far as the invariant goes. -/
theorem Core.relax (h : v.Core x) {f : Fin 4 → ArmState}
    (hf : ∀ a, (f a).isStaging = true → (v.state a).isStaging = true) : Core x { v with state := f } :=
  { h with
    idle := fun a hx => Bool.eq_false_iff.2 fun hs => by simpa [h.idle a hx] using hf a hs
    staging := fun a ha => h.staging a (hf a ha)
    active := fun hx a ha => h.active hx a (hf a ha) }

/-- An arm takes a compartment that a drive can reach, of an ACTIVE load with no cause (R73). -/
theorem Core.take (h : v.Core x) {a : Fin 4} {n : Nat} {c : CompView} {l : LoadView} {st : ArmState}
    (hx : x.exempt ≠ some a) (hc : v.comp? n = some c) (harm : c.arm = a) (hd : c.state.isDrivable = true)
    (hl : v.load = some l) (hact : l.state = .active) (hcau : l.causes.isEmpty = true) : Core x (v.setArm a st (some n)) :=
  have hactive : c.state.isActive = true := CompState.isActive_of_isDrivable hd
  { h with
    served := fun b k hb hk => by
      by_cases hba : b = a
      · subst hba
        obtain rfl : n = k := by simpa [setArm] using hk
        exact ⟨c, hc, harm, hactive⟩
      · exact h.served b k hb (by simpa [setArm, hba] using hk)
    idle := fun b hb => by
      have hba : b ≠ a := fun e => hx (e ▸ hb)
      simpa [setArm, hba] using h.idle b hb
    staging := fun b hb => by
      by_cases hba : b = a
      · exact ⟨n, c, by simp [setArm, hba], hc, hd⟩
      · obtain ⟨k, d, hk, hd⟩ := h.staging b (by simpa [setArm, hba] using hb)
        exact ⟨k, d, by simpa [setArm, hba] using hk, hd⟩
    active := fun hs b hb m hm => by
      cases hl.symm.trans hm
      exact ⟨hact, hcau⟩ }

/-- An arm drops its compartment, and does not stage (R81, R82). -/
theorem Core.drop (h : v.Core x) {a : Fin 4} {st : ArmState} (hx : x.exempt = some a) (hst : st.isStaging = false) :
    Core { x with exempt := none } (v.setArm a st none) :=
  { h with
    served := fun b k _ hk => by
      have hba : b ≠ a := by rintro rfl; simp [setArm] at hk
      exact h.served b k (by rw [hx]; simpa using hba.symm) (by simpa [setArm, hba] using hk)
    idle := fun b hb => by simp at hb
    staging := fun b hb => by
      have hba : b ≠ a := by rintro rfl; simp [setArm, hst] at hb
      obtain ⟨k, d, hk, hd⟩ := h.staging b (by simpa [setArm, hba] using hb)
      exact ⟨k, d, by simpa [setArm, hba] using hk, hd⟩
    active := fun hs b hb => by
      have hba : b ≠ a := by rintro rfl; simp [setArm, hst] at hb
      exact h.active hs b (by simpa [setArm, hba] using hb) }

/-! ### Moves of a compartment -/

/-- A compartment takes a state. Arms that stage for it need one that a drive can reach, arms that serve it an active one; it
becomes active only in a load that is not CLOSING. -/
theorem Core.setComp (h : v.Core x) {n : Nat} {st : CompState}
    (hserved : ∀ a, x.exempt ≠ some a → v.served a = some n → st.isActive = true)
    (hstaging : ∀ a, (v.state a).isStaging = true → v.served a = some n → st.isDrivable = true)
    (hwakes : st.isActive = true → v.starting = false ∧ ∀ l, v.load = some l → ¬ l.HandedOff) :
    Core x (v.setComp n st) := by
  have handed : ∀ l, v.load = some l → l.HandedOff → (l.setComp n st).HandedOff := fun l hl ho => by
    cases hst : st.isActive with
    | true => exact absurd ho ((hwakes hst).2 l hl)
    | false => exact ⟨ho.1, ho.2.1, LoadView.anyActive_setComp hst ho.2.2⟩
  have load {m : LoadView} (hm : (v.setComp n st).load = some m) : ∃ l, v.load = some l ∧ l.setComp n st = m := by
    simpa [FlowView.setComp] using hm
  refine
    { h with
      served := fun a k hx hk => ?_, staging := fun a ha => ?_, active := fun hx a ha m hm => ?_
      latched := fun hx hl m hm => ?_, context := fun hx => ?_, committing := fun hx => ?_
      composing := fun m hm hx => ?_, starting := fun hx => ?_ }
  · obtain ⟨c, hc, harm, hact⟩ := h.served a k hx hk
    rw [comp?_setComp, hc]
    refine ⟨_, rfl, ?_, ?_⟩
    · split <;> exact harm
    · split
      · rename_i hk'; subst hk'; exact hserved a hx hk
      · exact hact
  · obtain ⟨k, c, hk, hc, hd⟩ := h.staging a ha
    refine ⟨k, _, hk, by rw [comp?_setComp, hc]; rfl, ?_⟩
    dsimp only; split
    · rename_i hk'; subst hk'; exact hstaging a ha hk
    · exact hd
  · obtain ⟨l, hl, rfl⟩ := load hm
    exact h.active hx a ha l hl
  · obtain ⟨l, hl', rfl⟩ := load hm
    exact h.latched hx hl l hl'
  · simp [FlowView.setComp, h.context hx]
  · obtain ⟨l, hl, ho⟩ := h.committing hx
    exact ⟨_, by simp [FlowView.setComp, hl], handed l hl ho⟩
  · obtain ⟨l, hl, rfl⟩ := load hm
    obtain ⟨ho, hq⟩ := h.composing l hl hx
    exact ⟨handed l hl ho, hq⟩
  · obtain ⟨hq, hl⟩ := h.starting hx
    refine ⟨hq, fun m hm => ?_⟩
    obtain ⟨l, hl', rfl⟩ := load hm
    obtain ⟨hcom, hact⟩ := hl l hl'
    refine ⟨hcom, ?_⟩
    cases hst : st.isActive with
    | true => exact absurd ((hwakes hst).1.symm.trans hx) Bool.false_ne_true
    | false => exact LoadView.anyActive_setComp hst hact

/-- The load record changes, its compartments staying. -/
theorem Core.mapLoad (h : v.Core x) {g : LoadView → LoadView}
    (hg : ∀ l, (g l).comps = l.comps ∧ (g l).composing = l.composing) (hhanded : ∀ l, l.HandedOff → (g l).HandedOff)
    (hactive : x.staged = true → ∀ a, (v.state a).isStaging = true → ∀ l, v.load = some l →
      (g l).state = .active ∧ (g l).causes.isEmpty = true)
    (hlatched : x.latched = true → v.latch = true → ∀ l, v.load = some l → (g l).causes.esd = true) :
    Core x { v with load := v.load.map g } := by
  have load {m : LoadView} (hm : v.load.map g = some m) : ∃ l, v.load = some l ∧ g l = m := by simpa using hm
  have comp (n : Nat) : FlowView.comp? n { v with load := v.load.map g } = v.comp? n := by
    unfold FlowView.comp? LoadView.comp?
    cases v.load with
    | none => rfl
    | some l => simp [(hg l).1]
  refine
    { h with
      served := fun a k hx hk => by rw [comp]; exact h.served a k hx hk
      staging := fun a ha => ?_
      active := fun hx a ha m hm => ?_
      latched := fun hx hl m hm => ?_, context := fun hx => ?_, committing := fun hx => ?_
      composing := fun m hm hx => ?_, starting := fun hx => ?_ }
  · obtain ⟨n, c, hn, hc, hd⟩ := h.staging a ha
    exact ⟨n, c, hn, (comp n).trans hc, hd⟩
  · obtain ⟨l, hl, rfl⟩ := load hm
    exact hactive hx a ha l hl
  · obtain ⟨l, hl', rfl⟩ := load hm
    exact hlatched hx hl l hl'
  · simp [h.context hx]
  · obtain ⟨l, hl, ho⟩ := h.committing hx
    exact ⟨_, by simp [hl], hhanded l ho⟩
  · obtain ⟨l, hl, rfl⟩ := load hm
    obtain ⟨ho, hq⟩ := h.composing l hl ((hg l).2 ▸ hx)
    exact ⟨hhanded l ho, hq⟩
  · obtain ⟨hq, hl⟩ := h.starting hx
    refine ⟨hq, fun m hm => ?_⟩
    obtain ⟨l, hl', rfl⟩ := load hm
    rw [LoadView.anyActive, (hg l).1, (hg l).2]
    exact hl l hl'

/-- An arm stages only for a compartment that counts as active. -/
theorem Core.anyActive_of_staging (h : v.Core x) {a : Fin 4} (ha : (v.state a).isStaging = true) {l : LoadView}
    (hl : v.load = some l) : l.anyActive = true := by
  obtain ⟨n, c, _, hc, hd⟩ := h.staging a ha
  obtain ⟨l', hl', hc⟩ := exists_load hc
  cases hl.symm.trans hl'
  exact LoadView.anyActive_of_comp? hc (CompState.isActive_of_isDrivable hd)

/-- The load state is evaluated afresh (R12). -/
theorem Core.eval (h : v.Core x) : Core x v.eval :=
  h.mapLoad (g := fun l => { l with state := l.evaluated }) (fun _ => ⟨rfl, rfl⟩)
    (fun _ ⟨hst, ho⟩ => ⟨by simp [LoadView.evaluated, hst], ho⟩)
    (fun hx a ha l hl => by
      obtain ⟨hst, hcau⟩ := h.active hx a ha l hl
      exact ⟨by simp [LoadView.evaluated, hst, hcau, h.anyActive_of_staging ha hl], hcau⟩)
    h.latched

/-! ### Moves that keep the load state's table -/

theorem Lawful.relax (h : v.Lawful x) {f : Fin 4 → ArmState}
    (hf : ∀ a, (f a).isStaging = true → (v.state a).isStaging = true) : Lawful x { v with state := f } :=
  ⟨h.core.relax hf, h.tables⟩

theorem Lawful.take (h : v.Lawful x) {a : Fin 4} {n : Nat} {c : CompView} {l : LoadView} {st : ArmState}
    (hx : x.exempt ≠ some a) (hc : v.comp? n = some c) (harm : c.arm = a) (hd : c.state.isDrivable = true)
    (hl : v.load = some l) (hact : l.state = .active) (hcau : l.causes.isEmpty = true) : Lawful x (v.setArm a st (some n)) :=
  ⟨h.core.take hx hc harm hd hl hact hcau, h.tables⟩

theorem Lawful.drop (h : v.Lawful x) {a : Fin 4} {st : ArmState} (hx : x.exempt = some a) (hst : st.isStaging = false) :
    Lawful { x with exempt := none } (v.setArm a st none) :=
  ⟨h.core.drop hx hst, h.tables⟩

/-- An active compartment stays active. -/
theorem Lawful.stage (h : v.Lawful x) {n : Nat} {c : CompView} {st : CompState} (hc : v.comp? n = some c)
    (hact : c.state.isActive = true) (hst : st.isActive = true)
    (hstaging : ∀ a, (v.state a).isStaging = true → v.served a = some n → st.isDrivable = true) :
    Lawful x (v.setComp n st) := by
  refine ⟨h.core.setComp (fun _ _ _ => hst) hstaging
    fun _ => ⟨h.core.starting_eq_false hc hact, fun l hl => Core.not_handedOff hc hact hl⟩, ?_⟩
  obtain ⟨l, hl, hc⟩ := exists_load hc
  have before : l.anyActive = true := LoadView.anyActive_of_comp? hc hact
  have after : (l.setComp n st).anyActive = true :=
    LoadView.anyActive_of_comp? (c := { c with state := st }) (n := n) (by rw [LoadView.comp?_setComp, hc]; simp) hst
  have hnot : l.finishing = false := LoadView.not_finishing_of_comp? hc (by rintro hd; simp [hd, CompState.isActive] at hact)
  intro m hm
  obtain rfl : l.setComp n st = m := by simpa [FlowView.setComp, hl] using hm
  left
  have htab : l.evaluated = l.state := (h.tables l hl).resolve_right fun hf => by simp [hnot] at hf
  simp only [LoadView.evaluated, before, after] at htab ⊢
  exact htab

/-- Evaluating the load state afresh puts it back in its table. -/
theorem Core.lawful_eval (h : v.Core x) : Lawful x v.eval := by
  refine ⟨h.eval, fun m hm => .inl ?_⟩
  obtain ⟨l, _, rfl⟩ : ∃ l, v.load = some l ∧ { l with state := l.evaluated } = m := by simpa [FlowView.eval] using hm
  exact l.evaluated_idem

theorem Core.lawful_evalComps (h : v.Core x) (hf : ∀ l, v.load = some l → l.finishing = true → x.finishing = true) :
    Lawful x v.evalComps := by
  unfold evalComps
  split
  · rename_i hany
    refine ⟨h, fun l hl => .inr ?_⟩
    rw [hl, Option.any_some] at hany
    exact ⟨hf l hl hany, hany⟩
  · exact h.lawful_eval

theorem Lawful.evalComps (h : v.Lawful x) : Lawful x v.evalComps := by
  unfold FlowView.evalComps; split
  · exact h
  · exact h.core.lawful_eval

/-! ### Slack -/

theorem Core.finish (h : v.Core x) : Core { x with finishing := true } v := { h with }

theorem Lawful.finish (h : v.Lawful x) : Lawful { x with finishing := true } v :=
  ⟨h.core.finish, fun l hl => (h.tables l hl).imp_right fun ⟨_, hf⟩ => ⟨rfl, hf⟩⟩

theorem Lawful.weaken (h : v.Lawful x) : Lawful { x with begun := false } v :=
  ⟨{ h.core with begun := fun hb => by simp at hb }, h.tables⟩

theorem Lawful.begin (h : v.Lawful x) (hs : v.starting = false) : Lawful { x with begun := true } v :=
  ⟨{ h.core with begun := fun _ => hs }, h.tables⟩

/-- An arm that does not stage may be left with a compartment that is no longer active. -/
theorem Lawful.exempt (h : v.Lawful x) (hx : x.exempt = none) {a : Fin 4} (ha : (v.state a).isStaging = false) :
    Lawful { x with exempt := some a } v :=
  ⟨{ h.core with
      served := fun b n _ => h.core.served b n (by simp [hx])
      idle := fun b hb => by cases hb; exact ha }, h.tables⟩

/-- Where no drive can reach a compartment, no arm stages. -/
theorem Lawful.restage (h : Lawful { x with staged := false } v)
    (hnone : ∀ n c, v.comp? n = some c → c.state.isDrivable = false) : Lawful x v :=
  ⟨{ h.core with
      active := fun _ a ha => by
        obtain ⟨n, c, _, hc, hd⟩ := h.core.staging a ha
        simp [hnone n c hc] at hd }, h.tables⟩

/-- Where no drive can reach a compartment, no arm stages. -/
theorem Core.not_staging (h : v.Core x) (hnone : ∀ n c, v.comp? n = some c → c.state.isDrivable = false) (a : Fin 4) :
    (v.state a).isStaging = false := by
  by_contra ha
  obtain ⟨n, c, _, hc, hd⟩ := h.staging a (by simpa using ha)
  simp [hnone n c hc] at hd

theorem Lawful.unfinish (h : Lawful { x with finishing := true } v)
    (hf : ∀ l, v.load = some l → l.finishing = true → l.evaluated = l.state) : Lawful x v :=
  ⟨{ h.core with }, fun l hl => .inl ((h.tables l hl).elim id fun ⟨_, hfin⟩ => hf l hl hfin)⟩

theorem Lawful.relatch (h : Lawful { x with latched := false } v)
    (hesd : v.latch = true → ∀ l, v.load = some l → l.causes.esd = true) : Lawful x v :=
  ⟨{ h.core with latched := fun _ => hesd }, h.tables⟩

theorem Lawful.unstage (h : v.Lawful x) : Lawful { x with staged := false } v :=
  ⟨{ h.core with active := fun hx => by simp at hx }, h.tables⟩

theorem Lawful.clearLatch (h : v.Lawful x) : Lawful x { v with latch := false } :=
  ⟨{ h.core with latched := fun _ hx => absurd hx Bool.false_ne_true }, h.tables⟩

theorem Lawful.setLatch (h : v.Lawful x) : Lawful { x with latched := false } { v with latch := true } :=
  ⟨{ h.core with latched := fun hx => by simp at hx }, h.tables⟩

theorem Lawful.dropContext (h : v.Lawful x) : Lawful x { v with context := false } :=
  ⟨{ h.core with context := fun hx => absurd hx Bool.false_ne_true }, h.tables⟩

theorem Lawful.grantContext (h : v.Lawful x) (hl : v.load = none) : Lawful x { v with context := true } :=
  ⟨{ h.core with context := fun _ => hl }, h.tables⟩

theorem Lawful.settle (h : v.Lawful x) : Lawful x { v with owed := false } :=
  ⟨{ h.core with noneOwed := rfl }, h.tables⟩

/-! ### A load that no arm is at work for -/

/-- No arm stages, and none but an exempt one serves a compartment. -/
def Quiet (x : Slack) (v : FlowView) : Prop :=
  ∀ a, (v.state a).isStaging = false ∧ (x.exempt ≠ some a → v.served a = none)

/-- No arm is at work where no compartment is active. -/
theorem Core.quiet (h : v.Core x) (hact : ∀ l, v.load = some l → l.anyActive = false) : v.Quiet x := by
  have none (n : Nat) (c : CompView) (hc : v.comp? n = some c) (hcact : c.state.isActive = true) : False := by
    obtain ⟨l, hl, hc⟩ := exists_load hc
    exact absurd (hact l hl) (by simp [LoadView.anyActive_of_comp? hc hcact])
  refine fun a => ⟨?_, fun hx => ?_⟩
  · by_contra ha
    obtain ⟨n, c, _, hc, hd⟩ := h.staging a (by simpa using ha)
    exact none n c hc (CompState.isActive_of_isDrivable hd)
  · cases hn : v.served a with
    | none => rfl
    | some n =>
      obtain ⟨c, hc, _, hcact⟩ := h.served a n hx hn
      exact (none n c hc hcact).elim

/-- A load record, a context and a number of waiting commits that take the place of those before, no arm being at work. -/
theorem Core.replace (h : v.Core x) (hq : v.Quiet x) {o : Option LoadView} {context : Bool} {k : Nat}
    (hlatched : x.latched = true → v.latch = true → ∀ l, o = some l → l.causes.esd = true)
    (hcontext : context = true → o = none)
    (hcommit : 0 < k → ∃ l, o = some l ∧ l.HandedOff)
    (hcomposing : ∀ l, o = some l → l.composing = true → l.HandedOff ∧ k = 0) (hone : k ≤ 1)
    (hstarting : v.starting = true → k = 0 ∧ ∀ l, o = some l → l.composing = false ∧ l.anyActive = false) :
    Core x { v with load := o, context := context, commits := k } :=
  { h with
    served := fun a n hx hn => by simp [(hq a).2 hx] at hn
    staging := fun a ha => by simp [(hq a).1] at ha
    active := fun _ a ha => by simp [(hq a).1] at ha
    latched := hlatched, context := hcontext, committing := hcommit, composing := hcomposing, oneCommit := hone
    starting := hstarting }

end FlowView

end Sys2Proof.Machine
end

section
/-! PROOFS. What each operation of the shared state does to the flow invariant: drives, pumps, faults, causes, and the end of a
load. -/

namespace Sys2Proof.Machine

/-- A state keeps the flow invariant, but for some slack. -/
def State.Flows (x : Slack) (s : State) : Prop := s.view.Lawful x

namespace State.Flows

variable {x : Slack} {s t : State}

theorem of_view (h : s.Flows x) (hv : t.view = s.view) : t.Flows x := by rwa [State.Flows, hv]

/-- What each step of a fold keeps, the fold keeps. -/
theorem foldl {α : Type} {f : State → α → State} (hf : ∀ s y, s.Flows x → (f s y).Flows x) (ys : List α) (s : State)
    (h : s.Flows x) : (ys.foldl f s).Flows x := by
  induction ys generalizing s with
  | nil => exact h
  | cons y ys ih => exact ih _ (hf s y h)

theorem post {c : EventCode} {k : ObjectKind} {n : Nat} {v : BitVec 32} (h : s.Flows x) : (s.post c k n v).Flows x := h

theorem startWrite (h : s.Flows x) : s.startWrite.Flows x := h

theorem imagePoint (h : s.Flows x) : s.imagePoint.Flows x := h.of_view s.imagePoint_view

theorem callCheckpoint (h : s.Flows x) : s.callCheckpoint.Flows x := h.of_view s.callCheckpoint_view

theorem modifyPump {p : Fin 4} {f : Pump → Pump} (h : s.Flows x) : (s.modifyPump p f).Flows x := h

theorem mapPumps {f : Pump → Pump} (h : s.Flows x) : (s.mapPumps f).Flows x := h

/-- Arms that keep their compartments may leave the staging states, as far as the invariant goes. -/
theorem of_arms {u : State} (h : s.Flows x) (hu : u = { s with arms := u.arms })
    (hf : ∀ b : Fin 4, u.arms[b].served = s.arms[b].served
      ∧ (u.arms[b].state.isStaging = true → s.arms[b].state.isStaging = true)) : u.Flows x := by
  have hserved : u.view.served = s.view.served := funext fun b => (hf b).1
  have hview : u.view = { s.view with state := u.view.state, served := u.view.served } := by rw [hu]; rfl
  rw [State.Flows, hview, hserved]
  exact h.relax fun b => (hf b).2

theorem modifyArm {a : Fin 4} {f : Arm → Arm} (h : s.Flows x)
    (hf : (f s.arms[a]).served = s.arms[a].served
      ∧ ((f s.arms[a]).state.isStaging = true → s.arms[a].state.isStaging = true)) : (s.modifyArm a f).Flows x := by
  refine h.of_arms rfl fun b => ?_
  rw [State.modifyArm_get]; split
  · subst b; exact hf
  · exact ⟨rfl, id⟩

theorem mapArms {f : Arm → Arm} (h : s.Flows x)
    (hf : ∀ y : Arm, (f y).served = y.served ∧ ((f y).state.isStaging = true → y.state.isStaging = true)) :
    (s.mapArms f).Flows x :=
  h.of_arms rfl fun b => by rw [State.mapArms_get]; exact hf _

theorem modifyArms {k : ArmMask} {f : Arm → Arm} (h : s.Flows x)
    (hf : ∀ y : Arm, (f y).served = y.served ∧ ((f y).state.isStaging = true → y.state.isStaging = true)) :
    (s.modifyArms k f).Flows x := by
  refine h.of_arms rfl fun b => ?_
  rw [State.modifyArms_get]; split
  · exact hf _
  · exact ⟨rfl, id⟩

/-! ### Drives -/

theorem driven {a : Fin 4} (h : s.Flows x) : (s.modifyArm a Arm.driven).Flows x := by
  refine h.modifyArm ⟨?_, fun hs => ?_⟩
  · unfold Arm.driven; split <;> rfl
  · unfold Arm.driven at hs; split at hs
    · simp [ArmState.isStaging] at hs
    · exact hs

/-- A close drive takes a compartment and its arm out of the staging states together (R14, R80). -/
theorem driveClose {n : Nat} {r : CloseReason} (h : s.Flows x) : (s.driveClose n r).Flows x := by
  cases hc : s.comp? n with
  | none => simpa only [State.driveClose, hc] using h
  | some c =>
    by_cases hd : c.state.isDrivable = true
    · have hview : (s.modifyArm c.line.arm Arm.driven).view.comp? n = some c.view := by
        rw [State.modifyArm_view, FlowView.comp?_setArm, State.view_comp?_of hc]
      have hact : c.view.state.isActive = true := CompState.isActive_of_isDrivable hd
      rw [State.Flows, State.driveClose_view hc hd]
      refine (h.driven.stage hview hact rfl fun a ha hn => ?_).evalComps
      have harm : a = c.line.arm := (h.driven.core.eq_line_arm (h.driven.core.not_exempt ha) hn hview).1.symm
      rw [State.view_state, State.modifyArm_get, if_pos harm, Arm.driven] at ha
      split at ha
      · simp [ArmState.isStaging] at ha
      · exact absurd ha ‹_›
    · have hsame : s.driveClose n r = s := by simp only [State.driveClose, hc, hd]; rfl
      rwa [hsame]

theorem driveAll {r : CloseReason} (h : s.Flows x) : (s.driveAll r).Flows x := foldl (fun _ _ => driveClose) _ _ h

/-! ### Pumps and faults -/

/-- A compartment whose arm stages takes a drivable state, its change posted (R74, R76, R77). -/
theorem staged {a : Fin 4} {n : Nat} {st : CompState} {f : CompRecord → CompRecord} (h : s.Flows x)
    (ha : s.arms[a].state.isStaging = true) (hn : s.arms[a].served = some n)
    (hf : ∀ c : CompRecord, (f c).view = ⟨c.line.compartment, c.line.arm, st⟩) (hst : st.isDrivable = true) :
    ((s.modifyComp n f).compChanged n).Flows x := by
  obtain ⟨k, c, hk, hc, hd⟩ := h.core.staging a ha
  obtain rfl : k = n := Option.some.inj (hk.symm.trans hn)
  have hview := State.modifyComp_view hf k s
  have hcomp : (s.modifyComp k f).view.comp? k = some { c with state := st } := by
    rw [hview, FlowView.comp?_setComp, hc]; simp
  rw [State.Flows, State.compChanged_view hcomp, hview]
  exact (h.stage hc (CompState.isActive_of_isDrivable hd) (CompState.isActive_of_isDrivable hst) fun _ _ _ => hst).evalComps

theorem settleExpired {a : Fin 4} (h : s.Flows x) : (s.settleExpired a).Flows x := by
  unfold State.settleExpired; split
  · rename_i hp
    have hs : s.arms[a].state.isStaging = true := by rw [hp]; rfl
    have low : (s.modifyArm a fun x => { x with state := .low, valve := .low, settleTimer := none }).Flows x :=
      h.modifyArm ⟨rfl, fun _ => hs⟩
    dsimp only; split
    · exact low
    · exact low.staged (a := a) (st := .lowStart) (by simp [ArmState.isStaging]) (by simpa using ‹_›) (fun _ => rfl) rfl
  · exact h

theorem startSettle {a : Fin 4} {k : Nat} (h : s.Flows x) : (s.startSettle a k).Flows x := by
  unfold State.startSettle; split
  · exact h.settleExpired
  · exact h.modifyArm ⟨rfl, id⟩

theorem startSettles {p : Fin 4} (h : s.Flows x) : (s.startSettles p).Flows x :=
  foldl (fun _ _ h => by split; exacts [h.startSettle, h]) _ _ h

theorem pumpRunning {p : Fin 4} (h : s.Flows x) : (s.pumpRunning p).Flows x := h.modifyPump.startSettles.modifyPump

theorem startPump {p : Fin 4} (h : s.Flows x) : (s.startPump p).Flows x := by
  unfold State.startPump; dsimp only; split
  · exact h.modifyPump.pumpRunning
  · exact h.modifyPump

theorem demandRises {p : Fin 4} (h : s.Flows x) : (s.demandRises p).Flows x := by
  unfold State.demandRises; split
  · split
    · exact h
    · exact h.startPump
  · exact h.pumpRunning
  all_goals exact h

theorem recountPump {p : Fin 4} (h : s.Flows x) : (s.recountPump p).Flows x := by
  unfold State.recountPump; dsimp only; (repeat' split)
  · exact h.modifyPump.demandRises
  · exact h.modifyPump.of_view (State.demandFalls_view _ _)
  · exact h.modifyPump

theorem recount (h : s.Flows x) : s.recount.Flows x := foldl (fun _ _ => recountPump) _ _ h

theorem failPump {p : Fin 4} {k : FailKind} (h : s.Flows x) : (s.failPump p k).Flows x := by
  unfold State.failPump
  exact foldl (fun _ _ h => by (repeat' split); exacts [h, h.driveClose, h]) _ _ h.modifyPump.post

theorem faulted {a : Fin 4} {c : FaultCause} (h : s.Flows x) : (s.modifyArm a (Arm.faulted c)).Flows x := by
  refine h.modifyArm ⟨?_, fun hs => ?_⟩
  · unfold Arm.faulted; split <;> rfl
  · unfold Arm.faulted at hs
    split at hs <;> simp_all [ArmState.isStaging]

theorem armFault {a : Fin 4} {c : FaultCause} (h : s.Flows x) : (s.armFault a c).Flows x := by
  unfold State.armFault; dsimp only; split
  · exact h
  split
  · exact h
  refine recount ?_
  split
  · exact h.faulted
  · exact h.faulted.driveClose

/-! ### Causes -/

/-- A cause is put in once every compartment is driven (R21). -/
theorem addCause {c : Cause} (h : s.Flows x) : (s.addCause c).Flows x := by
  cases hl : s.load with
  | none => rwa [State.addCause_without_load hl]
  | some l =>
    cases hk : l.causes.has c with
    | true => rwa [State.addCause_of_has hl hk]
    | false =>
      rw [State.addCause_of_not_has hl hk, State.Flows, State.postCause_view, State.imagePoint_view, State.evalLoad_view,
        State.putCause_view]
      have driven := h.driveAll (r := .halt c.haltCause)
      refine (driven.core.mapLoad (g := fun l => { l with causes := l.causes.put true c }) (fun _ => ⟨rfl, rfl⟩)
        (fun _ ho => ho) (fun _ a ha => ?_) fun hx hv m hm => ?_).lawful_eval
      · exact absurd ha (Bool.eq_false_iff.1 (driven.core.not_staging (fun _ _ => State.driveAll_not_drivable s _) a))
      · have hesd := driven.core.latched hx hv m hm
        cases c <;> simp [CauseSet.put, hesd]

/-- A cause is taken out; ESD only once the latch is clear (R22, R125). -/
theorem removeCause {c : Cause} (h : s.Flows x) (hc : c ≠ .esd ∨ s.safety.esdLatch = false) : (s.removeCause c).Flows x := by
  unfold State.removeCause; split
  · exact h
  split
  · rw [State.Flows, State.evalLoad_view, State.imagePoint_view, State.postCause_view, State.putCause_view]
    refine (h.core.mapLoad (g := fun l => { l with causes := l.causes.put false c }) (fun _ => ⟨rfl, rfl⟩)
      (fun _ ho => ho) (fun hx a ha m hm => ?_) fun hx hv m hm => ?_).lawful_eval
    · obtain ⟨hst, hcau⟩ := h.core.active hx a ha m hm
      refine ⟨hst, ?_⟩
      cases c <;> simp_all [CauseSet.put, CauseSet.isEmpty]
    · have hesd := h.core.latched hx hv m hm
      obtain hc | hc := hc
      · cases c <;> simp_all [CauseSet.put]
      · exact absurd hv (by rw [show s.view.latch = false from hc]; exact Bool.false_ne_true)
  · exact h

theorem judgePermissive (h : s.Flows x) : s.judgePermissive.Flows x := by
  unfold State.judgePermissive; split
  · exact h.addCause
  · exact h.removeCause (.inl (by decide))

end State.Flows

end Sys2Proof.Machine
end

section
/-! PROOFS. The end of a load and the flow invariant: compartments that leave the active states, the entry into CLOSING, the close
hand-off, the commit record and the release of the load. -/

namespace Sys2Proof.Machine

variable {x : Slack} {s t : State} {l : LoadRecord} {n : Nat}

/-! ### What the note unit and the permit unit do to the view -/

/-- A slot of the load changes. -/
theorem State.modifySlot_load_view (hl : s.load = some l) (f : Slot → Slot) : (s.modifySlot l.slot f).view
    = { s.view with load := some { l.view s.slots with composing := (f s.slots[l.slot]).state == .composing } } := by
  have hload : (s.modifySlot l.slot f).view.load
      = some { l.view s.slots with composing := (f s.slots[l.slot]).state == .composing } := by
    have hget : (s.slots.set l.slot (f s.slots[l.slot]))[l.slot] = f s.slots[l.slot] := by
      simp only [Fin.getElem_fin, Vector.getElem_set_self]
    simp only [State.view_load, State.modifySlot, hl, Option.map_some, LoadRecord.view, hget]
  rw [← hload]; rfl

/-- The charge of the permit queues or owes a record that is no commit record (R40). -/
theorem State.chargePermit_view (ho : s.view.owed = false) (l : LoadRecord) : (s.chargePermit l).view = s.view := by
  have charge {t : State} {e : Option PermitEntry} (ht : t.view = s.view) :
      (t.queueCharge (.permit l.card e false)).view = s.view := by
    unfold State.queueCharge; split
    · have howed : s.view.owed = t.backlog.any Record.isCommit := by
        have h := congrArg FlowView.owed ht
        rw [ho] at h
        simp only [State.view, Bool.or_eq_false_iff] at h
        rw [ho, h.2]
      rw [← ht] at howed ⊢
      have hsplit : ({ t with chargeOwed := some (.permit l.card e false) } : State).view
          = { t.view with owed := t.backlog.any Record.isCommit } := rfl
      rw [hsplit, ← howed]
    · exact (State.enqueue_view rfl t).trans ht
  unfold State.chargePermit; (repeat' split)
  · rfl
  · exact charge rfl
  · rfl

/-- The close hand-off up to its commit record: the load has its close time and its slot is COMPOSING (R19, R155). -/
theorem State.composed_view (ho : s.view.owed = false) (l : LoadRecord) : (s.composed l).view
    = { s.view with load := some { l.view s.slots with closed := true, composing := true } } := by
  have himage : ({ s with load := some (l.closedAt s.closeTimeNow) } : State).imageHandOff.view
      = { s.view with load := some { l.view s.slots with closed := true } } := State.imageHandOff_view _
  have hcharge : (({ s with load := some (l.closedAt s.closeTimeNow) } : State).imageHandOff.chargePermit
      (l.closedAt s.closeTimeNow)).view = { s.view with load := some { l.view s.slots with closed := true } } := by
    rw [State.chargePermit_view (by rw [himage]; exact ho), himage]
  have hload : (({ s with load := some (l.closedAt s.closeTimeNow) } : State).imageHandOff.chargePermit
      (l.closedAt s.closeTimeNow)).load = some (l.closedAt s.closeTimeNow) := by
    rw [State.chargePermit_eq, State.imageHandOff_eq]
  have hslots : (({ s with load := some (l.closedAt s.closeTimeNow) } : State).imageHandOff.chargePermit
      (l.closedAt s.closeTimeNow)).slots = s.slots := by
    rw [State.chargePermit_eq, State.imageHandOff_eq]
  unfold State.composed
  refine (State.modifySlot_load_view hload _).trans ?_
  rw [hcharge, hslots]; rfl

/-- The commit record joins the queue, and its slot goes to COMMITTING (R155). -/
theorem State.queueCommit_view {r : Record} (hl : s.load = some l) (hr : r.isCommit = true) : (s.queueCommit l.slot r).view
    = { s.view with load := some { l.view s.slots with composing := false }, commits := s.view.commits + 1 } := by
  have hcount : (s.enqueue r).view = { s.view with commits := s.view.commits + 1 } := by
    have : (s.enqueue r).view.commits = s.view.commits + 1 := by
      simp [State.view, State.enqueue, hr]
    rw [← this]; rfl
  unfold State.queueCommit
  refine (State.modifySlot_load_view (s := s.enqueue r) hl _).trans ?_
  rw [hcount]; rfl

/-- A commit record is judged for the open load whose slot is COMPOSING (R155). -/
theorem State.commitRecord?_some {i : Fin 8} {r : Record} (h : s.commitRecord? = some (i, r)) :
    ∃ l, s.load = some l ∧ i = l.slot ∧ r.isCommit = true ∧ (l.view s.slots).composing = true := by
  unfold State.commitRecord? at h
  split at h
  · cases h
  rename_i l hl
  split at h
  · rename_i hst _
    split at h
    · cases h
    · cases h
      exact ⟨l, hl, rfl, rfl, LoadRecord.view_composing.2 hst⟩
  · cases h

namespace State.Flows

/-! ### The hand-off -/

theorem queueCommit {i : Fin 8} {r : Record} (h : s.Flows x) (hr : s.commitRecord? = some (i, r)) :
    (s.queueCommit i r).Flows x := by
  obtain ⟨l, hl, rfl, hcom, hslot⟩ := State.commitRecord?_some hr
  have hview := State.view_load_of hl
  obtain ⟨ho, hk⟩ := h.core.composing _ hview hslot
  have hquiet := h.core.quiet fun m hm => by cases hview.symm.trans hm; exact ho.2.2
  have hnot : s.view.starting = false := by
    by_contra hs
    have := ((h.core.starting (by simpa using hs)).2 _ hview).1
    simp [hslot] at this
  rw [State.Flows, State.queueCommit_view hl hcom]
  refine ⟨h.core.replace (context := s.view.context) hquiet (fun hx hv m hm => ?_) (fun hx => ?_) (fun _ => ⟨_, rfl, ho⟩)
    (fun m hm hx => ?_) (by rw [hk]) (fun hx => by simp [hnot] at hx), fun m hm => .inl ?_⟩
  · have hesd := h.core.latched hx hv _ hview
    cases hm; exact hesd
  · rw [h.core.context hx] at hview; cases hview
  · cases hm; exact absurd hx Bool.false_ne_true
  · cases hm; simp [LoadView.evaluated, ho.1]

theorem tryCommit (h : s.Flows x) : s.tryCommit.Flows x := by
  unfold State.tryCommit; split
  · exact h
  · split
    · exact h.queueCommit ‹_›
    · exact h

/-- The close hand-off of a CLOSING load with no active compartment, before any commit record waits (R19). -/
theorem handOff (h : s.Flows x) (hl : s.load = some l) (hst : l.state = .closing) (hact : (l.view s.slots).anyActive = false)
    (hk : s.view.commits = 0) (hs : s.view.starting = false) : s.handOff.Flows x := by
  have hview := State.view_load_of hl
  have hquiet := h.core.quiet fun m hm => by cases hview.symm.trans hm; exact hact
  rw [State.handOff_of_load hl]
  refine tryCommit ?_
  rw [State.Flows, State.composed_view h.core.noneOwed]
  have ho : LoadView.HandedOff { l.view s.slots with closed := true, composing := true } := ⟨hst, rfl, hact⟩
  refine ⟨h.core.replace (context := s.view.context) (k := s.view.commits) hquiet (fun hx hv m hm => ?_) (fun hx => ?_)
    (fun _ => ⟨_, rfl, ho⟩) (fun m hm hx => ?_) h.core.oneCommit (fun hx => by simp [hs] at hx), fun m hm => .inl ?_⟩
  · have hesd := h.core.latched hx hv _ hview
    cases hm; exact hesd
  · rw [h.core.context hx] at hview; cases hview
  · cases hm; exact ⟨ho, hk⟩
  · cases hm; simp [LoadView.evaluated, show (l.view s.slots).state = .closing from hst]

/-- The entry into CLOSING leaves arms staging for a load that is no longer ACTIVE (R18). -/
theorem enterClosing (h : s.Flows x) : s.enterClosing.Flows { x with staged := false } := by
  have hclosing : (s.modifyLoad fun l => { l with state := .closing }).view
      = { s.view with load := s.view.load.map fun l => { l with state := .closing } } := by
    have hload : (s.modifyLoad fun l => { l with state := .closing }).view.load
        = s.view.load.map fun l => { l with state := .closing } := by
      simp only [State.view_load, State.modifyLoad, Option.map_map]; rfl
    rw [← hload]; rfl
  have hcore : ((s.modifyLoad fun l => { l with state := .closing }).view).Core { x with staged := false } := by
    rw [hclosing]
    exact h.unstage.core.mapLoad (g := fun l => { l with state := .closing }) (fun _ => ⟨rfl, rfl⟩)
      (fun _ ho => ⟨rfl, ho.2⟩) (fun hx => by simp at hx) h.core.latched
  have hlawful : (s.modifyLoad fun l => { l with state := .closing }).Flows { x with staged := false } := by
    refine ⟨hcore, fun m hm => .inl ?_⟩
    rw [hclosing, Option.map_eq_some_iff] at hm
    obtain ⟨l, _, rfl⟩ := hm
    simp [LoadView.evaluated]
  exact (hlawful.post.imagePoint.removeCause (c := .permissive) (.inl (by decide))).of_view rfl

/-- A CLOSING load with every compartment DONE passes its hand-off, if it has not (R19). -/
theorem handOffOnce (h : s.Flows x) (hb : x.begun = true) (hl : s.load = some l) (hst : l.state = .closing)
    (hact : (l.view s.slots).anyActive = false) : (if l.closeTime.isSome then s else s.handOff).Flows x := by
  split
  · exact h
  · rename_i hopen
    refine h.handOff hl hst hact ?_ (h.core.begun hb)
    by_contra hk
    obtain ⟨m, hm, ho⟩ := h.core.committing (Nat.pos_of_ne_zero hk)
    cases (State.view_load_of hl).symm.trans hm
    exact hopen ho.2.1

/-- Where every compartment is DONE, none is active. -/
theorem anyActive_of_done (slots : Vector Slot 8) (hdone : (l.comps.all fun c => c.state == .done) = true) :
    (l.view slots).anyActive = false := by
  rw [l.view_anyActive, List.any_eq_false]
  intro c hc
  have hst := List.all_eq_true.1 hdone c hc
  rw [beq_iff_eq] at hst
  simp [hst, CompState.isActive]

/-- When every compartment is DONE the load enters CLOSING and passes its hand-off (R17, R19). -/
theorem closeIfDone (h : s.Flows { x with finishing := true }) (hb : x.begun = true) : s.closeIfDone.Flows x := by
  cases hl : s.load with
  | none =>
    rw [State.closeIfDone, hl]
    exact h.unfinish fun m hm => by rw [s.view_load, hl] at hm; cases hm
  | some l =>
    have hview := State.view_load_of hl
    by_cases hdone : (l.comps.all fun c => c.state == .done) = true
    · have hact (slots : Vector Slot 8) := anyActive_of_done slots hdone
      simp only [State.closeIfDone, hl, hdone, if_true]
      by_cases hst : l.state = .closing
      · rw [if_pos hst]
        refine handOffOnce (h.unfinish fun m hm _ => ?_) hb hl hst (hact _)
        cases hview.symm.trans hm
        simp [LoadView.evaluated, show (l.view s.slots).state = .closing from hst]
      · rw [if_neg hst]
        have hload := State.enterClosing_load hl
        have hload' := State.view_load_of hload
        have hentered : s.enterClosing.Flows x := by
          refine FlowView.Lawful.unfinish (FlowView.Lawful.restage h.enterClosing fun n c hc => ?_) fun m hm _ => ?_
          · obtain ⟨m, hm, hc⟩ := FlowView.exists_load hc
            cases hload'.symm.trans hm
            by_contra hd
            have := LoadView.anyActive_of_comp? hc (CompState.isActive_of_isDrivable (by simpa using hd))
            rw [show (l.entered.view s.enterClosing.slots).anyActive = (l.view s.enterClosing.slots).anyActive from rfl,
              hact] at this
            cases this
          · cases hload'.symm.trans hm
            simp [LoadView.evaluated, LoadRecord.view, LoadRecord.entered]
        exact handOffOnce (l := l.entered) hentered hb hload rfl (hact s.enterClosing.slots)
    · have hsame : s.closeIfDone = s := by simp only [State.closeIfDone, hl, hdone]; rfl
      rw [hsame]
      refine h.unfinish fun m hm hfin => ?_
      cases hview.symm.trans hm
      rw [l.view_finishing, LoadRecord.finishing, Bool.and_eq_true] at hfin
      exact absurd hfin.2 hdone

/-! ### Compartments that leave the active states -/

/-- A compartment that no arm is at work for leaves the active states. -/
theorem leaves {st : CompState} (h : s.Flows x) (hst : st.isActive = false)
    (hn : ∀ a : Fin 4, x.exempt ≠ some a → s.arms[a].served ≠ some n) : (s.view.setComp n st).Core x :=
  h.core.setComp (fun a hx ha => absurd ha (hn a hx))
    (fun a ha hserved => absurd hserved (hn a (h.core.not_exempt ha))) fun hact => by simp [hst] at hact

theorem compDone {f : CompRecord → CompRecord} {c : CompView} (h : s.Flows x) (hf : ∀ c : CompRecord, (f c).view = c.view)
    (hc : s.view.comp? n = some c) (hn : ∀ a : Fin 4, x.exempt ≠ some a → s.arms[a].served ≠ some n) :
    (s.compDone n f).Flows { x with finishing := true } := by
  rw [State.Flows, State.compDone_view hf hc]
  exact (h.leaves rfl hn).finish.lawful_evalComps fun _ _ _ => rfl

theorem compHalted {k : HaltCause} {f : CompRecord → CompRecord} {c : CompView} (h : s.Flows x)
    (hf : ∀ c : CompRecord, (f c).view = c.view) (hc : s.view.comp? n = some c)
    (hn : ∀ a : Fin 4, x.exempt ≠ some a → s.arms[a].served ≠ some n) :
    (s.compHalted n k f).Flows { x with finishing := true } := by
  have hhalted : (s.modifyComp n fun c => { f c with state := .halted, haltCause := some k }).view
      = s.view.setComp n .halted := by
    refine State.modifyComp_view (fun c => ?_) n s
    have hv := hf c
    simp only [CompRecord.view, CompView.mk.injEq] at hv ⊢
    exact ⟨hv.1, hv.2.1, trivial⟩
  have hcomp : (s.view.setComp n .halted).comp? n = some { c with state := .halted } := by
    rw [FlowView.comp?_setComp, hc]; simp
  have hview : (((s.modifyComp n fun c => { f c with state := .halted, haltCause := some k }).compChanged
      n).callCheckpoint).view = (s.view.setComp n .halted).evalComps := by
    rw [State.callCheckpoint_view, State.compChanged_view (by rw [hhalted]; exact hcomp), hhalted]
  have hflows : (((s.modifyComp n fun c => { f c with state := .halted, haltCause := some k }).compChanged
      n).callCheckpoint).Flows x := by
    rw [State.Flows, hview]
    refine (h.leaves rfl hn).lawful_evalComps fun m hm hfin => ?_
    obtain ⟨m', hm', hc'⟩ := FlowView.exists_load hcomp
    cases hm.symm.trans hm'
    rw [LoadView.not_finishing_of_comp? hc' (fun hd => by cases hd)] at hfin
    cases hfin
  unfold State.compHalted; dsimp only; split
  · exact hflows.finish
  split
  · refine hflows.compDone (fun _ => by rfl) (c := { c with state := .halted }) ?_ fun a hx => ?_
    · rw [hview, FlowView.comp?_evalComps]; exact hcomp
    · rw [State.callCheckpoint_arms, State.compChanged_arms]; exact hn a hx
  · exact hflows.finish

/-- No arm serves a compartment that is PENDING or HALTED. -/
theorem not_served {c : CompRecord} (h : s.Flows x) (hc : s.comp? n = some c) (hst : c.state.isActive = false) (a : Fin 4)
    (hx : x.exempt ≠ some a) : s.arms[a].served ≠ some n := fun hn => by
  have hact := (h.core.eq_line_arm hx hn (State.view_comp?_of hc)).2
  exact absurd (hst.symm.trans hact) Bool.false_ne_true

/-- Every PENDING and HALTED compartment goes to DONE (R17, R18). -/
theorem finishIdle (h : s.Flows { x with finishing := true }) : s.finishIdle.Flows { x with finishing := true } := by
  refine foldl (fun t n h => ?_) _ _ h
  split
  · exact h
  rename_i c hc
  have idle (hst : c.state.isActive = false) (f : CompRecord → CompRecord) (hf : ∀ c : CompRecord, (f c).view = c.view) :
      (t.compDone n f).Flows { x with finishing := true } :=
    h.compDone hf (State.view_comp?_of hc) (h.not_served hc hst)
  split
  · exact idle (by simp [*, CompState.isActive]) _ fun _ => rfl
  · exact idle (by simp [*, CompState.isActive]) _ fun _ => rfl
  all_goals exact h

end State.Flows

end Sys2Proof.Machine
end

section
/-! PROOFS. The arms and the flow invariant: an arm takes a compartment, stages and closes it, and drops it once no-flow
is confirmed or the close timer has run out. -/

namespace Sys2Proof.Machine

variable {x : Slack} {s t : State} {n : Nat}

theorem Slack.finishing_of_exempt {a : Fin 4} (hx : x.exempt = none) :
    ({ { { x with exempt := some a } with finishing := true } with exempt := none } : Slack) = { x with finishing := true } := by
  obtain ⟨e, _, _, _, _⟩ := x
  cases hx; rfl

namespace State.Flows

/-! ### Injectors -/

theorem faultComponent {b : Binding} (h : s.Flows x) : (s.faultComponent b).Flows x := by
  unfold State.faultComponent; split
  · exact h
  split
  · exact h.driveClose
  · exact h.of_view (State.modifyResult_view _ _ _)

theorem injectorFault {j : Fin 8} (h : s.Flows x) : (s.injectorFault j).Flows x := by
  have faulted : ((s.discardOwed j).modifyInjector j fun x => { x with state := .fault }).Flows x :=
    h.of_view ((State.modifyInjector_view _ _ _).trans (s.discardOwed_view j))
  unfold State.injectorFault; dsimp only; split
  · exact faulted
  · exact faulted.post.faultComponent

theorem missStroke {j : Fin 8} (h : s.Flows x) : (s.missStroke j).Flows x := by
  have missed : ((s.modifyBound j fun r => { r with missed := r.missed + 1 }).modifyInjector j fun x =>
      { x with output := false, timer := none, consecutive := x.consecutive + 1 }).Flows x :=
    h.of_view ((State.modifyInjector_view _ _ _).trans (State.modifyBound_view _ _ _))
  unfold State.missStroke; dsimp only; split
  · exact missed.injectorFault
  · exact missed.of_view (State.strokeEnded_view _ _)

/-! ### Taking a compartment -/

theorem armTakes {a : Fin 4} {p : Option (Fin 4)} {c : CompView} {l : LoadView} (h : s.Flows x) (hx : x.exempt ≠ some a)
    (hc : s.view.comp? n = some c) (harm : c.arm = a) (hd : c.state.isDrivable = true) (hl : s.view.load = some l)
    (hact : l.state = .active) (hcau : l.causes.isEmpty = true) : (s.armTakes a n p).Flows x := by
  have taken : (s.modifyArm a (Arm.taking n)).Flows x := by
    rw [State.Flows, State.modifyArm_view]
    exact h.take hx hc harm hd hl hact hcau
  unfold State.armTakes; dsimp only; split
  · exact taken.recount.startSettle
  split
  · exact taken.recount.startSettle
  · exact taken.recount.driveClose
  all_goals exact taken.recount

/-- A started compartment makes the load ACTIVE, and its arm takes it (R12, R15, R73). -/
theorem startComp {c : CompRecord} {l : LoadRecord} (h : s.Flows x) (hb : x.begun = true) (hx : x.exempt = none)
    (hl : s.load = some l) (hst : l.state ≠ .closing) (hcau : l.causes.isEmpty = true)
    (hc : l.comp? c.line.compartment = some c) : (s.startComp c).Flows x := by
  have hview := State.view_load_of hl
  have hcv := State.view_comp?_of ((State.comp?_of_load _ hl).trans hc)
  have bound (t : State) (ht : t.view = s.view) (f : CompRecord → CompRecord)
      (hf : ∀ c : CompRecord, (f c).view = ⟨c.line.compartment, c.line.arm, .starting⟩) (p : Option (Fin 4)) :
      (((t.modifyComp c.line.compartment f).compChanged c.line.compartment).armTakes c.line.arm c.line.compartment
        p).Flows x := by
    have hcomp : (s.view.setComp c.line.compartment .starting).comp? c.line.compartment
        = some { c.view with state := .starting } := by
      rw [FlowView.comp?_setComp, hcv]; simp
    have hchanged : ((t.modifyComp c.line.compartment f).compChanged c.line.compartment).view
        = (s.view.setComp c.line.compartment .starting).evalComps := by
      have hm : (t.modifyComp c.line.compartment f).view = s.view.setComp c.line.compartment .starting := by
        rw [State.modifyComp_view hf, ht]
      rw [State.compChanged_view (by rw [hm]; exact hcomp), hm]
    obtain ⟨m, hm, hmc⟩ := FlowView.exists_load hcomp
    have hm' : m = (l.view s.slots).setComp c.line.compartment .starting := by
      rw [FlowView.setComp, hview] at hm; exact (Option.some.inj hm).symm
    have hunfinished : m.finishing = false := LoadView.not_finishing_of_comp? hmc fun hd => by cases hd
    have heval : (s.view.setComp c.line.compartment .starting).evalComps = (s.view.setComp c.line.compartment .starting).eval := by
      rw [FlowView.evalComps, hm, Option.any_some, hunfinished]; rfl
    have hload : ((t.modifyComp c.line.compartment f).compChanged c.line.compartment).view.load
        = some { m with state := m.evaluated } := by
      rw [hchanged, heval, FlowView.eval, hm]; rfl
    have hactive : m.evaluated = .active := by
      have hmst : m.state ≠ .closing := by rw [hm']; exact hst
      have hmcau : m.causes.isEmpty = true := by rw [hm']; exact hcau
      simp [LoadView.evaluated, hmst, hmcau, LoadView.anyActive_of_comp? hmc rfl]
    refine armTakes (c := { c.view with state := .starting }) (l := { m with state := m.evaluated }) ?_ (by simp [hx])
      (by rw [hchanged, FlowView.comp?_evalComps]; exact hcomp) rfl rfl hload hactive (by rw [hm']; exact hcau)
    rw [State.Flows, hchanged, heval]
    refine (h.core.setComp (fun _ _ _ => rfl) (fun _ _ _ => rfl) fun _ => ⟨h.core.begun hb, fun k hk ho => ?_⟩).lawful_eval
    cases hview.symm.trans hk
    exact hst ho.1
  unfold State.startComp; dsimp only; split
  · exact bound _ (State.bindFrom_view ..) _ (fun _ => rfl) _
  · exact bound _ rfl _ (fun _ => rfl) _

/-! ### Closing -/

/-- Only the arm that serves a compartment serves it. -/
theorem not_served_elsewhere {a : Fin 4} {c : CompView} (h : s.Flows x) (hx : x.exempt = none)
    (ha : s.arms[a].served = some n) (hc : s.view.comp? n = some c) (b : Fin 4) (hb : some a ≠ some b) :
    s.arms[b].served ≠ some n := fun hn => by
  have harm := (h.core.eq_line_arm (by simp [hx]) ha hc).1
  exact hb ((congrArg some harm).symm.trans (congrArg some (h.core.eq_line_arm (by simp [hx]) hn hc).1))

theorem not_staging_of {a : Fin 4} (ha : s.arms[a].state = .closing ∨ s.arms[a].state = .fault) :
    (s.view.state a).isStaging = false := by
  obtain ha | ha := ha <;> exact congrArg ArmState.isStaging ha

theorem endClose {a : Fin 4} {c : CompRecord} (h : s.Flows x) (hc : s.view.comp? c.line.compartment = some c.view)
    (hn : ∀ b : Fin 4, x.exempt ≠ some b → s.arms[b].served ≠ some c.line.compartment) :
    (s.endClose a c).Flows { x with finishing := true } := by
  unfold State.endClose; split
  · exact h.compHalted (fun _ => rfl) hc hn
  all_goals exact h.compDone (fun _ => rfl) hc hn

/-- An exempt arm that does not stage drops its compartment. -/
theorem dropped {a : Fin 4} {f : Arm → Arm} (h : s.Flows { { x with exempt := some a } with finishing := true })
    (hx : x.exempt = none) (hf : (f s.arms[a]).served = none ∧ (f s.arms[a]).state.isStaging = false) :
    (s.modifyArm a f).Flows { x with finishing := true } := by
  rw [State.Flows, State.modifyArm_view, hf.1, ← Slack.finishing_of_exempt (a := a) hx]
  exact FlowView.Lawful.drop h rfl hf.2

theorem noFlowConfirmed {a : Fin 4} (h : s.Flows x) (hx : x.exempt = none) (hb : x.begun = true)
    (ha : s.arms[a].state = .closing ∨ s.arms[a].state = .fault) : (s.noFlowConfirmed a).Flows x := by
  unfold State.noFlowConfirmed; split
  · exact h
  rename_i c hserved
  obtain ⟨n, hn, hc⟩ := Option.bind_eq_some_iff.1 hserved
  obtain rfl : c.line.compartment = n := State.comp?_compartment _ hc
  have hcv := State.view_comp?_of hc
  have hclosed : (s.endClose a c).Flows { { x with exempt := some a } with finishing := true } :=
    endClose (FlowView.Lawful.exempt h hx (not_staging_of ha)) hcv (h.not_served_elsewhere hx hn hcv)
  refine closeIfDone (recount (dropped (hclosed.of_view (State.learn_view _ _ _)) hx ⟨rfl, ?_⟩)) hb
  unfold Arm.released; dsimp only; split <;> rfl

theorem closeExpired {a : Fin 4} (h : s.Flows x) (hx : x.exempt = none) (hb : x.begun = true)
    (ha : s.arms[a].state = .closing ∨ s.arms[a].state = .fault) (hn : s.arms[a].served = some n) :
    (s.closeExpired a n).Flows x := by
  obtain ⟨c, hc, _⟩ := h.core.served a n (by simp [hx]) hn
  unfold State.closeExpired
  have exempt : State.Flows { x with exempt := some a } s := FlowView.Lawful.exempt h hx (not_staging_of ha)
  refine closeIfDone (recount (dropped (exempt.post.compDone (c := c) (fun c => ?_) hc
    (h.not_served_elsewhere hx hn hc)) hx ⟨rfl, rfl⟩)) hb
  unfold CompRecord.leaked; split <;> rfl

theorem noFlowCount {a : Fin 4} {k : Nat} (h : s.Flows x) (hx : x.exempt = none) (hb : x.begun = true)
    (ha : s.arms[a].state = .closing ∨ s.arms[a].state = .fault) : (s.noFlowCount a k).Flows x := by
  unfold State.noFlowCount; dsimp only; split
  · have counted : (s.modifyArm a fun x => { x with zeroRun := x.zeroRun + 1 }).Flows x := h.modifyArm ⟨rfl, id⟩
    split
    · exact counted.noFlowConfirmed hx hb (by simpa using ha)
    · exact counted
  · exact h.modifyArm ⟨rfl, id⟩

/-! ### The gate -/

theorem presetClose {a : Fin 4} {c : CompRecord} {g : GateFigures} (h : s.Flows x) : (s.presetClose a c g).Flows x := by
  unfold State.presetClose; dsimp only
  exact modifyArm (driveClose (h.of_view (State.modifyComp_view_of (fun _ => by rfl) _ _))) ⟨rfl, id⟩

/-- An arm moves from stage to stage with its compartment (R76, R77). -/
theorem stageArm {a : Fin 4} {st : ArmState} {v : Valve} {hold : Bool} {cs : CompState} (h : s.Flows x)
    (ha : s.arms[a].state.isStaging = true) (hn : s.arms[a].served = some n) (hst : st.isStaging = true)
    (hcs : cs.isDrivable = true) : (s.stageArm a n st v hold cs).Flows x := by
  have moved : (s.modifyArm a fun x => { x with state := st, valve := v, hold }).Flows x := h.modifyArm ⟨rfl, fun _ => ha⟩
  exact moved.staged (a := a) (by simpa using hst) (by simpa using hn) (fun _ => rfl) hcs

theorem compare {a : Fin 4} {c : CompRecord} {g : GateFigures} (h : s.Flows x) (ha : s.arms[a].state.isStaging = true)
    (hn : s.arms[a].served = some c.line.compartment) : (s.compare a c g).Flows x := by
  unfold State.compare State.leaveLow; dsimp only; split
  · exact h.presetClose
  split
  · (repeat' split)
    · exact h.stageArm ha hn rfl rfl
    · exact h.stageArm ha hn rfl rfl
    · exact h.stageArm ha hn rfl rfl
    · exact h
  · (repeat' split)
    · exact h.stageArm ha hn rfl rfl
    · exact h
    · exact h.modifyArm ⟨rfl, id⟩
  all_goals exact h

theorem armGate {a : Fin 4} {k : Nat} {g : GateFigures} (h : s.Flows x) (hx : x.exempt = none) (hb : x.begun = true)
    (hn : s.arms[a].served = some n) : (s.armGate a n k g).Flows x := by
  unfold State.armGate; split
  · exact h
  rename_i c hc
  obtain rfl : c.line.compartment = n := State.comp?_compartment _ hc
  split
  · exact h.compare (by rw [‹s.arms[a].state = _›]; rfl) hn
  · exact h.compare (by rw [‹s.arms[a].state = _›]; rfl) hn
  · exact h.compare (by rw [‹s.arms[a].state = _›]; rfl) hn
  · exact h.noFlowCount hx hb (.inl ‹_›)
  · exact h.noFlowCount hx hb (.inr ‹_›)
  all_goals exact h

theorem strayCheck {a : Fin 4} (h : s.Flows x) : (s.strayCheck a).Flows x := by
  unfold State.strayCheck; split
  · exact h.armFault.post
  · exact h

theorem judgeGate {m : Fin 4} {f b e : Nat} (h : s.Flows x) : (s.judgeGate m f b e).Flows x := by
  unfold State.judgeGate; split
  · exact h.post.armFault
  · exact h

theorem repay {m : Fin 4} {f b : Nat} (h : s.Flows x) : (s.repay m f b).Flows x := by
  unfold State.repay; dsimp only; split
  · exact armFault h
  · exact h

theorem tempDrive {m : Fin 4} (h : s.Flows x) : (s.tempDrive m).Flows x := by
  unfold State.tempDrive; split
  · exact h
  split
  · exact h
  split
  · exact h.driveClose
  · exact h

theorem followGate {m : Fin 4} {k f b : Nat} {g : GateFigures} (h : s.Flows x) (hx : x.exempt = none) (hb : x.begun = true)
    (hn : s.arms[m].served = some k) : (s.followGate m k f b g).Flows x := by
  have worked : (if s.phase = .powerDown then s else (s.strokesDue m k).armGate m k f g).Flows x := by
    split
    · exact h
    · refine armGate (h.of_view (State.strokesDue_view m k s)) hx hb ?_
      exact (congrFun (congrArg FlowView.served (State.strokesDue_view m k s)) m).trans hn
  unfold State.followGate; dsimp only; split
  · exact worked.post
  · exact worked

theorem gate {m : Fin 4} (h : s.Flows x) (hx : x.exempt = none) (hb : x.begun = true) : (s.gate m).Flows x := by
  have route {t : State} {f : Nat} {r : Bool} {g : GateFigures} {y : Meter → Meter} (h : t.Flows x) :
      ((t.modifyMeter m y).route m (t.routed m) f r g).Flows x := by
    unfold State.route; split
    · rename_i c hc
      obtain ⟨n, hn, hc, _⟩ := State.routed_eq_some.1 hc
      obtain rfl : c.line.compartment = n := State.comp?_compartment _ hc
      exact followGate ((show (t.modifyMeter m y).Flows x from h).of_view
        (State.modifyComp_view_of (fun _ => by rfl) _ _)) hx hb hn
    · have strayed : ((t.modifyMeter m y).modifyArm m fun x =>
          { x with stray := satAdd (2 ^ 32 - 1) x.stray g.gross }).Flows x :=
        modifyArm (show (t.modifyMeter m y).Flows x from h) ⟨rfl, id⟩
      dsimp only; split
      · exact strayed
      · exact strayed.strayCheck
  have judged : ((((s.modifyMeter m fun x => { x with forward := 0, backward := 0, errors := 0, gateTimer := some 100 }).judgeGate m
      s.meters[m].forward s.meters[m].backward s.meters[m].errors).repay m s.meters[m].forward
      s.meters[m].backward).tempDrive m).Flows x :=
    (show (s.modifyMeter m fun x => { x with forward := 0, backward := 0, errors := 0, gateTimer := some 100 }).Flows x
      from h).judgeGate.repay.tempDrive
  unfold State.gate State.crossing; dsimp only; split
  · exact (route judged).callCheckpoint
  · exact route judged

end State.Flows

end Sys2Proof.Machine
end

section
/-! PROOFS. The owners of requests keep the flow invariant. -/

namespace Sys2Proof.Machine

variable {x : Slack} {s t : State} {n : Nat}

/-- The slot of a stored note is STORED. -/
theorem State.stored_of_storedSlot {i : Fin 8} (h : s.storedSlot n = some i) : s.slots[i].state = .stored := by
  have := List.find?_some h
  rw [Bool.and_eq_true, beq_iff_eq] at this
  exact this.1

/-- Once ESD has been put in, it stands in the causes of the load. -/
theorem State.addCause_esd {m : LoadView} (hm : (s.addCause .esd).view.load = some m) : m.causes.esd = true := by
  cases hl : s.load with
  | none => rw [State.addCause_without_load hl, s.view_load, hl] at hm; cases hm
  | some l =>
    cases hk : l.causes.has .esd with
    | true =>
      rw [State.addCause_of_has hl hk, State.view_load_of hl] at hm
      cases hm; exact hk
    | false =>
      rw [State.addCause_of_not_has hl hk, State.postCause_view, State.imagePoint_view, State.evalLoad_view,
        State.putCause_view] at hm
      simp only [FlowView.eval, Option.map_map, Option.map_eq_some_iff] at hm
      obtain ⟨l', _, rfl⟩ := hm
      rfl

namespace State.Flows

/-- A record other than a commit record joins the queue. -/
theorem enqueue {r : Record} (h : s.Flows x) (hr : r.isCommit = false) : (s.enqueue r).Flows x :=
  h.of_view (State.enqueue_view hr s)

/-- A slot changes that is COMPOSING neither before nor after. -/
theorem modifySlot {i : Fin 8} {f : Slot → Slot} (h : s.Flows x)
    (hf : ((f s.slots[i]).state = .composing) = (s.slots[i].state = .composing)) : (s.modifySlot i f).Flows x :=
  h.of_view (State.modifySlot_view hf)

theorem dropContext {r : Reason} (h : s.Flows x) : (s.dropContext r).Flows x := by
  unfold State.dropContext; split
  · exact h
  · exact FlowView.Lawful.dropContext h

/-! ### The safety unit -/

theorem reportPermissives {p : Permissives} (h : s.Flows x) : (s.reportPermissives p).Flows x := by
  have reported : ({ s with safety := s.safety.report p } : State).Flows x := h
  unfold State.reportPermissives; dsimp only; split
  · exact reported.judgePermissive
  · exact reported.post.judgePermissive

theorem goStale (h : s.Flows x) : s.goStale.Flows x := judgePermissive h

theorem stopArms {k : ArmMask} (h : s.Flows x) : (s.stopArms k).Flows x := by
  refine foldl (fun t a h => ?_) _ _ h
  split
  · split
    · exact h
    · exact h.driveClose
  · exact h

theorem shutDown (h : s.Flows x) : s.shutDown.Flows x := by
  refine of_view (s := ((s.driveAll (.halt .esd)).mapArms fun x => { x.driven with valve := .closed }).mapPumps Pump.shutDown)
    (mapPumps (mapArms h.driveAll fun y => ⟨?_, fun hs => ?_⟩)) (State.cutStrokes_view _)
  · dsimp only; unfold Arm.driven; split <;> rfl
  · dsimp only at hs; unfold Arm.driven at hs; split at hs
    · exact absurd hs Bool.false_ne_true
    · exact hs

/-- The latch is set, and ESD enters the causes behind it (R124). -/
theorem setEsd (h : s.Flows x) : s.setEsd.Flows x := by
  have latched : ({ s with safety := { s.safety with esdLatch := true } } : State).Flows { x with latched := false } :=
    FlowView.Lawful.setLatch h
  have raised : ((({ s with safety := { s.safety with esdLatch := true } } : State).shutDown).addCause .esd).Flows x :=
    FlowView.Lawful.relatch latched.shutDown.addCause fun _ _ => State.addCause_esd
  unfold State.setEsd; dsimp only; split
  · exact raised
  · exact raised.post

theorem esdInput {on : Bool} (h : s.Flows x) : (s.esdInput on).Flows x := by
  have seen : ({ s with safety := { s.safety with esdInput := some on } } : State).Flows x := h
  unfold State.esdInput; dsimp only; split
  · exact seen.setEsd
  · exact seen

theorem restartPumps (h : s.Flows x) : s.restartPumps.Flows x :=
  foldl (fun _ _ h => by split; exacts [h.startPump, h]) _ _ h

theorem ownEsdReset (h : s.Flows x) : (Machine.ownEsdReset s).1.Flows x := by
  unfold Machine.ownEsdReset; dsimp only [refuse, reply]; split
  · exact h
  · have cleared : ({ s with safety := { s.safety with esdLatch := false } } : State).Flows x :=
      FlowView.Lawful.clearLatch h
    dsimp only
    exact (removeCause (c := .esd) cleared (.inr rfl)).restartPumps.post

theorem renew (h : s.Flows x) : s.renew.Flows x := by
  have renewed : ({ s with safety := s.safety.renewed } : State).Flows x := h
  exact (renewed.mapArms (f := fun y => { y with hold := false }) fun _ => ⟨rfl, id⟩).removeCause (.inl (by decide))

theorem held {a : Arm} : a.held.served = a.served ∧ (a.held.state.isStaging = true → a.state.isStaging = true) := by
  unfold Arm.held; split <;> exact ⟨rfl, id⟩

theorem firstExpiry (h : s.Flows x) : s.firstExpiry.Flows x := by
  have warned : ({ s with safety :=
      { s.safety with stage := .warning, horn := true, armed := false, timer := s.safety.warning * 1000 } } : State).Flows x := h
  exact (warned.mapArms fun _ => held).post

theorem secondExpiry (h : s.Flows x) : s.secondExpiry.Flows x :=
  addCause (s := { s with safety := { s.safety with stage := .expired, timer := 0 } }) h

theorem ownDeadman {k : Nat} (h : s.Flows x) : (Machine.ownDeadman k s).1.Flows x := by
  unfold Machine.ownDeadman State.deadmanReply; split
  · exact h
  · split
    · exact h.renew
    · exact h
  · exact h

theorem ownStopAll {k : ArmMask} (h : s.Flows x) : (Machine.ownStopAll k s).1.Flows x := by
  unfold Machine.ownStopAll; split
  · exact h
  split
  · exact addCause (s := { s with safety := { s.safety with stopAllLatch := true } }) h
  · exact h.stopArms

theorem ownResume (h : s.Flows x) : (Machine.ownResume s).1.Flows x := by
  unfold Machine.ownResume; split
  · exact h
  · exact removeCause (s := { s with safety := { s.safety with stopAllLatch := false } }) h (.inl (by decide))

theorem ownPermissiveReport {a b c : FlagValue} (h : s.Flows x) : (Machine.ownPermissiveReport a b c s).1.Flows x := by
  unfold Machine.ownPermissiveReport; split
  · exact h
  · exact h.reportPermissives

theorem ownDeadmanConfig {a b : Nat} (h : s.Flows x) : (Machine.ownDeadmanConfig a b s).1.Flows x := by
  unfold Machine.ownDeadmanConfig; (repeat' split) <;> (try exact h)
  exact enqueue (s := { s with safety := { s.safety with period := a, warning := b } }) h rfl

/-! ### The load -/

theorem ownCompartmentStart (h : s.Flows x) (hb : x.begun = true) (hx : x.exempt = none) :
    (Machine.ownCompartmentStart n s).1.Flows x := by
  unfold Machine.ownCompartmentStart; split
  · exact h
  rename_i l hl
  split
  · exact h
  rename_i hst
  split
  · exact h
  rename_i c hc
  split
  · exact h
  rename_i hcau
  (repeat' split) <;> (try exact h)
  obtain rfl : c.line.compartment = n := LoadRecord.comp?_compartment hc
  exact h.startComp hb hx hl hst (by simpa using hcau) hc

theorem ownCompartmentStop (h : s.Flows x) : (Machine.ownCompartmentStop n s).1.Flows x := by
  unfold Machine.ownCompartmentStop; (repeat' split) <;> (try exact h)
  exact h.driveClose

theorem ownLoadFinish (h : s.Flows x) (hb : x.begun = true) : (Machine.ownLoadFinish s).1.Flows x := by
  unfold Machine.ownLoadFinish; (repeat' split) <;> (try exact h)
  exact (finishIdle (FlowView.Lawful.finish h)).closeIfDone hb

theorem ownLoadResume (h : s.Flows x) : (Machine.ownLoadResume s).1.Flows x := by
  unfold Machine.ownLoadResume; (repeat' split) <;> (try exact h)
  exact h.removeCause (.inl (by decide))

/-- After the drive no arm stages for the load that has entered CLOSING (R18). -/
theorem ownLoadAbort (h : s.Flows x) (hb : x.begun = true) : (Machine.ownLoadAbort s).1.Flows x := by
  unfold Machine.ownLoadAbort; (repeat' split) <;> (try exact h)
  have finished : s.enterClosing.finishIdle.Flows { { x with finishing := true } with staged := false } :=
    finishIdle (x := { x with staged := false }) (FlowView.Lawful.finish h.enterClosing)
  have driven : (s.enterClosing.finishIdle.driveAll (.halt .abort)).Flows { x with finishing := true } :=
    FlowView.Lawful.restage finished.driveAll fun _ _ => State.driveAll_not_drivable _ _
  exact driven.closeIfDone hb

theorem amendLoad {c : CompRecord} {k : Nat} (h : s.Flows x) (hb : x.begun = true)
    (hc : s.comp? c.line.compartment = some c) : (s.amendLoad c k).1.Flows x := by
  have replaced : (s.modifyComp c.line.compartment (CompRecord.withPreset k)).imagePoint.Flows x :=
    imagePoint (h.of_view (State.modifyComp_view_of (f := CompRecord.withPreset k) (fun _ => rfl) _ _))
  have clamped : (s.modifyComp c.line.compartment (CompRecord.clampedTo k)).Flows x :=
    h.of_view (State.modifyComp_view_of (f := CompRecord.clampedTo k) (fun _ => rfl) _ _)
  unfold State.amendLoad; dsimp only [refuse, reply]
  split
  · exact replaced
  iterate 4
    split
    · exact replaced
    · exact clamped.driveClose
  · rename_i hst
    split
    · exact replaced
    · dsimp only
      exact (h.compDone (f := CompRecord.clampedTo k) (fun _ => rfl) (State.view_comp?_of hc)
        (h.not_served hc (by rw [hst]; rfl))).closeIfDone hb
  all_goals exact h

theorem ownOrderAmend {a k v : Nat} (h : s.Flows x) (hb : x.begun = true) :
    (Machine.ownOrderAmend a k v s).1.Flows x := by
  unfold Machine.ownOrderAmend; (repeat' split) <;> (try exact h)
  rename_i c hc
  obtain rfl : c.line.compartment = k := State.comp?_compartment _ hc
  exact h.amendLoad hb hc

theorem initial_anyActive (ls : List OrderLine) : ((ls.map CompRecord.initial).any fun c => c.state.isActive) = false := by
  simp [List.any_eq_false, CompRecord.initial, CompState.isActive]

/-- The opening of a load, under a context that stands only while no load is open (R10, R39). -/
theorem openLoad {k : Nat} {e : PermitEntry} {r : Order} {i : Fin 8} (h : s.Flows x) (hb : x.begun = true)
    (hc : s.context.isSome = true) : (s.openLoad k e r i).Flows x := by
  have hnone : s.view.load = none := h.core.context hc
  have hquiet := h.core.quiet fun m hm => by rw [hnone] at hm; cases hm
  have hk : s.view.commits = 0 := by
    by_contra hk
    obtain ⟨m, hm, _⟩ := h.core.committing (Nat.pos_of_ne_zero hk)
    rw [hnone] at hm; cases hm
  have hview : (s.openLoad k e r i).view = { s.view with
      load := some { (s.openedLoad k e r i).view s.slots with composing := false }, context := false } := by
    unfold State.openLoad; dsimp only
    rw [State.post_view, State.post_view, State.imagePoint_view]
    refine (State.modifySlot_load_view (l := s.openedLoad k e r i) rfl _).trans ?_
    rw [State.enqueue_view rfl]; rfl
  have hact : LoadView.anyActive { (s.openedLoad k e r i).view s.slots with composing := false } = false :=
    ((s.openedLoad k e r i).view_anyActive s.slots).trans (initial_anyActive r.lines)
  rw [State.Flows, hview]
  refine ⟨h.core.replace (k := s.view.commits) hquiet (fun _ hv m hm => ?_) (fun hx => absurd hx Bool.false_ne_true)
    (fun hp => by simp [hk] at hp) (fun m hm hx => ?_) h.core.oneCommit (fun hx => by simp [h.core.begun hb] at hx),
    fun m hm => .inl ?_⟩
  · cases hm; exact hv
  · cases hm; exact absurd hx Bool.false_ne_true
  · cases hm
    simp only [LoadView.evaluated, hact]
    simp only [LoadRecord.view, State.openedLoad]
    by_cases he : s.safety.openingCauses.isEmpty = true <;> simp [he]

theorem ownOrderSelect (h : s.Flows x) (hb : x.begun = true) : (Machine.ownOrderSelect n s).1.Flows x := by
  unfold Machine.ownOrderSelect; split
  · exact h
  rename_i y hy
  (repeat' split) <;> (try exact h)
  · exact h.dropContext
  · exact h.openLoad hb (by rw [hy]; rfl)

/-! ### The permit unit and the note unit -/

theorem setPermit {e : PermitEntry} (h : s.Flows x) : (s.setPermit e).1.Flows x := by
  unfold State.setPermit; split
  · exact h
  · exact enqueue (s := { s with permits := withPermit e.content.card (some e) s.permits }) h rfl

theorem setPermitState {k : Nat} {y : PermitState} (h : s.Flows x) : (s.setPermitState k y).1.Flows x := by
  unfold State.setPermitState; split
  · exact h
  · exact h.setPermit

theorem ownPermitPut {e : PermitArg} (h : s.Flows x) : (Machine.ownPermitPut e s).1.Flows x := by
  unfold Machine.ownPermitPut; dsimp only; (repeat' split) <;> (try exact h) <;> (try exact h.setPermit)
  rename_i c _ _ _ _ _
  exact enqueue (s := { s with permits := s.permits ++ [{ content := c, inUse := false, action := .none }] }) h rfl

theorem ownPermitDelete {k : Nat} (h : s.Flows x) : (Machine.ownPermitDelete k s).1.Flows x := by
  unfold Machine.ownPermitDelete; dsimp only; split
  · exact h
  split
  · exact h.setPermit
  split
  · exact h
  have removed : (({ s with permits := withPermit k none s.permits } : State).enqueue (.permit k none true)).Flows x :=
    enqueue (s := { s with permits := withPermit k none s.permits }) h rfl
  dsimp only [reply]; split
  · exact removed.dropContext
  · exact removed

/-- A context stands only where the card met no load (R33). -/
theorem ownCardPresent {k : Nat} (h : s.Flows x) : (Machine.ownCardPresent k s).1.Flows x := by
  unfold Machine.ownCardPresent; split
  · exact h.post
  · rename_i hd
    have hnone : s.load = none := by
      unfold State.denied at hd
      split at hd
      · cases hd
      split at hd
      · cases hd
      · simp_all
    exact FlowView.Lawful.grantContext h (by rw [s.view_load, hnone]; rfl)

theorem ownCardWithdraw (h : s.Flows x) : (Machine.ownCardWithdraw s).1.Flows x := by
  unfold Machine.ownCardWithdraw; split
  · exact h
  · exact h.dropContext

theorem ownNoteConfig {k : Nat} (h : s.Flows x) : (Machine.ownNoteConfig k s).1.Flows x := by
  unfold Machine.ownNoteConfig; (repeat' split) <;> (try exact h)
  exact enqueue (s := { s with holdMinutes := k }) h rfl

theorem ownNotePrinted {k : Nat} (h : s.Flows x) : (Machine.ownNotePrinted k s).1.Flows x := by
  unfold Machine.ownNotePrinted; dsimp only [refuse, reply]; split
  · exact h
  · dsimp only; exact h.modifySlot rfl

theorem freeNote {i : Fin 8} {k : Nat} (h : s.Flows x) (hi : s.slots[i].state = .stored) : (s.freeNote i k).Flows x := by
  have freed : ((s.modifySlot i fun _ => Slot.freed).enqueue (.release i)).Flows x :=
    enqueue (h.modifySlot (by rw [hi]; simp [Slot.freed])) rfl
  exact freed

theorem ownNoteRelease {k : Nat} (h : s.Flows x) : (Machine.ownNoteRelease k s).1.Flows x := by
  unfold Machine.ownNoteRelease; (repeat' split) <;> (try exact h)
  exact h.freeNote (State.stored_of_storedSlot ‹_›)

theorem setReader {p : Port} {r : Reader} (h : s.Flows x) : (s.setReader p r).Flows x := by
  unfold State.setReader; split <;> exact h

theorem ownNoteOpen {p : Port} {k a b d : Nat} (h : s.Flows x) : (Machine.ownNoteOpen p k a b d s).1.Flows x := by
  unfold Machine.ownNoteOpen; (repeat' split) <;> (try exact h)
  exact h.setReader

theorem ownNoteRead {p : Port} (h : s.Flows x) : (Machine.ownNoteRead p s).1.Flows x := by
  unfold Machine.ownNoteRead; (repeat' split) <;> (try exact h)
  all_goals exact h.setReader

/-! ### Tables, equipment and calibration -/

theorem ownProductPut {e : ProductArg} (h : s.Flows x) : (Machine.ownProductPut n e s).1.Flows x := by
  unfold Machine.ownProductPut; (repeat' split) <;> (try exact h)
  rename_i code entry _ _ _ _
  exact enqueue (s := { s with products := s.products.set code entry }) h rfl

theorem ownRecipePut {d : YesNo} {cs : List ComponentArg} (h : s.Flows x) : (Machine.ownRecipePut n d cs s).1.Flows x := by
  unfold Machine.ownRecipePut; (repeat' split) <;> (try exact h)
  rename_i i d' cs' _ _ _ _ _
  exact enqueue (s := { s with recipes := s.recipes.set i { defined := d', components := cs' } }) h rfl

theorem ownOrderBegin {k : Nat} {b c : Option Nat} (h : s.Flows x) : (Machine.ownOrderBegin n b c k s).1.Flows x := by
  unfold Machine.ownOrderBegin; (repeat' split) <;> exact h

/-- A change of a standing context. -/
theorem mapContext {f : Context → Context} (h : s.Flows x) : ({ s with context := s.context.map f } : State).Flows x :=
  h.of_view (State.view_congr (fun _ => ⟨rfl, rfl⟩) rfl rfl Option.isSome_map rfl rfl rfl rfl)

theorem postStaged {g : Staging} (h : s.Flows x) : (s.postStaged g).1.Flows x := by
  unfold State.postStaged; dsimp only; split
  · exact h
  · split
    · exact h
    · exact mapContext h

theorem ownOrderLine {l : LineArg} (h : s.Flows x) : (Machine.ownOrderLine n l s).1.Flows x := by
  unfold Machine.ownOrderLine; dsimp only; (repeat' split) <;> (try exact h)
  exact h.postStaged

theorem ownOrderCancel (h : s.Flows x) : (Machine.ownOrderCancel n s).1.Flows x := by
  unfold Machine.ownOrderCancel; (repeat' split) <;> (try exact h)
  exact mapContext h

theorem ownInjectorAssign {j a d v : Nat} (h : s.Flows x) : (Machine.ownInjectorAssign j a d v s).1.Flows x := by
  unfold Machine.ownInjectorAssign; dsimp only [refuse, reply]; (repeat' split) <;> (try exact h)
  all_goals exact enqueue (of_view h (State.modifyInjector_view _ _ _)) rfl

theorem ownInjectorReset {j : Nat} (h : s.Flows x) : (Machine.ownInjectorReset j s).1.Flows x := by
  unfold Machine.ownInjectorReset; dsimp only [refuse, reply]; (repeat' split) <;> exact h

theorem ownArmConfig {a : Nat} {c : ArmArg} (h : s.Flows x) : (Machine.ownArmConfig a c s).1.Flows x := by
  unfold Machine.ownArmConfig; (repeat' split) <;> (try exact h)
  exact enqueue (modifyArm h ⟨rfl, id⟩) rfl

theorem cleared {a : Arm} : a.cleared.served = a.served ∧ (a.cleared.state.isStaging = true → a.state.isStaging = true) := by
  unfold Arm.cleared; split
  · exact ⟨rfl, fun hs => absurd hs Bool.false_ne_true⟩
  all_goals exact ⟨rfl, id⟩

theorem ownArmClear {k : ArmMask} (h : s.Flows x) : (Machine.ownArmClear k s).1.Flows x := by
  unfold Machine.ownArmClear; (repeat' split) <;> (try exact h)
  exact h.modifyArms fun _ => cleared

theorem setBlocked {k : ArmMask} {b : Bool} (h : s.Flows x) : (s.setBlocked k b).1.Flows x := by
  unfold State.setBlocked; dsimp only [refuse, reply]; (repeat' split) <;> (try exact h)
  exact enqueue (modifyArms h fun _ => ⟨rfl, id⟩) rfl

theorem ownPumpConfig {p : Nat} {c : PumpArg} (h : s.Flows x) : (Machine.ownPumpConfig p c s).1.Flows x := by
  unfold Machine.ownPumpConfig; (repeat' split) <;> (try exact h)
  exact enqueue h.modifyPump rfl

theorem ownPumpReset {p : Nat} (h : s.Flows x) : (Machine.ownPumpReset p s).1.Flows x := by
  unfold Machine.ownPumpReset; dsimp only [refuse, reply]; (repeat' split) <;> exact h

theorem ownMeterErrors {m : Nat} (h : s.Flows x) : (Machine.ownMeterErrors m s).1.Flows x := by
  unfold Machine.ownMeterErrors; dsimp only [refuse, reply]; split <;> exact h

theorem ownMeterClearDebt {m : Nat} (h : s.Flows x) : (Machine.ownMeterClearDebt m s).1.Flows x := by
  unfold Machine.ownMeterClearDebt; dsimp only [refuse, reply]; (repeat' split) <;> exact h

theorem ownTimeSet {d k : Nat} (h : s.Flows x) : (Machine.ownTimeSet d k s).1.Flows x := by
  unfold Machine.ownTimeSet; split <;> exact h

theorem ownCalWrite {k : Nat} {v : CalValueArg} (h : s.Flows x) : (Machine.ownCalWrite k v s).1.Flows x := by
  unfold Machine.ownCalWrite; (repeat' split) <;> (try exact h)
  refine enqueue ?_ rfl
  unfold State.zeroRemI; split <;> exact h

/-- Every owner keeps the flow invariant (R168). -/
theorem owner {i : Instr} (h : s.Flows x) (hb : x.begun = true) (hx : x.exempt = none) : (ownerOf i s).1.Flows x := by
  cases i <;> simp only [ownerOf]
  case eventRead w => rw [ownEventRead_eq]; exact h
  case productPut => exact h.ownProductPut
  case orderBegin => exact h.ownOrderBegin
  case orderLine => exact h.ownOrderLine
  case orderCancel => exact h.ownOrderCancel
  case orderAmend => exact h.ownOrderAmend hb
  case compartmentStart => exact h.ownCompartmentStart hb hx
  case compartmentStop => exact h.ownCompartmentStop
  case loadFinish => exact h.ownLoadFinish hb
  case loadResume => exact h.ownLoadResume
  case loadAbort => exact h.ownLoadAbort hb
  case timeSet => exact h.ownTimeSet
  case permitPut => exact h.ownPermitPut
  case permitDelete => exact h.ownPermitDelete
  case permitBlock => exact h.setPermitState
  case permitUnblock => exact h.setPermitState
  case careMaskSet => exact h
  case cardPresent => exact h.ownCardPresent
  case cardWithdraw => exact h.ownCardWithdraw
  case orderSelect => exact h.ownOrderSelect hb
  case armConfig => exact h.ownArmConfig
  case armClear => exact h.ownArmClear
  case armBlock => exact h.setBlocked
  case armUnblock => exact h.setBlocked
  case pumpConfig => exact h.ownPumpConfig
  case pumpReset => exact h.ownPumpReset
  case injectorAssign => exact h.ownInjectorAssign
  case injectorReset => exact h.ownInjectorReset
  case recipePut => exact h.ownRecipePut
  case deadmanConfig => exact h.ownDeadmanConfig
  case deadman => exact h.ownDeadman
  case permissiveReport => exact h.ownPermissiveReport
  case stopAll => exact h.ownStopAll
  case resume => exact h.ownResume
  case esdReset => exact h.ownEsdReset
  case meterErrors => exact h.ownMeterErrors
  case meterClearDebt => exact h.ownMeterClearDebt
  case calWrite => exact h.ownCalWrite
  case noteConfig => exact h.ownNoteConfig
  case noteRelease => exact h.ownNoteRelease
  case notePrinted => exact h.ownNotePrinted
  case noteOpen => exact h.ownNoteOpen
  case noteRead => exact h.ownNoteRead
  case statusRead => rwa [ownStatusRead_state]
  case totalsRead => rwa [ownTotalsRead_state]
  case productRead => rwa [ownProductRead_state]
  case permitRead => rwa [ownPermitRead_state]
  case orderList => rwa [ownOrderList_state]
  case recipeRead => rwa [ownRecipeRead_state]
  case calRead => rwa [ownCalRead_state]
  all_goals exact h

end State.Flows

end Sys2Proof.Machine
end

section
/-! PROOFS. Every step keeps the flow invariant (O6): the rows that are no requests, the restarts, and the step itself. -/

namespace Sys2Proof.Machine

variable {x : Slack} {s t : State} {n : Nat}

/-- Timers run once start-up is over (R185). -/
theorem State.starting_of_timersRun (h : s.timersRun = true) : s.view.starting = false := by
  rw [← Bool.not_eq_true, State.view_starting]
  intro hp
  simp [State.timersRun, hp] at h

/-! ### Writes -/

theorem State.releaseLoad_view (s : State) : s.releaseLoad.view = { s.view with load := none } := rfl

theorem State.committed_view (slot : Fin 8) (note : Note) (serial : Nat) (s : State) :
    (s.committed (.commit slot note serial)).view = { s.view with load := none } := by
  show State.view (State.releaseLoad _) = _
  rw [State.releaseLoad_view]; rfl

namespace State.Flows

theorem postDone {r : Record} (h : s.Flows x) : (s.postDone r).Flows x := by
  unfold State.postDone; split <;> exact h

/-- A record that waited outside the queue joins it: no commit record waits there (R182). -/
theorem granted {r : Record} (h : s.Flows x) (hr : r.isCommit = false) {u : State}
    (hu : u.view = { (s.enqueue r).view with owed := false }) : u.Flows x := by
  rw [State.Flows, hu, State.enqueue_view hr]
  exact FlowView.Lawful.settle h

theorem grantLast (h : s.Flows x) : s.grantLast.Flows x := by
  unfold State.grantLast; split
  · exact modifyArm (h.enqueue rfl) ⟨rfl, id⟩
  split
  · exact h
  · rename_i r rest hrest
    obtain ⟨hcharge, hback⟩ := State.view_owed_eq_false.1 h.core.noneOwed
    rw [hrest] at hback
    refine h.granted (r := r) (hback r (List.mem_cons_self ..)) ?_
    have howed : ({ s.enqueue r with backlog := rest } : State).view.owed = false :=
      State.view_owed_eq_false.2 ⟨hcharge, fun q hq => hback q (List.mem_cons_of_mem _ hq)⟩
    rw [← howed]; rfl

theorem grantCommit (h : s.Flows x) : s.grantCommit.Flows x := by
  unfold State.grantCommit; split
  · exact h.queueCommit ‹_›
  split
  · exact h.enqueue (r := .checkpoint s.totals) rfl
  · exact h.grantLast

theorem grant (h : s.Flows x) : s.grant.Flows x := by
  unfold State.grant; split
  · exact h.enqueue (r := .image _) rfl
  unfold State.grantCharge; split
  · rename_i r hr
    obtain ⟨hcharge, hback⟩ := State.view_owed_eq_false.1 h.core.noneOwed
    refine h.granted (r := r) (hcharge r hr) ?_
    have howed : ({ s.enqueue r with chargeOwed := none } : State).view.owed = false :=
      State.view_owed_eq_false.2 ⟨(fun _ hq => nomatch hq), hback⟩
    rw [← howed]; rfl
  · exact h.grantCommit

/-- The head record leaves the queue; where it is the commit record, no other waits and the load is released (R155, R20). -/
theorem headWritten {r : Record} {rest : List Record} {u : State} {w : Bool} {m : Audit} {k : Nat} (h : s.Flows x)
    (hq : s.queue = r :: rest) (hu : u = { s with queue := rest, writing := w, audit := m, startRecords := k }) :
    ((u.postDone r).committed r).Flows x := by
  have hview : u.view = { s.view with commits := rest.countP Record.isCommit } := by rw [hu]; rfl
  have hdone : (u.postDone r).view = u.view := by unfold State.postDone; split <;> rfl
  have hcount : s.view.commits = rest.countP Record.isCommit + if r.isCommit then 1 else 0 := by
    rw [State.view, hq, List.countP_cons]
  cases hr : r.isCommit with
  | false =>
    have hsame : (u.postDone r).committed r = u.postDone r := by
      cases r with
      | commit => exact nomatch hr
      | _ => rfl
    rw [hr] at hcount
    rw [hsame, State.Flows, hdone, hview, show rest.countP Record.isCommit = s.view.commits from hcount.symm]
    exact h
  | true =>
    cases r <;> simp only [Record.isCommit, Bool.false_eq_true] at hr
    rename_i slot note serial
    have hone := h.core.oneCommit
    simp only [Record.isCommit, if_true] at hcount
    have hzero : rest.countP Record.isCommit = 0 := by omega
    obtain ⟨m, hm, ho⟩ := h.core.committing (by omega)
    have hquiet := h.core.quiet fun k hk => by cases hm.symm.trans hk; exact ho.2.2
    rw [State.Flows, State.committed_view, hdone, hview, hzero]
    exact ⟨h.core.replace (context := s.view.context) hquiet (fun _ _ _ hk => by cases hk) (fun _ => rfl)
      (fun hk => absurd hk (Nat.lt_irrefl 0)) (fun _ hk => by cases hk) (Nat.zero_le 1)
      (fun _ => ⟨rfl, fun _ hk => by cases hk⟩), fun _ hk => by cases hk⟩

theorem takeSave (h : s.Flows x) : s.takeSave.Flows x := h

theorem written {r : Record} {rest : List Record} (h : s.Flows x) (hq : s.queue = r :: rest) : (s.written r rest).Flows x := by
  unfold State.written; dsimp only
  have head := h.headWritten (u := { s with
    queue := rest, writing := false, audit := s.audit.write r, startRecords := s.startRecords - 1 }) hq rfl
  split
  · split
    · exact head.takeSave
    · exact head
  · exact head.grant

/-! ### Power failure, START and time -/

/-- A change of every slot that makes none COMPOSING and leaves those that are. -/
theorem mapSlots {f : Slot → Slot} (h : s.Flows x) (hf : ∀ y, (f y).state = y.state) : (s.mapSlots f).Flows x := by
  refine h.of_view (State.view_congr (fun _ => ⟨rfl, rfl⟩) ?_ rfl rfl rfl rfl rfl rfl)
  rw [State.view_load, State.view_load]
  refine congrArg (fun g => Option.map g s.load) (funext fun l => ?_)
  rw [LoadRecord.view, LoadRecord.view, State.mapSlots_get, hf]

theorem powerDown (h : s.Flows { x with begun := false }) : s.powerDown.Flows { x with begun := false } := by
  have stopped : ((((s.mapArms Arm.powerDown).mapPumps Pump.powerDown).cutStrokes).mapSlots fun x =>
      { x with holdTimer := none }).Flows { x with begun := false } :=
    mapSlots (of_view (mapArms (f := Arm.powerDown) h fun _ => ⟨rfl, id⟩) (State.cutStrokes_view _)) fun _ => rfl
  have off {u : State} (h : u.Flows { x with begun := false }) : ({ u with
      safety := { u.safety with validity := none, horn := false }
      phase := .powerDown, pfail := true, imageOwed := false, chargeOwed := none, checkpointOwed := false
      backlog := [], startRecords := 0 } : State).Flows { x with begun := false } := by
    have hview : ({ u with
        safety := { u.safety with validity := none, horn := false }
        phase := .powerDown, pfail := true, imageOwed := false, chargeOwed := none, checkpointOwed := false
        backlog := [], startRecords := 0 } : State).view = { u.view with starting := false, owed := false } := rfl
    rw [State.Flows, hview]
    exact ⟨{ h.core with
      noneOwed := rfl, starting := fun hs => absurd hs Bool.false_ne_true, begun := fun _ => rfl }, h.tables⟩
  unfold State.powerDown
  extract_lets s1 y s2
  have h1 : s1.Flows { x with begun := false } := stopped
  clear_value s1
  have h2 : s2.Flows { x with begun := false } := off h1
  split
  · exact h2.takeSave
  · exact h2

/-- START takes a part in start-up, where no commit record waits and no compartment is active (R186). -/
theorem begin (h : s.Flows x) (hs : s.phase = .startUp) : s.begin.Flows x := by
  obtain ⟨hk, hload⟩ := h.core.starting (State.view_starting.2 hs)
  have begun {u : State} (hu : u.view = { s.view with starting := false }) : u.Flows x := by
    rw [State.Flows, hu]
    exact ⟨{ h.core with starting := fun hs => absurd hs Bool.false_ne_true, begun := fun _ => rfl }, h.tables⟩
  unfold State.begin; dsimp only; split
  · exact begun rfl
  · rename_i l hl
    split
    · rename_i hst
      exact handOff (begun rfl) (l := l) hl hst (hload _ (State.view_load_of hl)).2 hk rfl
    · exact begun rfl

theorem tickTimers (h : s.Flows x) : s.tickTimers.Flows x := by
  refine h.of_view (State.view_congr (fun a => by rw [s.tickTimers_arm]; exact ⟨rfl, rfl⟩) ?_
    (by rw [s.tickTimers_safety]; rfl) ?_ ?_ ?_ ?_ ?_)
  all_goals simp [State.tickTimers]

theorem tick (h : s.Flows x) : s.tick.Flows x := by
  unfold State.tick; split
  · exact h
  · exact h
  · exact h.tickTimers
  · exact h.tickTimers.mapSlots fun _ => rfl

theorem poll {r : ConverterAnswer} (h : s.Flows x) : (s.poll r).Flows x := by
  unfold State.poll; dsimp only; split <;> exact h

theorem pumpFeedback {p : Fin 4} {on : Bool} (h : s.Flows x) : (s.pumpFeedback p on).Flows x := by
  have seen : (s.modifyPump p fun x => { x with feedback := on }).Flows x := h
  unfold State.pumpFeedback; dsimp only; split
  · exact seen.pumpRunning
  · exact seen.failPump
  · exact seen.failPump
  all_goals exact seen

/-! ### Windows -/

/-- Outside start-up an owner keeps the invariant. -/
theorem take {w : Win} {i : Instr} (h : s.Flows {}) (hp : s.phase ≠ .startUp) : (s.take w (ownerOf i)).Flows {} := by
  have hs : s.view.starting = false := by
    rw [← Bool.not_eq_true, State.view_starting]; exact hp
  have owned : (ownerOf i s).1.Flows { begun := true } := owner (FlowView.Lawful.begin h hs) rfl rfl
  unfold State.take
  generalize ownerOf i s = answer at owned ⊢
  exact FlowView.Lawful.weaken owned

theorem request {c : ReqCode} {w : Win} {i : Instr} (h : s.Flows {}) (he : Machine.request c w (ownerOf i) s = .next t) :
    t.Flows {} := by
  unfold Machine.request at he
  split at he
  · cases he; exact h
  rename_i hw
  split at he
  · cases he; exact h
  split at he
  · cases he; exact h
  · cases he
    refine take (s := s.seen c w) h fun hp => ?_
    have hphase : s.phase = .startUp := hp
    simp [State.takesWindows, hphase] at hw

theorem judged {p : Port} {b : List Byte} {j : Inbound} (h : s.Flows {}) (hp : s.phase ≠ .startUp) :
    (s.judged p b j).Flows {} := by
  unfold State.judged; split
  · exact h
  · exact h
  unfold State.framed; (repeat' split) <;> (try exact h)
  exact h.take hp

/-! ### The rows that are no requests -/

theorem execGateExpiry {m : Fin 4} (h : s.Flows {}) (he : Machine.execGateExpiry m s = .next t) : t.Flows {} := by
  unfold Machine.execGateExpiry at he; split at he <;> cases he
  · rename_i hg
    have gated : (s.gate m).Flows { begun := true } :=
      gate (FlowView.Lawful.begin h (State.starting_of_timersRun hg.1)) rfl rfl
    exact startWrite (FlowView.Lawful.weaken gated)
  · exact h

theorem execPollSlot {r : ConverterAnswer} (h : s.Flows {}) (he : Machine.execPollSlot r s = .next t) : t.Flows {} := by
  unfold Machine.execPollSlot at he; split at he <;> cases he
  · exact h.poll
  · exact h

theorem execSettleTimerExpiry {a : Fin 4} (h : s.Flows {}) (he : Machine.execSettleTimerExpiry a s = .next t) :
    t.Flows {} := by
  unfold Machine.execSettleTimerExpiry at he; split at he <;> cases he
  · exact h.settleExpired.startWrite
  · exact h

theorem execCloseTimerExpiry {a : Fin 4} (h : s.Flows {}) (he : Machine.execCloseTimerExpiry a s = .next t) :
    t.Flows {} := by
  unfold Machine.execCloseTimerExpiry at he; (repeat' split at he) <;> obtain rfl := Host.Outcome.next.inj he
  · rename_i n hn hrun
    have hserved : s.arms[a].served = some n := by
      unfold Arm.closingFor at hn; split at hn
      · exact hn
      · cases hn
    have closed : (s.closeExpired a n).Flows { begun := true } :=
      closeExpired (FlowView.Lawful.begin h (State.starting_of_timersRun hrun)) rfl rfl
        (Arm.closing_or_fault_of_closingFor hn) hserved
    exact startWrite (FlowView.Lawful.weaken closed)
  · exact h
  · exact h

theorem execPumpFeedback {p : Fin 4} {on : Bool} (h : s.Flows {}) (he : Machine.execPumpFeedback p on s = .next t) :
    t.Flows {} := by
  unfold Machine.execPumpFeedback at he; split at he <;> cases he
  · exact h
  · exact h
  · exact h.pumpFeedback.startWrite
  · exact h.pumpFeedback.startWrite

theorem execStartTimerExpiry {p : Fin 4} (h : s.Flows {}) (he : Machine.execStartTimerExpiry p s = .next t) :
    t.Flows {} := by
  unfold Machine.execStartTimerExpiry at he; split at he <;> cases he
  · exact h.failPump.startWrite
  · exact h

theorem execRunOnTimerExpiry {p : Fin 4} (h : s.Flows {}) (he : Machine.execRunOnTimerExpiry p s = .next t) :
    t.Flows {} := by
  unfold Machine.execRunOnTimerExpiry at he; split at he <;> cases he <;> exact h

theorem execInjectorFeedback {j : Fin 8} {on : Bool} (h : s.Flows {})
    (he : Machine.execInjectorFeedback j on s = .next t) : t.Flows {} := by
  unfold Machine.execInjectorFeedback at he; split at he <;> cases he
  · exact h
  all_goals exact (h.of_view (State.injectorFeedback_view j on s)).startWrite

theorem execFeedbackTimerExpiry {j : Fin 8} (h : s.Flows {}) (he : Machine.execFeedbackTimerExpiry j s = .next t) :
    t.Flows {} := by
  unfold Machine.execFeedbackTimerExpiry at he; split at he <;> cases he
  · exact h.missStroke.startWrite
  · exact h

theorem execEsdInputChange {on : Bool} (h : s.Flows {}) (he : Machine.execEsdInputChange on s = .next t) :
    t.Flows {} := by
  unfold Machine.execEsdInputChange at he; split at he <;> cases he
  · exact h
  · exact h.esdInput.startWrite
  · exact h.esdInput.startWrite
  · exact h

theorem execValidityTimerExpiry (h : s.Flows {}) (he : Machine.execValidityTimerExpiry s = .next t) : t.Flows {} := by
  unfold Machine.execValidityTimerExpiry at he; split at he <;> cases he
  · exact h.goStale.startWrite
  · exact h

theorem execFirstExpiry (h : s.Flows {}) (he : Machine.execFirstExpiry s = .next t) : t.Flows {} := by
  unfold Machine.execFirstExpiry at he; split at he <;> cases he
  · exact h.firstExpiry
  · exact h

theorem execSecondExpiry (h : s.Flows {}) (he : Machine.execSecondExpiry s = .next t) : t.Flows {} := by
  unfold Machine.execSecondExpiry at he; split at he <;> cases he
  · exact h.secondExpiry.startWrite
  · exact h

theorem execContextTimerExpiry (h : s.Flows {}) (he : Machine.execContextTimerExpiry s = .next t) : t.Flows {} := by
  unfold Machine.execContextTimerExpiry at he; (repeat' split at he) <;> cases he
  · exact h
  · exact h.dropContext
  · exact h

theorem execHoldTimerExpiry {i : Fin 8} (h : s.Flows {}) (he : Machine.execHoldTimerExpiry i s = .next t) :
    t.Flows {} := by
  unfold Machine.execHoldTimerExpiry at he; split at he <;> cases he
  · exact h.modifySlot rfl
  · exact h

theorem execSealInputChange {on : Bool} (h : s.Flows {}) (he : Machine.execSealInputChange on s = .next t) :
    t.Flows {} := by
  have changed : (s.sealChange on).Flows {} := by
    unfold State.sealChange; dsimp only; (repeat' split) <;> exact h
  unfold Machine.execSealInputChange at he; split at he <;> cases he
  · exact h
  all_goals exact changed

theorem execBayClockSecond (h : s.Flows {}) (he : Machine.execBayClockSecond s = .next t) : t.Flows {} := by
  unfold Machine.execBayClockSecond at he; split at he <;> cases he <;> exact h

theorem execRecordWriteComplete (h : s.Flows {}) (he : Machine.execRecordWriteComplete s = .next t) : t.Flows {} := by
  unfold Machine.execRecordWriteComplete at he; (repeat' split at he) <;> cases he
  · exact h
  · exact (h.written ‹_›).startWrite
  · exact h

theorem execSaveWriteComplete (h : s.Flows {}) (he : Machine.execSaveWriteComplete s = .next t) : t.Flows {} := by
  unfold Machine.execSaveWriteComplete at he; split at he <;> cases he <;> exact h

theorem execPfailAssertion (h : s.Flows {}) (he : Machine.execPfailAssertion s = .next t) : t.Flows {} := by
  unfold Machine.execPfailAssertion at he; split at he <;> obtain rfl := Host.Outcome.next.inj he
  · exact h
  · exact h
  · exact powerDown (x := {}) h
  · exact powerDown (x := {}) h

theorem execStart (h : s.Flows {}) (he : Machine.execStart s = .next t) : t.Flows {} := by
  unfold Machine.execStart at he; split at he <;> cases he
  · rename_i hr
    simp only [State.startReady, Bool.and_eq_true, beq_iff_eq] at hr
    exact (h.begin hr.1.1).startWrite
  · exact h

theorem decode {m : Fin 4} {f : Meter → Meter} (h : s.Flows {}) : (s.decode m f).Flows {} := by
  unfold State.decode; (repeat' split) <;> exact h

/-- Every command but a restart keeps the flow invariant on the view. -/
theorem exec {c : Instr} (h : s.Flows {}) (hc : restarts c = false) (he : Machine.exec c s = .next t) : t.Flows {} := by
  cases hr : reqCode? c with
  | some k =>
    obtain ⟨w, hw⟩ := win?_of_reqCode? hr
    rw [exec_eq_request hr hw] at he
    exact h.request he
  | none =>
    cases c <;> simp only [reqCode?, restarts, reduceCtorEq, Bool.true_eq_false] at hr hc
    case selectWindow p b =>
      simp only [Machine.exec, execSelectWindow] at he
      split at he <;> obtain rfl := Host.Outcome.next.inj he
      · rename_i hw
        refine judged (s := s.window p b.length (b.take 65)) h fun hp => ?_
        have hphase : s.phase = .startUp := hp
        simp [State.takesWindows, hphase] at hw
      · exact h
    case quadratureStep => obtain rfl := Host.Outcome.next.inj he; exact h.decode
    case integrityError => obtain rfl := Host.Outcome.next.inj he; exact h.decode
    case gateExpiry => exact h.execGateExpiry he
    case pollSlot => exact h.execPollSlot he
    case settleTimerExpiry => exact h.execSettleTimerExpiry he
    case closeTimerExpiry => exact h.execCloseTimerExpiry he
    case pumpFeedback => exact h.execPumpFeedback he
    case startTimerExpiry => exact h.execStartTimerExpiry he
    case runOnTimerExpiry => exact h.execRunOnTimerExpiry he
    case injectorFeedback => exact h.execInjectorFeedback he
    case feedbackTimerExpiry => exact h.execFeedbackTimerExpiry he
    case esdInputChange => exact h.execEsdInputChange he
    case validityTimerExpiry => exact h.execValidityTimerExpiry he
    case firstExpiry => exact h.execFirstExpiry he
    case secondExpiry => exact h.execSecondExpiry he
    case contextTimerExpiry => exact h.execContextTimerExpiry he
    case holdTimerExpiry => exact h.execHoldTimerExpiry he
    case sealInputChange => exact h.execSealInputChange he
    case bayClockSecond => exact h.execBayClockSecond he
    case recordWriteComplete => exact h.execRecordWriteComplete he
    case saveWriteComplete => exact h.execSaveWriteComplete he
    case pfailAssertion => exact h.execPfailAssertion he
    case start => exact h.execStart he

end State.Flows

/-! ### The restarts -/

/-- A part at rest: every arm IDLE, no context, no commit record, no note composed, and no compartment active. -/
theorem State.flowLawful_of_rest (hf : s.ValvesFit) (ha : ∀ a : Fin 4, s.arms[a].state = .idle ∧ s.arms[a].served = none)
    (he : s.safety.esdLatch = false) (hc : s.context = none) (hq : ∀ r ∈ s.queue ++ s.backlog, r.isCommit = false)
    (ho : s.chargeOwed = none)
    (hl : ∀ l, s.load = some l →
      l.Tabled ∧ s.slots[l.slot].state ≠ .composing ∧ ∀ c ∈ l.comps, c.state.isActive = false) :
    s.FlowLawful where
  fits := hf
  tabled l h := (hl l h).1
  served a n h := by rw [(ha a).2] at h; cases h
  staging a h := by rw [(ha a).1] at h; exact absurd h Bool.false_ne_true
  latched h := by rw [he] at h; exact absurd h Bool.false_ne_true
  context h := by rw [hc] at h; exact absurd h Bool.false_ne_true
  committing := fun ⟨r, hr, hcom⟩ => by rw [hq r (List.mem_append_left _ hr)] at hcom; exact absurd hcom Bool.false_ne_true
  composing l h hcom := absurd hcom (hl l h).2.1
  oneCommit := by
    rw [List.filter_eq_nil_iff.2 fun r hr => by simp [hq r (List.mem_append_left _ hr)]]; exact Nat.zero_le _
  noneOwed := ⟨fun r hr => (by rw [ho] at hr; cases hr), fun r hr => hq r (List.mem_append_right _ hr)⟩
  starting _ := ⟨fun r hr => hq r (List.mem_append_left _ hr), fun l h => (hl l h).2⟩

theorem State.fresh_idle (u : Audit) (m : Vector SavedMeter 4) (v : Vector Nat 8) (i : SampledInputs) :
    ∀ a : Fin 4, (State.fresh u m v i).arms[a].state = .idle ∧ (State.fresh u m v i).arms[a].served = none :=
  forall_four ⟨rfl, rfl⟩ ⟨rfl, rfl⟩ ⟨rfl, rfl⟩ ⟨rfl, rfl⟩

theorem State.hold_flowLawful (u : Audit) (s : State) : (s.hold u).FlowLawful := by
  refine State.flowLawful_of_rest (State.hold_valvesFit u s) ?_ rfl rfl (fun _ h => nomatch h) rfl fun _ h => nomatch h
  exact forall_four ⟨rfl, rfl⟩ ⟨rfl, rfl⟩ ⟨rfl, rfl⟩ ⟨rfl, rfl⟩

/-- A restored load stands in the table of R12, and no compartment of it is active (R24). -/
theorem LoadRecord.restored_lawful (m : Vector SavedMeter 4) (ab : Bool) (l : LoadRecord) :
    (l.restored m ab).Tabled ∧ ∀ c ∈ (l.restored m ab).comps, c.state.isActive = false := by
  have hcauses : (l.restored m ab).causes.isEmpty = false := by simp [LoadRecord.restored, CauseSet.isEmpty]
  constructor
  · rw [LoadRecord.Tabled, l.restored_state m ab, hcauses]
    by_cases h : l.state = .closing <;> simp [h]
  · intro c hc
    rw [LoadRecord.restored_comps, List.mem_map] at hc
    obtain ⟨d, _, rfl⟩ := hc
    split
    · have h := congrArg Prod.fst (d.restoredClosing_ends m)
      dsimp only at h; rw [h]
      split
      · rfl
      · simpa using ‹¬ d.state.isActive = true›
    · have h := congrArg Prod.fst (d.restored_ends m)
      dsimp only at h; rw [h]
      split
      · rfl
      · simpa using ‹¬ d.state.isActive = true›

theorem State.startUp_flowLawful (i : SampledInputs) (s : State) : (s.startUp i).FlowLawful := by
  refine State.flowLawful_of_rest (State.startUp_valvesFit i s) (fun a => ?_) ?_ ?_ (fun r hr => ?_) ?_ fun u hu => ?_
  · rw [State.startUp_eq]; exact State.fresh_idle s.audit s.audit.restoredMeters s.audit.restoredInjectors i a
  · rw [State.startUp_eq]; rfl
  · rw [State.startUp_eq]; rfl
  · rw [(State.startUp_records i s).1, List.mem_append, List.mem_append] at hr
    obtain (hr | hr) | hr := hr
    · obtain ⟨e, _, rfl⟩ := List.mem_map.1 hr; rfl
    · obtain ⟨l, _, rfl⟩ := List.mem_map.1 hr; rfl
    · split at hr
      · simp only [List.mem_cons, List.not_mem_nil, or_false] at hr
        obtain rfl | rfl := hr <;> rfl
      · cases hr
  · rw [State.startUp_eq]; rfl
  · have hu' : s.audit.restoredLoad = some u := by rw [State.startUp_eq] at hu; exact hu
    rw [State.startUp_own_slot i s hu']
    obtain ⟨l, _, rfl⟩ := Option.map_eq_some_iff.1 hu'
    obtain ⟨htab, hact⟩ := LoadRecord.restored_lawful s.audit.restoredMeters (!s.audit.save.usable) l
    exact ⟨htab, (fun h => nomatch h), hact⟩

/-! ### The step -/

theorem step_flowLawful (h : s.FlowLawful) (he : step s = .next t) : t.FlowLawful := by
  obtain ⟨hfits, hview⟩ := State.flowLawful_iff.1 h
  have hfits' := stepKeepsValvesFit s t hfits he
  obtain rfl | ⟨c, rest, _, he⟩ := step_cases he
  · exact State.flowLawful_iff.2 ⟨hfits', State.Flows.tick hview⟩
  cases hc : restarts c with
  | false => exact State.flowLawful_iff.2 ⟨hfits', State.Flows.exec (s := { s with pending := rest }) hview hc he⟩
  | true =>
    obtain rfl | ⟨i, rfl⟩ | ⟨a, rfl⟩ := exec_restart hc he
    · exact State.flowLawful_iff.2 ⟨hfits', hview⟩
    · exact State.flowLawful_iff.2 ⟨hfits', (State.flowLawful_iff.1 (State.startUp_flowLawful i _)).2⟩
    · exact State.hold_flowLawful a _

/-- Settles O6: what each operation leaves of the agreement between arms and load record, and what of it an open valve draws on. -/
theorem stepKeepsFlowLawful : Obligations.StepKeepsFlowLawful := by
  refine ⟨fun _ _ => step_flowLawful, fun s h a hv => ?_⟩
  have hflow : s.arms[a].state.isFlowing = true := (h.fits a).1 hv
  have hstaging : s.arms[a].state.isStaging = true := by
    revert hflow
    cases s.arms[a].state <;> simp [ArmState.isFlowing, ArmState.isStaging]
  obtain ⟨n, l, c, hn, hl, hc, hd, hact, hcau⟩ := h.staging a hstaging
  obtain ⟨l', c', hl', hc', harm, _⟩ := h.served a n hn
  cases hl.symm.trans hl'
  cases hc.symm.trans hc'
  refine ⟨?_, n, l, c, hn, hl, hc, harm, hd, hact, hcau⟩
  by_contra hlatch
  have hesd := h.latched (by simpa using hlatch) l hl
  simp [CauseSet.isEmpty, hesd] at hcau

end Sys2Proof.Machine
end
